-- ==== Sys2Proof/Word.lean ====
section
/-! DEFINITION. The words of the part: bytes of the link, samples, time stamps, and the numbers of its objects. -/

namespace Sys2Proof

/-- A byte of the host link (R166). -/
abbrev Byte := BitVec 8

/-- A two-byte field of the link (R190). -/
abbrev Word16 := BitVec 16

/-- A four-byte field of the link, and the width of the time stamp counter (R176, R190). -/
abbrev Word32 := BitVec 32

/-- An audio sample: 16-bit signed two's complement (R190). -/
abbrev Sample := BitVec 16

/-- The 8 samples of one leg in one mixing frame (R132). -/
abbrev Block := Vector Sample 8

/-- Legs 0–15 are radio legs, 16–19 console legs (R1). -/
abbrev LegId := Fin 20

/-- A radio leg, the only legs with a transmit machine and an aux input (R1). -/
abbrev RadioId := Fin 16

/-- Patch n of the manual, 1–12, is index n − 1 (R51). -/
abbrev PatchId := Fin 12

/-- Route entries 0–39 (R121). -/
abbrev EntryId := Fin 40

/-- Clip slots 0–7 (R145). -/
abbrev SlotId := Fin 8

/-- Clip blocks 0–255 (R144). -/
abbrev BlockId := Fin 256

/-- Agency entries 0–31 (R30). -/
abbrev AgencyId := Fin 32

/-- Plan entries 0–255 (R31). -/
abbrev PlanId := Fin 256

/-- Eight samples of silence (R135). -/
def silence : Block := Vector.replicate 8 0

end Sys2Proof
end

