-- ==== Sys2Proof/Config.lean ====
section
/-! DEFINITION. What the part fixes once: its capacities, and the one value the manual leaves open. -/

namespace Sys2Proof.Config

/-- The Notice Queue holds at most 32 notices (R185). -/
def noticeCapacity : Nat := 32

/-- The stream ring holds at most 1,024 samples (R146). -/
def ringCapacity : Nat := 1024

/-- A patch has at most 8 members (R53). -/
def memberCapacity : Nat := 8

/-- A console monitors at most 4 patches (R54). -/
def monitorCapacity : Nat := 4

/-- With this many replies waiting an addressed frame is dropped (R172 step 1). -/
def replyLimit : Nat := 4

/-- A frame's content is at most 257 bytes (R170). -/
def contentLimit : Nat := 257

/-- Samples in one clip block (R144). -/
def blockSamples : Nat := 512

/-- Samples of cut tone in one tone (R158). -/
def toneSamples : Nat := 1600

/-- FREE VALUE. The position field of the playback context after the last pass of a stored clip, before the
playback's end completes. R156 does not return it to 0 and R147 bounds it below the length. Log 14. -/
opaque lastPosition : Nat → Nat

end Sys2Proof.Config
end

