-- ==== Sys2Proof/Syntax.lean ====
section
/-! DEFINITION. The commands of the part: one constructor of `Instr` per row of spec/opcode_table.json.

A request row carries its header and its fields as the frame's body carries them (R195), so that a value out of
range can be asked and refused. An event row carries what arrives with the event. Logs 1 and 2. -/

namespace Sys2Proof

/-- What a request carries beside its fields: the tag the host chose, and whether it was addressed to station 63
(R168, R171). -/
structure Header where
  tag : Byte
  broadcast : Bool
deriving DecidableEq, Repr

/-- The body of SETLEG (R195). -/
structure SetLegArgs where
  leg : Byte
  inputMode : Byte
  carrierPolarity : Byte
  rise : Word16
  drop : Word16
  vox : Byte
  auxFunction : Byte
  auxPolarity : Byte
  window : Word16
  mask : Byte
  options : Byte
deriving DecidableEq, Repr

/-- The body of AGENCY (R195). -/
structure AgencyArgs where
  agency : Byte
  valid : Byte
  code : Vector Byte 4
  base : Byte
  count : Byte
deriving DecidableEq, Repr

/-- One entry of a PLAN body, 12 bytes (R195). -/
structure PlanArgs where
  valid : Byte
  agency : Byte
  authority : Byte
  ceiling : Byte
  defaultPriority : Byte
  keyLead : Word16
  timeLimit : Word16
  lockout : Byte
  duplex : Byte
  gain : Byte
deriving DecidableEq, Repr

/-- The body of BIND (R197). -/
structure BindArgs where
  leg : Byte
  agency : Byte
  channel : Byte
  expected : Byte
  priority : Byte
  options : Byte
deriving DecidableEq, Repr

/-- An access list of 9 bytes: 1 for ALL or 0 for a set, then the set, index i in byte 1 + i div 8 with weight
2 to the power (i mod 8) (R190). Bit i of `indices` is index i. -/
structure AccessArgs where
  all : Byte
  indices : BitVec 64
deriving DecidableEq, Repr

/-- The body of OPEN (R195). -/
structure OpenArgs where
  patch : Byte
  label : Vector Byte 8
  access : AccessArgs
  margin : Byte
  hang : Word16
  talkLimit : Word16
  floorNotices : Byte
deriving DecidableEq, Repr

/-- What the line delivers at one byte time: a byte, or a byte without its stop bit (R166). -/
inductive LineEvent where
  | byte (b : Byte)
  | lineError
deriving DecidableEq, Repr

/-- The request kinds of the link (R193). -/
inductive Kind where
  | status | fetch | reset | events
  | setLeg | park | unpark | legq
  | agency | plan | revoke | bind | unbind | dirq
  | openPatch | join | leave | disband | access | monitor | patchq
  | talk | seize | declare | floorq | routeq
  | load | stream | play | halt | clipq
deriving DecidableEq, Repr

/-- The commands, in the order of spec/opcode_table.json. -/
inductive Instr where
  /-- POWER_ON: the six address straps and the two rate straps as they are read (R166, R167, R180). -/
  | powerOn (address : BitVec 6) (rate : BitVec 2)
  /-- RESET_LINE: the straps as they are read again (R180). -/
  | resetLine (address : BitVec 6) (rate : BitVec 2)
  | frameReceived
  | replySent
  | status (h : Header)
  | fetch (h : Header) (max : Byte)
  | resetAll (h : Header)
  | resetAllTakesPlace
  | resetPatches (h : Header)
  | events (h : Header)
  | setLeg (h : Header) (a : SetLegArgs)
  | park (h : Header) (leg : Byte)
  | unpark (h : Header) (leg : Byte)
  | legq (h : Header) (leg : Byte)
  | agency (h : Header) (a : AgencyArgs)
  | plan (h : Header) (first : Byte) (entries : List PlanArgs)
  | revoke (h : Header) (agency : Byte)
  | bind (h : Header) (a : BindArgs)
  | unbind (h : Header) (leg : Byte)
  | dirq (h : Header) (table first count : Byte)
  | openPatch (h : Header) (a : OpenArgs)
  | join (h : Header) (patch leg options : Byte)
  | leave (h : Header) (leg : Byte)
  | disband (h : Header) (first count options : Byte)
  | access (h : Header) (patch : Byte) (list : AccessArgs)
  | monitorOn (h : Header) (leg patch gain : Byte)
  | monitorOff (h : Header) (leg patch gain : Byte)
  | patchq (h : Header) (patch : Byte)
  | talkPress (h : Header) (leg : Byte)
  | talkRelease (h : Header) (leg : Byte)
  | seize (h : Header) (patch leg : Byte)
  | seizeClear (h : Header) (patch : Byte)
  | floorq (h : Header) (patch : Byte)
  | declareOn (h : Header) (leg : Byte)
  | declareOff (h : Header) (leg : Byte)
  | routeq (h : Header) (patch : Byte)
  | loadDefine (h : Header) (slot : Byte) (length : Word32) (level : Byte)
  | loadWrite (h : Header) (slot : Byte) (offset : Word32) (samples : List Sample)
  | loadRelease (h : Header) (slot : Byte)
  | streamDefine (h : Header) (slot : Byte) (length : Word32) (level : Byte)
  | streamData (h : Header) (slot : Byte) (samples : List Sample)
  | play (h : Header) (slot patch mode priority repeats : Byte)
  | halt (h : Header)
  | clipq (h : Header)
  /-- CARRIER_CONDITION_CHANGE: the leg's carrier input or press-to-talk switch is now at this level (R5). -/
  | carrierConditionChange (leg : LegId) (high : Bool)
  | riseQualifyExpiry (leg : LegId)
  | dropQualifyExpiry (leg : LegId)
  | barredDropExpiry (leg : LegId)
  /-- AUX_INPUT_CHANGE: the radio leg's aux input is now at this level (R19). -/
  | auxInputChange (leg : RadioId) (high : Bool)
  | auxRiseQualifyExpiry (leg : RadioId)
  | auxDropQualifyExpiry (leg : RadioId)
  | leadTimerExpiry (leg : RadioId)
  | tailTimerExpiry (leg : RadioId)
  | transmitTimeLimit (leg : RadioId)
  | lockoutExpiry (leg : RadioId)
  | confirmWindowExpiry (leg : RadioId)
  | hangExpiry (patch : PatchId)
  | talkLimitExpiry (patch : PatchId)
  /-- FRAME_START: the 8 inbound samples each leg's codec delivered in the millisecond that ends at the tick
  (R133), and the order in which legs whose VOX condition changes at this tick are taken, the legs it does not
  name following in ascending order (R5, R84; log 8). -/
  | frameStart (inbound : Vector Block 20) (order : List LegId)
  | clipComplete
  | cutToneEnd
  /-- FRAME_DONE: how many further purges requesters ask for before the next tick is taken, `none` for all of them
  (R139; log 7). -/
  | frameDone (beforeTick : Option Nat)
  | byteReceived (event : LineEvent)
deriving DecidableEq, Repr

end Sys2Proof
end

