-- ==== Sys2Proof/WellFormed.lean ====
section
/-! DEFINITION. Which commands can arrive. A frame's body is at most 252 bytes (R168), which bounds the lists a
request carries; SEIZE with leg 255 is the row SEIZE_CLEAR (R190); the order of FRAME_START names a leg once. -/

namespace Sys2Proof

/-- The well-formedness of a command. A command that fails it is no row's own form; the machine still answers it. -/
def Instr.wellFormed : Instr → Bool
  | .plan _ _ entries => entries.length ≤ 20
  | .loadWrite _ _ _ samples => samples.length ≤ 122
  | .streamData _ _ samples => samples.length ≤ 124
  | .seize _ _ leg => leg != 255
  | .frameStart _ order => decide order.Nodup
  | .powerOn _ _ | .resetLine _ _ | .frameReceived | .replySent | .status _ | .fetch _ _ | .resetAll _
  | .resetAllTakesPlace | .resetPatches _ | .events _ | .setLeg _ _ | .park _ _ | .unpark _ _ | .legq _ _
  | .agency _ _ | .revoke _ _ | .bind _ _ | .unbind _ _ | .dirq _ _ _ _ | .openPatch _ _ | .join _ _ _ _
  | .leave _ _ | .disband _ _ _ _ | .access _ _ _ | .monitorOn _ _ _ _ | .monitorOff _ _ _ _ | .patchq _ _
  | .talkPress _ _ | .talkRelease _ _ | .seizeClear _ _ | .floorq _ _ | .declareOn _ _ | .declareOff _ _
  | .routeq _ _ | .loadDefine _ _ _ _ | .loadRelease _ _ | .streamDefine _ _ _ _ | .play _ _ _ _ _ _ | .halt _
  | .clipq _ | .carrierConditionChange _ _ | .riseQualifyExpiry _ | .dropQualifyExpiry _ | .barredDropExpiry _
  | .auxInputChange _ _ | .auxRiseQualifyExpiry _ | .auxDropQualifyExpiry _ | .leadTimerExpiry _
  | .tailTimerExpiry _ | .transmitTimeLimit _ | .lockoutExpiry _ | .confirmWindowExpiry _ | .hangExpiry _
  | .talkLimitExpiry _ | .clipComplete | .cutToneEnd | .frameDone _ | .byteReceived _ => true

end Sys2Proof
end

