-- ==== Sys2Proof/Decode.lean ====
section
/-! DEFINITION. Reading the link: the frame's escaping and check word (R168, R169), the kind codes (R193), and a
request's body (R190, R191, R195–R198); after them the other direction, a request's kind and body as bytes.

No row of spec/opcode_table.json gives bits, so `decodeTableWord` reads no command. -/

namespace Sys2Proof

/-- The delimiter byte of a frame (R168). -/
def delimiter : Byte := 0xE7

/-- The escape byte of a frame (R168). -/
def escapeByte : Byte := 0xE6

/-- A content byte as it goes on the line (R168). -/
def escaped (b : Byte) : List Byte :=
  if b = delimiter ∨ b = escapeByte then [escapeByte, b ^^^ 0x10] else [b]

/-- One bit into the check register: feedback, shift left, 0x8005 (R169). -/
def crcBit (reg : Word16) (bit : Bool) : Word16 :=
  if bit ^^ reg.msb then (reg <<< 1) ^^^ 0x8005 else reg <<< 1

/-- One byte into the check register, most significant bit first (R169). -/
def crcByte (reg : Word16) (b : Byte) : Word16 :=
  [7, 6, 5, 4, 3, 2, 1, 0].foldl (fun r i => crcBit r (b.getLsbD i)) reg

/-- The check word over the content bytes from the address through the body (R169). -/
def checkWord (content : List Byte) : Word16 := content.foldl crcByte 0xFFFF

/-- The bytes of a two-byte field, most significant first (R190). -/
def bytes16 (w : Word16) : List Byte := [w.extractLsb' 8 8, w.extractLsb' 0 8]

/-- The bytes of a four-byte field, most significant first (R190). -/
def bytes32 (w : Word32) : List Byte :=
  [w.extractLsb' 24 8, w.extractLsb' 16 8, w.extractLsb' 8 8, w.extractLsb' 0 8]

/-- The two-byte field made of two bytes, most significant first (R190). -/
def word16 (hi lo : Byte) : Word16 := hi ++ lo

/-- The four-byte field made of four bytes, most significant first (R190). -/
def word32 (b3 b2 b1 b0 : Byte) : Word32 := b3 ++ b2 ++ b1 ++ b0

/-- The set of an access list from its eight bytes, index i in byte i div 8, weight 2 to the power (i mod 8). -/
def word64 (b0 b1 b2 b3 b4 b5 b6 b7 : Byte) : BitVec 64 := b7 ++ b6 ++ b5 ++ b4 ++ b3 ++ b2 ++ b1 ++ b0

/-- The eight bytes of an access list's set (R190). -/
def bytes64 (w : BitVec 64) : List Byte := (List.range 8).map fun i => w.extractLsb' (8 * i) 8

/-- The content of a frame closed by its check word, most significant byte first (R168, R169). -/
def withCheckWord (content : List Byte) : List Byte := content ++ bytes16 (checkWord content)

/-- The bytes of a whole frame on the line: delimiter, escaped content with its check word, delimiter (R168). -/
def frameBytes (content : List Byte) : List Byte :=
  delimiter :: ((withCheckWord content).flatMap escaped ++ [delimiter])

/-- The kind code of a request kind (R193). -/
def Kind.code : Kind → Byte
  | .status => 0x01 | .fetch => 0x02 | .reset => 0x03 | .events => 0x04
  | .setLeg => 0x10 | .park => 0x11 | .unpark => 0x12 | .legq => 0x13
  | .agency => 0x20 | .plan => 0x21 | .revoke => 0x22 | .bind => 0x23 | .unbind => 0x24 | .dirq => 0x25
  | .openPatch => 0x30 | .join => 0x31 | .leave => 0x32 | .disband => 0x33 | .access => 0x34 | .monitor => 0x35
  | .patchq => 0x36 | .talk => 0x40 | .seize => 0x41 | .declare => 0x42 | .floorq => 0x43 | .routeq => 0x44
  | .load => 0x50 | .stream => 0x51 | .play => 0x52 | .halt => 0x53 | .clipq => 0x54

/-- Every request kind. -/
def Kind.all : List Kind :=
  [.status, .fetch, .reset, .events, .setLeg, .park, .unpark, .legq, .agency, .plan, .revoke, .bind, .unbind, .dirq,
   .openPatch, .join, .leave, .disband, .access, .monitor, .patchq, .talk, .seize, .declare, .floorq, .routeq, .load,
   .stream, .play, .halt, .clipq]

/-- The kind a code names; every other code names no request (R193). -/
def Kind.ofCode (code : Byte) : Option Kind := Kind.all.find? fun k => k.code = code

/-- What a request's body is read as: a length that does not agree with the kind (R191), a form or choice byte that
names no row (refused with RANGE, R190, R191), or a command. -/
inductive Reading where
  | wrongLength
  | outOfRange
  | request (i : Instr)
deriving DecidableEq, Repr

/-- The entries of a PLAN body, 12 bytes each (R195). -/
def planEntries : List Byte → List PlanArgs
  | v :: a :: u :: c :: d :: k1 :: k0 :: t1 :: t0 :: l :: x :: g :: rest =>
    { valid := v, agency := a, authority := u, ceiling := c, defaultPriority := d, keyLead := word16 k1 k0,
      timeLimit := word16 t1 t0, lockout := l, duplex := x, gain := g } :: planEntries rest
  | _ => []

/-- The samples of a LOAD WRITE or STREAM DATA body, 2 bytes each (R195). -/
def sampleWords : List Byte → List Sample
  | hi :: lo :: rest => word16 hi lo :: sampleWords rest
  | _ => []

/-- A choice byte of two values selecting between two rows; any other value is out of range (R190). -/
def choose (b : Byte) (zero one : Instr) : Reading :=
  if b = 0 then .request zero else if b = 1 then .request one else .outOfRange

/-- A LOAD body: the form byte is read first (R191, R195). -/
def readLoad (h : Header) (form : Byte) (rest : List Byte) : Reading :=
  if form = 0 then
    match rest with
    | [slot, l3, l2, l1, l0, level] => .request (.loadDefine h slot (word32 l3 l2 l1 l0) level)
    | _ => .wrongLength
  else if form = 1 then
    match rest with
    | slot :: o3 :: o2 :: o1 :: o0 :: n :: samples =>
      if samples.length = 2 * n.toNat then .request (.loadWrite h slot (word32 o3 o2 o1 o0) (sampleWords samples))
      else .wrongLength
    | _ => .wrongLength
  else if form = 2 then
    match rest with
    | [slot] => .request (.loadRelease h slot)
    | _ => .wrongLength
  else .outOfRange

/-- A STREAM body: the form byte is read first (R191, R195). -/
def readStream (h : Header) (form : Byte) (rest : List Byte) : Reading :=
  if form = 0 then
    match rest with
    | [slot, l3, l2, l1, l0, level] => .request (.streamDefine h slot (word32 l3 l2 l1 l0) level)
    | _ => .wrongLength
  else if form = 1 then
    match rest with
    | slot :: n :: samples =>
      if samples.length = 2 * n.toNat then .request (.streamData h slot (sampleWords samples)) else .wrongLength
    | _ => .wrongLength
  else .outOfRange

/-- A request's body by its kind (R191, R195–R198). In SEIZE leg 255 means CLEAR (R190). -/
def readBody (h : Header) (k : Kind) (body : List Byte) : Reading :=
  match k, body with
  | .status, [] => .request (.status h)
  | .events, [] => .request (.events h)
  | .halt, [] => .request (.halt h)
  | .clipq, [] => .request (.clipq h)
  | .fetch, [max] => .request (.fetch h max)
  | .reset, [scope] => choose scope (.resetAll h) (.resetPatches h)
  | .park, [leg] => .request (.park h leg)
  | .unpark, [leg] => .request (.unpark h leg)
  | .legq, [leg] => .request (.legq h leg)
  | .unbind, [leg] => .request (.unbind h leg)
  | .leave, [leg] => .request (.leave h leg)
  | .revoke, [agency] => .request (.revoke h agency)
  | .patchq, [patch] => .request (.patchq h patch)
  | .floorq, [patch] => .request (.floorq h patch)
  | .routeq, [patch] => .request (.routeq h patch)
  | .talk, [leg, press] => choose press (.talkRelease h leg) (.talkPress h leg)
  | .seize, [patch, leg] => .request (if leg = 255 then .seizeClear h patch else .seize h patch leg)
  | .declare, [leg, on] => choose on (.declareOff h leg) (.declareOn h leg)
  | .dirq, [table, first, count] => .request (.dirq h table first count)
  | .disband, [first, count, options] => .request (.disband h first count options)
  | .join, [patch, leg, options] => .request (.join h patch leg options)
  | .monitor, [leg, patch, on, gain] => choose on (.monitorOff h leg patch gain) (.monitorOn h leg patch gain)
  | .play, [slot, patch, mode, priority, repeats] => .request (.play h slot patch mode priority repeats)
  | .bind, [leg, agency, channel, expected, priority, options] =>
    .request (.bind h ⟨leg, agency, channel, expected, priority, options⟩)
  | .agency, [agency, valid, c0, c1, c2, c3, base, count] =>
    .request (.agency h ⟨agency, valid, #v[c0, c1, c2, c3], base, count⟩)
  | .access, [patch, all, s0, s1, s2, s3, s4, s5, s6, s7] =>
    .request (.access h patch ⟨all, word64 s0 s1 s2 s3 s4 s5 s6 s7⟩)
  | .setLeg, [leg, inputMode, carrierPolarity, r1, r0, d1, d0, vox, auxFunction, auxPolarity, w1, w0, mask, options] =>
    .request (.setLeg h ⟨leg, inputMode, carrierPolarity, word16 r1 r0, word16 d1 d0, vox, auxFunction, auxPolarity,
      word16 w1 w0, mask, options⟩)
  | .openPatch, [patch, l0, l1, l2, l3, l4, l5, l6, l7, all, s0, s1, s2, s3, s4, s5, s6, s7, margin, h1, h0, t1, t0,
      floorNotices] =>
    .request (.openPatch h ⟨patch, #v[l0, l1, l2, l3, l4, l5, l6, l7], ⟨all, word64 s0 s1 s2 s3 s4 s5 s6 s7⟩, margin,
      word16 h1 h0, word16 t1 t0, floorNotices⟩)
  | .plan, first :: n :: entries =>
    if entries.length = 12 * n.toNat then .request (.plan h first (planEntries entries)) else .wrongLength
  | .load, form :: rest => readLoad h form rest
  | .stream, form :: rest => readStream h form rest
  | _, _ => .wrongLength

/-- The bytes of a PLAN entry (R195). -/
def PlanArgs.bytes (e : PlanArgs) : List Byte :=
  [e.valid, e.agency, e.authority, e.ceiling, e.defaultPriority] ++ bytes16 e.keyLead ++ bytes16 e.timeLimit ++
    [e.lockout, e.duplex, e.gain]

/-- The bytes of an access list (R190). -/
def AccessArgs.bytes (a : AccessArgs) : List Byte := a.all :: bytes64 a.indices

/-- A request row's header, kind and body; none for the rows that are no request. The converse of `readBody`. -/
def Instr.asRequest : Instr → Option (Header × Kind × List Byte)
  | .status h => some (h, .status, [])
  | .fetch h max => some (h, .fetch, [max])
  | .resetAll h => some (h, .reset, [0])
  | .resetPatches h => some (h, .reset, [1])
  | .events h => some (h, .events, [])
  | .setLeg h a => some (h, .setLeg, [a.leg, a.inputMode, a.carrierPolarity] ++ bytes16 a.rise ++ bytes16 a.drop ++
      [a.vox, a.auxFunction, a.auxPolarity] ++ bytes16 a.window ++ [a.mask, a.options])
  | .park h leg => some (h, .park, [leg])
  | .unpark h leg => some (h, .unpark, [leg])
  | .legq h leg => some (h, .legq, [leg])
  | .agency h a => some (h, .agency, [a.agency, a.valid] ++ a.code.toList ++ [a.base, a.count])
  | .plan h first entries =>
    some (h, .plan, first :: BitVec.ofNat 8 entries.length :: entries.flatMap PlanArgs.bytes)
  | .revoke h n => some (h, .revoke, [n])
  | .bind h a => some (h, .bind, [a.leg, a.agency, a.channel, a.expected, a.priority, a.options])
  | .unbind h leg => some (h, .unbind, [leg])
  | .dirq h table first count => some (h, .dirq, [table, first, count])
  | .openPatch h a => some (h, .openPatch, a.patch :: a.label.toList ++ a.access.bytes ++ [a.margin] ++
      bytes16 a.hang ++ bytes16 a.talkLimit ++ [a.floorNotices])
  | .join h patch leg options => some (h, .join, [patch, leg, options])
  | .leave h leg => some (h, .leave, [leg])
  | .disband h first count options => some (h, .disband, [first, count, options])
  | .access h patch list => some (h, .access, patch :: list.bytes)
  | .monitorOn h leg patch gain => some (h, .monitor, [leg, patch, 1, gain])
  | .monitorOff h leg patch gain => some (h, .monitor, [leg, patch, 0, gain])
  | .patchq h patch => some (h, .patchq, [patch])
  | .talkPress h leg => some (h, .talk, [leg, 1])
  | .talkRelease h leg => some (h, .talk, [leg, 0])
  | .seize h patch leg => some (h, .seize, [patch, leg])
  | .seizeClear h patch => some (h, .seize, [patch, 255])
  | .floorq h patch => some (h, .floorq, [patch])
  | .declareOn h leg => some (h, .declare, [leg, 1])
  | .declareOff h leg => some (h, .declare, [leg, 0])
  | .routeq h patch => some (h, .routeq, [patch])
  | .loadDefine h slot length level => some (h, .load, [0, slot] ++ bytes32 length ++ [level])
  | .loadWrite h slot offset samples => some (h, .load, [1, slot] ++ bytes32 offset ++
      [BitVec.ofNat 8 samples.length] ++ samples.flatMap bytes16)
  | .loadRelease h slot => some (h, .load, [2, slot])
  | .streamDefine h slot length level => some (h, .stream, [0, slot] ++ bytes32 length ++ [level])
  | .streamData h slot samples =>
    some (h, .stream, [1, slot, BitVec.ofNat 8 samples.length] ++ samples.flatMap bytes16)
  | .play h slot patch mode priority repeats => some (h, .play, [slot, patch, mode, priority, repeats])
  | .halt h => some (h, .halt, [])
  | .clipq h => some (h, .clipq, [])
  | .powerOn _ _ | .resetLine _ _ | .frameReceived | .replySent | .resetAllTakesPlace
  | .carrierConditionChange _ _ | .riseQualifyExpiry _ | .dropQualifyExpiry _ | .barredDropExpiry _
  | .auxInputChange _ _ | .auxRiseQualifyExpiry _ | .auxDropQualifyExpiry _ | .leadTimerExpiry _
  | .tailTimerExpiry _ | .transmitTimeLimit _ | .lockoutExpiry _ | .confirmWindowExpiry _ | .hangExpiry _
  | .talkLimitExpiry _ | .frameStart _ _ | .clipComplete | .cutToneEnd | .frameDone _ | .byteReceived _ => none

/-- The command an opcode-table word spells. No row of spec/opcode_table.json gives bits, so none does. -/
def decodeTableWord (_nbits _w : Nat) : Option Instr := none

end Sys2Proof
end

