-- ==== Sys2Proof/Machine/State.lean ====
section
/-! DEFINITION. The state of the part, block by block, as plain data, and its values after power-on. -/

namespace Sys2Proof.Machine

/-! ## Leg Units (chapter 1, R110) -/

/-- R2, R5. -/
inductive InputMode where
  | line | vox | both
deriving DecidableEq, Repr

/-- R2. -/
inductive AuxFunction where
  | off | emergency | confirm
deriving DecidableEq, Repr

/-- The kinds a leg's notice mask selects (R2, R184). -/
structure NoticeMask where
  carrier : Bool := false
  aux : Bool := false
  transmit : Bool := false
deriving DecidableEq, Repr

/-- The physical configuration of a leg, with the defaults of R2. Times in ms, the VOX threshold in dBFS. -/
structure LegConfig where
  inputMode : InputMode := .line
  carrierLow : Bool := false
  rise : Nat := 40
  drop : Nat := 300
  vox : Int := -30
  auxFunction : AuxFunction := .off
  auxLow : Bool := false
  window : Nat := 250
  mask : NoticeMask := {}
deriving DecidableEq, Repr

/-- The binding of a bound leg (R33). Key lead in ms, transmit time limit and lockout time in s. -/
structure Binding where
  agency : AgencyId
  channel : Nat
  planIndex : Nat
  generation : Byte
  authority : Fin 64
  priority : Nat
  ceiling : Nat
  defaultPriority : Nat
  duplex : Bool
  keyLead : Nat
  timeLimit : Nat
  lockout : Nat
  gain : Nat
deriving DecidableEq, Repr

/-- The receive machine's states (1.2). -/
inductive RxState where
  | idle | rising | active | falling | barred
deriving DecidableEq, Repr

/-- The receive machine with its timers, each stopped or with its ms left (R6, R7, R9). `barDropDone`: the drop of a
barred console has qualified while its TALK latch is pressed (R9, log 11). -/
structure Rx where
  state : RxState := .idle
  riseTimer : Option Nat := none
  dropTimer : Option Nat := none
  barTimer : Option Nat := none
  barDropDone : Bool := false
deriving DecidableEq, Repr

/-- The transmit machine's states (1.3). -/
inductive TxState where
  | off | lead | on | tail | lockout | fault
deriving DecidableEq, Repr

/-- Confirm supervision (R17): off, the window running with its ms left, or passed and watching. -/
inductive Confirm where
  | off
  | window (left : Nat)
  | passed
deriving DecidableEq, Repr

/-- The transmit machine: working values (R3), timers with their ms left, the ms of continuous keying measured or
none when not measuring (R15), confirm supervision, and the delay line, oldest sample first (R14). -/
structure Tx where
  state : TxState := .off
  keyLead : Nat := 0
  timeLimit : Nat := 0
  lockout : Nat := 0
  leadTimer : Option Nat := none
  tailTimer : Option Nat := none
  lockoutTimer : Option Nat := none
  keyed : Option Nat := none
  confirm : Confirm := .off
  line : List Sample := []
deriving DecidableEq, Repr

/-- The aux input's qualified state and its rising and falling phases (R19). -/
structure Aux where
  active : Bool := false
  riseTimer : Option Nat := none
  dropTimer : Option Nat := none
deriving DecidableEq, Repr

/-- Park state and park latch (R22). -/
structure Park where
  parked : Bool := false
  rx : RxState := .idle
  aux : Bool := false
deriving DecidableEq, Repr

/-- The event flags (R4). -/
structure EventFlags where
  rose : Bool := false
  fell : Bool := false
  aux : Bool := false
  transmit : Bool := false
deriving DecidableEq, Repr

/-- What set an emergency flag (R110). -/
inductive EmergencySource where
  | aux | declare
deriving DecidableEq, Repr

/-- What reaches the leg from outside: the level of its carrier input or switch, the level of its aux input, and the
peak magnitude of its last frame's inbound samples (R5, R19; log 12, log 8). -/
structure Inputs where
  carrierHigh : Bool := false
  auxHigh : Bool := false
  peak : Nat := 0
deriving DecidableEq, Repr

/-- A leg record (1.1) with the leg's inputs and the samples last handed to its codec or radio. The emergency flag is
set exactly when it has a source (R110). -/
structure Leg where
  config : LegConfig := {}
  binding : Option Binding := none
  membership : Option PatchId := none
  demand : Bool := false
  rx : Rx := {}
  tx : Tx := {}
  aux : Aux := {}
  park : Park := {}
  flags : EventFlags := {}
  emergency : Option EmergencySource := none
  talk : Bool := false
  inputs : Inputs := {}
  out : Block := silence
deriving DecidableEq, Repr

/-! ## Directory (chapter 2) -/

/-- An agency entry, with its values after reset (R30, R50): code four spaces, plan count 1. -/
structure Agency where
  valid : Bool := false
  code : Vector Byte 4 := Vector.replicate 4 0x20
  generation : Byte := 0
  base : Nat := 0
  count : Nat := 1
deriving DecidableEq, Repr

/-- A plan entry, with its values after reset (R31, R50). -/
structure PlanEntry where
  valid : Bool := false
  agency : AgencyId := 0
  authority : Fin 64 := 0
  ceiling : Nat := 0
  defaultPriority : Nat := 0
  keyLead : Nat := 0
  timeLimit : Nat := 0
  lockout : Nat := 0
  duplex : Bool := false
  gain : Nat := 0
deriving DecidableEq, Repr

/-- The Agency Table and the Plan Table. -/
structure Directory where
  agencies : Vector Agency 32 := Vector.replicate 32 {}
  plans : Vector PlanEntry 256 := Vector.replicate 256 {}
deriving DecidableEq, Repr

/-! ## Patches and their floors (chapters 3 and 4) -/

/-- A claimant, an owner or a route source: a leg or the clip player. -/
inductive Party where
  | leg (l : LegId)
  | clip
deriving DecidableEq, Repr

/-- When a claim arrived or a preemption was made: the time stamp, and the place of that event in the order in which
events were taken, by which R78 compares (log 20). -/
structure ClaimTime where
  stamp : Word32 := 0
  order : Nat := 0
deriving DecidableEq, Repr

/-- A waiting claim (R78); `marker` is the preempted marker. -/
structure Claim where
  party : Party
  priority : Nat
  time : ClaimTime
  marker : Option ClaimTime
deriving DecidableEq, Repr

/-- R77. -/
inductive FloorState where
  | idle | held | hang
deriving DecidableEq, Repr

/-- The floor fields of a patch (R77), timers with their ms left; `ownerClaim` is the time the owner's claim arrived
(R80, R89; log 27). -/
structure Floor where
  state : FloorState := .idle
  owner : Option Party := none
  lastOwner : Option LegId := none
  seized : Bool := false
  grantTime : Word32 := 0
  hangTimer : Option Nat := none
  talkTimer : Option Nat := none
  queue : List Claim := []
  ownerClaim : ClaimTime := {}
deriving DecidableEq, Repr

/-- R52. -/
inductive PatchState where
  | free | active | disbanding
deriving DecidableEq, Repr

/-- A set of authority indices (bit i is index i), or ALL (R51, R55). -/
inductive AccessList where
  | all
  | set (indices : BitVec 64)
deriving DecidableEq, Repr

/-- A patch record with the FREE values of R52; hang time in ms, talk limit in s. `chain` is the patch's chain of
route entries in the order they were reserved (R123). -/
structure Patch where
  state : PatchState := .free
  label : Vector Byte 8 := Vector.replicate 8 0x20
  access : AccessList := .set 0
  margin : Nat := 0
  hang : Nat := 0
  talkLimit : Nat := 0
  floorNotices : Bool := false
  members : List LegId := []
  monitors : List (LegId × Nat) := []
  floor : Floor := {}
  chain : List EntryId := []
deriving DecidableEq, Repr

/-! ## Route Engine (chapter 6) -/

/-- R122. -/
inductive EntryState where
  | free | reserved | active | purging
deriving DecidableEq, Repr

/-- R124. -/
inductive EntryKind where
  | member | monitor | overlay
deriving DecidableEq, Repr

/-- A route entry with the FREE values of R121; its next field is its place in the patch's chain (log 21). -/
structure Entry where
  state : EntryState := .free
  tag : Option PatchId := none
  kind : Option EntryKind := none
  dest : Option LegId := none
  source : Option Party := none
  pendingSource : Option Party := none
  gain : Nat := 0
deriving DecidableEq, Repr

/-- One ACTIVE entry as a frame took it at its start: source, destination, gain step, and its source block (R132). -/
structure Taken where
  source : Party
  dest : LegId
  gain : Nat
  block : Block
deriving DecidableEq, Repr

/-- Who is told of a purge's completion (R139). -/
inductive Requester where
  | leave
  | monitorOff
  | revoke
  | disband
  | resetPatches (patch : PatchId)
  | overlayEnd
deriving DecidableEq, Repr

/-- A purge waiting on the frame in progress, with the entries it took (R137). -/
structure Purge where
  requester : Requester
  entries : List EntryId
deriving DecidableEq, Repr

/-- The Route List, the frame in progress with the set it took, and the purges outstanding in request order. -/
structure Routes where
  entries : Vector Entry 40 := Vector.replicate 40 {}
  frame : Option (List Taken) := none
  purges : List Purge := []
deriving DecidableEq, Repr

/-! ## Clip Player (chapter 7) -/

/-- R145. -/
inductive SlotState where
  | empty | ready | stream | playing | waiting
deriving DecidableEq, Repr

/-- R145. -/
inductive SlotMode where
  | stored | stream
deriving DecidableEq, Repr

/-- A clip slot (R145) with its values after reset (R164). -/
structure Slot where
  state : SlotState := .empty
  mode : Option SlotMode := none
  length : Nat := 0
  blocks : List BlockId := []
  level : Nat := 0
deriving DecidableEq, Repr

/-- R147. -/
inductive Phase where
  | none | waiting | playing | tone | ending
deriving DecidableEq, Repr

/-- R147. -/
inductive PlayMode where
  | take | overlay
deriving DecidableEq, Repr

/-- R160. -/
inductive EndReason where
  | complete | underrun | halted | preempted | disbanded | reset
deriving DecidableEq, Repr

/-- The playback context (R147), every field 0 or none in phase NONE. `endDue`: the block that ends the playback has
been supplied, and the end is to be taken next (R156–R158; log 6). -/
structure Context where
  phase : Phase := .none
  slot : SlotId := 0
  patch : Option PatchId := none
  mode : PlayMode := .take
  priority : Nat := 0
  repeats : Nat := 0
  position : Nat := 0
  played : Word32 := 0
  tone : Nat := 0
  reason : Option EndReason := none
  endDue : Option EndReason := none
deriving DecidableEq, Repr

/-- Clip memory as (address, sample) pairs, the address of block b, offset o being 512 b + o; addresses strictly
rising, no zero sample listed; an unlisted address reads 0 (R144; log 13). -/
abbrev Memory := List (Nat × Sample)

/-- The slots, clip memory, the stream ring (oldest first), its accepted count, and the playback context. -/
structure Clips where
  slots : Vector Slot 8 := Vector.replicate 8 {}
  memory : Memory := []
  ring : List Sample := []
  accepted : Nat := 0
  context : Context := {}
deriving DecidableEq, Repr

/-! ## Link Controller (chapters 8 and 9) -/

/-- A CARRIER or AUX notice's edge (R183). -/
inductive Edge where
  | rose | fell
deriving DecidableEq, Repr

/-- A TRANSMIT notice's event (R183). -/
inductive TransmitEvent where
  | timeout | lockoutEnd | fault
deriving DecidableEq, Repr

/-- A FLOOR notice's event (R183). -/
inductive FloorEvent where
  | queued | preempted | granted | talkLimit | idle
deriving DecidableEq, Repr

/-- A notice's kind with its detail (R183). -/
inductive Detail where
  | carrier (edge : Edge)
  | aux (edge : Edge) (live : Bool)
  | transmit (event : TransmitEvent)
  | floor (event : FloorEvent) (clip : Bool)
  | emergency (set : Bool) (source : EmergencySource)
  | revoked (agency : AgencyId)
  | clip (slot : SlotId) (reason : EndReason) (played : Word32)
deriving DecidableEq, Repr

/-- A notice record (R182). -/
structure Notice where
  detail : Detail
  stamp : Word32
  leg : Option LegId
  patch : Option PatchId
deriving DecidableEq, Repr

/-- The receiver (R170). -/
inductive Receiver where
  | hunt
  | inFrame (content : List Byte) (escapePending : Bool)
deriving DecidableEq, Repr

/-- What the request in progress waits on (R175), with what it needs to go on.
LEAVE, MONITOR off and HALT wait on their purge. DISBAND: the patch being torn down, the patches of the range after
it, the count done, FORCE. REVOKE: the leg being removed with the patch it left, the legs after it, the agency, the
length of the revoke list. RESET PATCHES: the patches whose purges are to complete. RESET ALL: the replies still to be
sent before the reset takes place. -/
inductive Work where
  | leave
  | monitorOff
  | disband (current : Option PatchId) (rest : List PatchId) (done : Nat) (force : Bool)
  | revoke (current : Option (LegId × PatchId)) (rest : List LegId) (agency : AgencyId) (total : Nat)
  | halt
  | resetPatches (left : List PatchId)
  | resetAll (left : Nat)
deriving DecidableEq, Repr

/-- The request in progress (R175). -/
structure InProgress where
  kind : Kind
  header : Header
  work : Work
deriving DecidableEq, Repr

/-- A reply formed and not yet sent: the kind code and tag of its request, and its body (R168, R174). -/
structure Reply where
  kind : Byte
  tag : Byte
  body : List Byte
deriving DecidableEq, Repr

/-- The Link Controller: straps as read, receiver, request in progress, reply path, time stamp counter, Notice Queue
and gap flag. -/
structure Link where
  address : BitVec 6
  rate : BitVec 2
  receiver : Receiver := .hunt
  inProgress : Option InProgress := none
  waiting : List Reply := []
  sending : Option Reply := none
  stamp : Word32 := 0
  notices : List Notice := []
  gap : Bool := false
deriving DecidableEq, Repr

/-- Where the next tick falls in the walk of a DISBAND or REVOKE (R139; log 7). `due`: the walk waits for that tick, and
goes on in its step. `beforeTick`: how many further purges are still asked for before that tick, `none` for all. -/
structure Walk where
  due : Bool := false
  beforeTick : Option Nat := none
deriving DecidableEq, Repr

/-- The state of the part. `pending` holds the commands waiting, first in first out. `order` counts claim arrivals and
preemptions (log 20); `walk` places the next tick in the walk of a request (log 7); `freeCount` feeds the free value
(log 14). -/
structure State where
  pending : List Instr := []
  legs : Vector Leg 20 := Vector.replicate 20 {}
  directory : Directory := {}
  patches : Vector Patch 12 := Vector.replicate 12 {}
  routes : Routes := {}
  clips : Clips := {}
  link : Link
  order : Nat := 0
  walk : Walk := {}
  freeCount : Nat := 0
deriving DecidableEq, Repr

/-- The part after power-on, every block at its starting values (R28, R50, R75, R109, R142, R164, R180, R189), strapped
with address value 1 and rate 0 and with every input low (log 12). -/
def State.reset : State := { link := { address := 1, rate := 0 } }

/-- Faults of the machine. The manual has none: refusals are result codes, and conditions inside the part are notices
and state (00_scope.md). The type is empty, so no meaning answers a fault. -/
inductive Fault
deriving DecidableEq, Repr

/-- Refusals of the model. -/
inductive Refusal where
  /-- Raised by an arm of `exec` whose command has no meaning yet. Safe: nothing is claimed of it. -/
  | notModelled (mnemonic : String)
deriving DecidableEq, Repr

end Sys2Proof.Machine
end

