-- ==== Sys2Proof/Machine/Ops.lean ====
section
/-! DEFINITION. The named operations over the state that every block uses: reading and changing one record, clip
memory, timers, the numbers of patches and legs, and the order in which events are taken. -/

namespace Sys2Proof.Machine

/-! ## Records -/

/-- Leg record l. -/
def State.leg (s : State) (l : LegId) : Leg := s.legs.get l

/-- Leg record l changed by f. -/
def State.modLeg (s : State) (l : LegId) (f : Leg → Leg) : State :=
  { s with legs := s.legs.set l (f (s.leg l)) }

/-- Every leg record changed by f. -/
def State.mapLegs (s : State) (f : LegId → Leg → Leg) : State :=
  { s with legs := Vector.ofFn fun l => f l (s.leg l) }

/-- Patch record p. -/
def State.patch (s : State) (p : PatchId) : Patch := s.patches.get p

/-- Patch record p changed by f. -/
def State.modPatch (s : State) (p : PatchId) (f : Patch → Patch) : State :=
  { s with patches := s.patches.set p (f (s.patch p)) }

/-- Every patch record changed by f. -/
def State.mapPatches (s : State) (f : Patch → Patch) : State :=
  { s with patches := Vector.ofFn fun p => f (s.patch p) }

/-- The floor fields of patch p changed by f. -/
def State.modFloor (s : State) (p : PatchId) (f : Floor → Floor) : State :=
  s.modPatch p fun x => { x with floor := f x.floor }

/-- Route entry e. -/
def State.entry (s : State) (e : EntryId) : Entry := s.routes.entries.get e

/-- Every route entry changed by f. -/
def State.mapEntries (s : State) (f : EntryId → Entry → Entry) : State :=
  { s with routes := { s.routes with entries := Vector.ofFn fun e => f e (s.entry e) } }

/-- Route entry e changed by f. -/
def State.modEntry (s : State) (e : EntryId) (f : Entry → Entry) : State :=
  { s with routes := { s.routes with entries := s.routes.entries.set e (f (s.entry e)) } }

/-- Clip slot n. -/
def State.slot (s : State) (n : SlotId) : Slot := s.clips.slots.get n

/-- Clip slot n changed by f. -/
def State.modSlot (s : State) (n : SlotId) (f : Slot → Slot) : State :=
  { s with clips := { s.clips with slots := s.clips.slots.set n (f (s.slot n)) } }

/-- Agency entry a. -/
def State.agency (s : State) (a : AgencyId) : Agency := s.directory.agencies.get a

/-- Agency entry a changed by f. -/
def State.modAgency (s : State) (a : AgencyId) (f : Agency → Agency) : State :=
  { s with directory := { s.directory with agencies := s.directory.agencies.set a (f (s.agency a)) } }

/-- Plan entry i. -/
def State.planEntry (s : State) (i : PlanId) : PlanEntry := s.directory.plans.get i

/-- Plan entry i written. -/
def State.setPlan (s : State) (i : PlanId) (x : PlanEntry) : State :=
  { s with directory := { s.directory with plans := s.directory.plans.set i x } }

/-- The playback context. -/
def State.context (s : State) : Context := s.clips.context

/-- The playback context changed by f. -/
def State.modContext (s : State) (f : Context → Context) : State :=
  { s with clips := { s.clips with context := f s.clips.context } }

/-! ## Numbers -/

/-- Legs 0–15 are radio legs (R1). -/
def isRadio (l : LegId) : Bool := l.val < 16

/-- The leg of a radio leg's number. -/
def radioLeg (r : RadioId) : LegId := ⟨r.val, by omega⟩

/-- The number 1–12 of a patch. -/
def patchNumber (p : PatchId) : Nat := p.val + 1

/-- The number a link field carries for a patch, 0 for none (R190). -/
def patchField (p : Option PatchId) : Nat := p.elim 0 patchNumber

/-- The legs in ascending order. -/
def allLegs : List LegId := List.finRange 20

/-- The patches in ascending order. -/
def allPatches : List PatchId := List.finRange 12

/-- The route entries in ascending order. -/
def allEntries : List EntryId := List.finRange 40

/-- The slots in ascending order. -/
def allSlots : List SlotId := List.finRange 8

/-! ## Timers

A timer is stopped (none) or holds its ms left. FRAME_START counts it down (log 3). -/

/-- One ms of a timer. -/
def countDown (t : Option Nat) : Option Nat := t.map (· - 1)

/-- Whether a timer's expiry may be taken: it has run out, or its last ms ends with a tick that arrives together with
the expiry and may be taken after it (log 3). -/
def due (t : Option Nat) : Bool := t.any (· ≤ 1)

/-! ## Order of events -/

/-- The present time stamp (R176). -/
def State.now (s : State) : Word32 := s.link.stamp

/-- The time of an event taken now: its stamp and its place in the order in which events are taken (R78; log 20). -/
def State.eventTime (s : State) : ClaimTime := { stamp := s.now, order := s.order }

/-- The next event takes the next place in that order. -/
def State.nextEvent (s : State) : State := { s with order := s.order + 1 }

/-! ## Clip memory -/

/-- The sample at an address; an unlisted address reads 0. -/
def Memory.read : Memory → Nat → Sample
  | [], _ => 0
  | (b, w) :: m, a => if a = b then w else Memory.read m a

/-- A sample written at an address; a zero sample is not listed. -/
def Memory.write : Memory → Nat → Sample → Memory
  | [], a, v => if v = 0 then [] else [(a, v)]
  | (b, w) :: m, a, v =>
    if a < b then (if v = 0 then (b, w) :: m else (a, v) :: (b, w) :: m)
    else if a = b then (if v = 0 then m else (a, v) :: m)
    else (b, w) :: Memory.write m a v

/-- Zero in every sample of the blocks (R148). -/
def Memory.zeroBlocks (m : Memory) (blocks : List BlockId) : Memory :=
  m.filter fun c => !(blocks.any fun b => b.val = c.1 / Config.blockSamples)

/-- Samples written at consecutive positions of a clip, each into its block (R144, R149). -/
def Memory.writeClip (m : Memory) (address : Nat → Nat) (offset : Nat) : List Sample → Memory
  | [] => m
  | v :: vs => Memory.writeClip (Memory.write m (address offset) v) address (offset + 1) vs

/-- The canonical form: addresses strictly rising, no zero sample listed. -/
abbrev Memory.wf (m : Memory) : Prop := (m.map Prod.fst).Pairwise (· < ·) ∧ ∀ c ∈ m, c.2 ≠ 0

/-- The address of sample k of a slot's clip: block k div 512 of its list, offset k mod 512 (R144). -/
def Slot.address (x : Slot) (k : Nat) : Nat :=
  ((x.blocks[k / Config.blockSamples]?).elim 0 Fin.val) * Config.blockSamples + k % Config.blockSamples

end Sys2Proof.Machine
end

