-- ==== Sys2Proof/Machine/Flags.lean ====
section
/-! DEFINITION. The Notice Queue with its filters and its gap flag (R184, R185), the event flags of the legs (R4), and
the lines that follow the state: ATTENTION (R181) and the key outputs (1.3). -/

namespace Sys2Proof.Machine

/-- A notice offered to the queue: appended while there is room, and otherwise dropped with the gap flag set. The Link
Controller writes the time stamp (R182, R185). -/
def State.offer (s : State) (detail : Detail) (leg : Option LegId) (patch : Option PatchId) : State :=
  if s.link.notices.length < Config.noticeCapacity then
    { s with link := { s.link with notices := s.link.notices ++ [⟨detail, s.now, leg, patch⟩] } }
  else { s with link := { s.link with gap := true } }

/-- The patch field of a leg's notice is its membership when the notice is offered (R3, R183). -/
def State.offerLeg (s : State) (detail : Detail) (l : LegId) : State :=
  s.offer detail (some l) (s.leg l).membership

/-- The mask a leg's notice passes before it goes to the queue (R184). -/
def NoticeMask.selects (m : NoticeMask) : Detail → Bool
  | .carrier _ => m.carrier
  | .aux _ _ => m.aux
  | .transmit _ => m.transmit
  | .floor _ _ | .emergency _ _ | .revoked _ | .clip _ _ _ => true

/-- A leg's CARRIER, AUX or TRANSMIT notice, offered under the leg's notice mask (R184). -/
def State.offerMasked (s : State) (detail : Detail) (l : LegId) : State :=
  if (s.leg l).config.mask.selects detail then s.offerLeg detail l else s

/-- A FLOOR notice, offered when the patch's floor notices are on; `party` is the party named, none for IDLE
(R183, R184). -/
def State.offerFloor (s : State) (p : PatchId) (event : FloorEvent) (party : Option Party) : State :=
  if (s.patch p).floorNotices then
    match party with
    | some (.leg l) => s.offer (.floor event false) (some l) (some p)
    | some .clip => s.offer (.floor event true) none (some p)
    | none => s.offer (.floor event false) none (some p)
  else s

/-- The carrier-rose flag set (R4). -/
def State.flagRose (s : State) (l : LegId) : State :=
  s.modLeg l fun x => { x with flags := { x.flags with rose := true } }

/-- The carrier-fell flag set (R4). -/
def State.flagFell (s : State) (l : LegId) : State :=
  s.modLeg l fun x => { x with flags := { x.flags with fell := true } }

/-- The aux-edge flag set (R4). -/
def State.flagAux (s : State) (l : LegId) : State :=
  s.modLeg l fun x => { x with flags := { x.flags with aux := true } }

/-- The transmit-event flag set (R4). -/
def State.flagTransmit (s : State) (l : LegId) : State :=
  s.modLeg l fun x => { x with flags := { x.flags with transmit := true } }

/-- Whether any event flag is set (R27). -/
def EventFlags.any (f : EventFlags) : Bool := f.rose || f.fell || f.aux || f.transmit

/-- ATTENTION is low while the queue holds a notice (R181). -/
def State.attentionLow (s : State) : Bool := !s.link.notices.isEmpty

/-- The key output of a transmit state (1.3, R12). -/
def TxState.keyAsserted : TxState → Bool
  | .lead | .on | .tail => true
  | .off | .lockout | .fault => false

/-- The output gate of a transmit state (1.3, R14). -/
def TxState.gateOpen : TxState → Bool
  | .on | .tail => true
  | .off | .lead | .lockout | .fault => false

/-- The key output of a leg; a console leg has none (R1, R12). -/
def State.keyOutput (s : State) (l : LegId) : Bool := isRadio l && (s.leg l).tx.state.keyAsserted

end Sys2Proof.Machine
end

