-- ==== Sys2Proof/Machine/Operands.lean ====
section
/-! DEFINITION. Request fields: their ranges, and the values they stand for (R190, and the Arguments lines of the
request entries). -/

namespace Sys2Proof.Machine

/-- A leg number 0–19. -/
def legOf (b : Byte) : Option LegId := if h : b.toNat < 20 then some ⟨b.toNat, h⟩ else none

/-- A console leg number 16–19. -/
def consoleOf (b : Byte) : Option LegId :=
  if h : 16 ≤ b.toNat ∧ b.toNat < 20 then some ⟨b.toNat, h.2⟩ else none

/-- A patch number 1–12. -/
def patchOf (b : Byte) : Option PatchId :=
  if h : 1 ≤ b.toNat ∧ b.toNat ≤ 12 then some ⟨b.toNat - 1, by omega⟩ else none

/-- A slot number 0–7. -/
def slotOf (b : Byte) : Option SlotId := if h : b.toNat < 8 then some ⟨b.toNat, h⟩ else none

/-- An agency number 0–31. -/
def agencyOf (b : Byte) : Option AgencyId := if h : b.toNat < 32 then some ⟨b.toNat, h⟩ else none

/-- A yes/no or on/off field carries 0 or 1 (R190). -/
def isChoice (b : Byte) : Bool := b.toNat ≤ 1

/-- The value of a yes/no or on/off field (R190). -/
def choice (b : Byte) : Bool := b = 1

/-- An option of weight 2 to the power i; the other bits of an option byte are ignored (R191). -/
def hasOption (b : Byte) (i : Nat) : Bool := b.getLsbD i

/-- A time field within its range and on its step (R190). -/
def onStep (w : Word16) (lo hi step : Nat) : Bool :=
  decide (lo ≤ w.toNat) && decide (w.toNat ≤ hi) && w.toNat % step == 0

/-- A character of a code or label (R30, R51). -/
def isCharacter (b : Byte) : Bool := decide (0x20 ≤ b.toNat) && decide (b.toNat ≤ 0x7E)

/-- The ranges of SETLEG's fields but its leg (R2, R24, R195); the mask is a set drawn from three kinds (log 18). -/
def fieldsInRange (a : SetLegArgs) : Bool :=
  decide (a.inputMode.toNat ≤ 2) && isChoice a.carrierPolarity && onStep a.rise 0 500 5 && onStep a.drop 0 2000 5 &&
    decide (-50 ≤ a.vox.toInt) && decide (a.vox.toInt ≤ -10) && decide (a.auxFunction.toNat ≤ 2) &&
    isChoice a.auxPolarity && onStep a.window 50 1000 1 && decide (a.mask.toNat ≤ 7)

/-- The input mode of a SETLEG field (R195). -/
def inputModeOf (b : Byte) : InputMode := if b = 0 then .line else if b = 1 then .vox else .both

/-- The aux function of a SETLEG field (R195). -/
def auxFunctionOf (b : Byte) : AuxFunction := if b = 0 then .off else if b = 1 then .emergency else .confirm

/-- The notice mask of a SETLEG field: weights 1 CARRIER, 2 AUX, 4 TRANSMIT (R195). -/
def maskOf (b : Byte) : NoticeMask :=
  { carrier := b.getLsbD 0, aux := b.getLsbD 1, transmit := b.getLsbD 2 }

/-- The configuration SETLEG writes on a leg: every field for a radio leg; a console leg's radio-only fields keep their
reset values whatever SETLEG carries (R1, R2). -/
def configOf (l : LegId) (a : SetLegArgs) : LegConfig :=
  if isRadio l then
    { inputMode := inputModeOf a.inputMode, carrierLow := choice a.carrierPolarity, rise := a.rise.toNat,
      drop := a.drop.toNat, vox := a.vox.toInt, auxFunction := auxFunctionOf a.auxFunction,
      auxLow := choice a.auxPolarity, window := a.window.toNat, mask := maskOf a.mask }
  else
    { carrierLow := choice a.carrierPolarity, rise := a.rise.toNat, drop := a.drop.toNat, mask := maskOf a.mask }

/-- The ranges of AGENCY's fields but its agency number (R30, R36). -/
def agencyInRange (a : AgencyArgs) : Bool :=
  isChoice a.valid && a.code.toList.all isCharacter && decide (1 ≤ a.count.toNat) && decide (a.count.toNat ≤ 64) &&
    decide (a.base.toNat + a.count.toNat ≤ 256)

/-- The ranges of a PLAN entry's fields (R31, R37). -/
def planInRange (e : PlanArgs) : Bool :=
  isChoice e.valid && decide (e.agency.toNat < 32) && decide (e.authority.toNat < 64) &&
    decide (e.ceiling.toNat ≤ 14) && decide (e.defaultPriority.toNat ≤ e.ceiling.toNat) &&
    onStep e.keyLead 0 500 10 &&
    (e.timeLimit == 0 || decide (10 ≤ e.timeLimit.toNat) && decide (e.timeLimit.toNat ≤ 600)) &&
    decide (e.lockout.toNat ≤ 120) && isChoice e.duplex && decide (e.gain.toNat ≤ 15)

/-- The plan entry a PLAN entry writes (R31, R37). -/
def planOf (e : PlanArgs) : PlanEntry :=
  { valid := choice e.valid, agency := Fin.ofNat 32 e.agency.toNat, authority := Fin.ofNat 64 e.authority.toNat,
    ceiling := e.ceiling.toNat, defaultPriority := e.defaultPriority.toNat, keyLead := e.keyLead.toNat,
    timeLimit := e.timeLimit.toNat, lockout := e.lockout.toNat, duplex := choice e.duplex, gain := e.gain.toNat }

/-- The priority field of BIND: 0–14, or 255 for PLAN_DEFAULT (R39, R190). -/
def priorityInRange (b : Byte) : Bool := decide (b.toNat ≤ 14) || b == 255

/-- The priority BIND asks for, none for PLAN_DEFAULT (R190). -/
def priorityOf (b : Byte) : Option Nat := if b = 255 then none else some b.toNat

/-- An access list's first byte is 1 for ALL or 0 for a set (R190). -/
def accessInRange (a : AccessArgs) : Bool := isChoice a.all

/-- The access list of a request field; ALL carries no set (R190, log 18). -/
def accessOf (a : AccessArgs) : AccessList := if choice a.all then .all else .set a.indices

/-- The ranges of OPEN's fields but its patch number (R51, R56). -/
def openInRange (a : OpenArgs) : Bool :=
  a.label.toList.all isCharacter && accessInRange a.access && decide (a.margin.toNat ≤ 15) &&
    onStep a.hang 0 5000 50 &&
    (a.talkLimit == 0 || decide (5 ≤ a.talkLimit.toNat) && decide (a.talkLimit.toNat ≤ 300)) &&
    isChoice a.floorNotices

/-- The result codes of replies (R194); the code 0x0C is not returned. -/
inductive Result where
  | ok | halted | busy | unknown | length | range | notBound | parked | member | notMember | patchState | patchFull
  | routeFull | monitoring | agencyInvalid | stale | channelRange | planInvalid | planMismatch | denied | priority
  | slotState | memoryFull | ringFull | playerBusy
deriving DecidableEq, Repr

/-- The byte of a result (R194). -/
def Result.code : Result → Byte
  | .ok => 0x00 | .halted => 0x01 | .busy => 0x02 | .unknown => 0x03 | .length => 0x04 | .range => 0x05
  | .notBound => 0x06 | .parked => 0x07 | .member => 0x08 | .notMember => 0x09 | .patchState => 0x0A
  | .patchFull => 0x0B | .routeFull => 0x0D | .monitoring => 0x0E | .agencyInvalid => 0x0F | .stale => 0x10
  | .channelRange => 0x11 | .planInvalid => 0x12 | .planMismatch => 0x13 | .denied => 0x14 | .priority => 0x15
  | .slotState => 0x16 | .memoryFull => 0x17 | .ringFull => 0x18 | .playerBusy => 0x19

end Sys2Proof.Machine
end

