-- ==== Sys2Proof/Machine/Replies.lean ====
section
/-! DEFINITION. The reply path (R168, R174) and the request in progress (R175). -/

namespace Sys2Proof.Machine

/-- When the pair is idle and a reply waits, the reply at the head is the one being sent (R174). -/
def State.startReply (s : State) : State :=
  match s.link.sending, s.link.waiting with
  | none, r :: rest => { s with link := { s.link with sending := some r, waiting := rest } }
  | _, _ => s

/-- A reply joins the reply path at its end (R174). -/
def State.formReply (s : State) (r : Reply) : State :=
  State.startReply { s with link := { s.link with waiting := s.link.waiting ++ [r] } }

/-- Replies formed after the taking of a broadcast RESET ALL are discarded (R178), at their forming (log 16). -/
def State.discardsReplies (s : State) : Bool :=
  match s.link.inProgress with
  | some ⟨_, h, .resetAll _⟩ => h.broadcast
  | _ => false

/-- The reply to a request: none for a broadcast (R173), and otherwise one with the request's kind code and tag
(R168). -/
def State.answer (s : State) (h : Header) (kind : Byte) (body : List Byte) : State :=
  if h.broadcast || s.discardsReplies then s else s.formReply ⟨kind, h.tag, body⟩

/-- A reply whose result is not OK carries the result code alone (R190). -/
def State.refuse (s : State) (h : Header) (k : Kind) (r : Result) : State := s.answer h k.code [r.code]

/-- A reply whose result is OK, with the results its request's entry names (R190). -/
def State.grantReply (s : State) (h : Header) (k : Kind) (results : List Byte) : State :=
  s.answer h k.code (Result.ok.code :: results)

/-- The request becomes the request in progress (R175). -/
def State.begin (s : State) (h : Header) (k : Kind) (work : Work) : State :=
  { s with link := { s.link with inProgress := some ⟨k, h, work⟩ } }

/-- The work of the request in progress, if any. -/
def State.work (s : State) : Option Work := s.link.inProgress.map InProgress.work

/-- The request in progress goes on with this work. -/
def State.setWork (s : State) (work : Work) : State :=
  { s with link := { s.link with inProgress := s.link.inProgress.map fun r => { r with work } } }

/-- The request in progress completes: its reply joins the reply path and the next request can be taken (R175). -/
def State.finish (s : State) (r : Result) (results : List Byte) : State :=
  match s.link.inProgress with
  | none => s
  | some p =>
    State.answer { s with link := { s.link with inProgress := none } } p.header p.kind.code (r.code :: results)

/-- The address byte of the part's replies (R167). -/
def State.replyAddress (s : State) : Byte := 0x80 + s.link.address.setWidth 8

/-- The bytes a reply puts on the line: one frame, delimited, escaped and closed by its check word (R168). -/
def State.lineBytes (s : State) (r : Reply) : List Byte := frameBytes (s.replyAddress :: r.kind :: r.tag :: r.body)

end Sys2Proof.Machine
end

