-- ==== Sys2Proof/Machine/Encode.lean ====
section
/-! DEFINITION. The bodies of replies that carry results (R190, R192, R196–R200; log 19). -/

namespace Sys2Proof.Machine

/-! ## Fields -/

/-- A one-byte number. -/
def byte (n : Nat) : Byte := BitVec.ofNat 8 n

/-- A yes/no, set/clear or on/off value takes one byte (R192). -/
def flagByte (b : Bool) : Byte := if b then 1 else 0

/-- A two-byte number (R192). -/
def num16 (n : Nat) : List Byte := bytes16 (BitVec.ofNat 16 n)

/-- A four-byte number (R192). -/
def num32 (n : Nat) : List Byte := bytes32 (BitVec.ofNat 32 n)

/-- A leg field: 0–19, or 255 for none (R192). -/
def legByte (l : Option LegId) : Byte := l.elim 255 fun l => byte l.val

/-- A party field: a leg 0–19, 254 for CLIP, 255 for none (R192). -/
def partyByte : Option Party → Byte
  | some (.leg l) => byte l.val
  | some .clip => 254
  | none => 255

/-- A patch field, 0 for none (R190). -/
def patchByte (p : Option PatchId) : Byte := byte (patchField p)

/-- A set of legs in 3 bytes, leg n in byte n div 8, weight 2 to the power (n mod 8) (R190). -/
def legSet (f : LegId → Bool) : List Byte :=
  (List.range 3).map fun k => byte (((List.range 8).map fun j =>
    if h : 8 * k + j < 20 then (if f ⟨8 * k + j, h⟩ then 2 ^ j else 0) else 0).sum)

/-- A list whose length varies is preceded by a one-byte count of its items (R192). -/
def counted {α : Type} (items : List α) (f : α → List Byte) : List Byte := byte items.length :: items.flatMap f

/-- The codes of the STATUS reply (R199). -/
def TxState.code : TxState → Byte
  | .off => 0 | .lead => 1 | .on => 2 | .tail => 3 | .lockout => 4 | .fault => 5

/-- The codes of the STATUS reply (R199). -/
def PatchState.code : PatchState → Byte
  | .free => 0 | .active => 1 | .disbanding => 2

/-- RX_IDLE to RX_BARRED are 0–4 (R192). -/
def RxState.code : RxState → Byte
  | .idle => 0 | .rising => 1 | .active => 2 | .falling => 3 | .barred => 4

/-- IDLE, HELD and HANG are 0–2 (R192). -/
def FloorState.code : FloorState → Byte
  | .idle => 0 | .held => 1 | .hang => 2

/-- FREE to PURGING are 0–3 (R192). -/
def EntryState.code : EntryState → Byte
  | .free => 0 | .reserved => 1 | .active => 2 | .purging => 3

/-- MEMBER, MONITOR and OVERLAY are 0–2, none is 255 (R192). -/
def kindByte : Option EntryKind → Byte
  | some .member => 0 | some .monitor => 1 | some .overlay => 2 | none => 255

/-- EMPTY to WAITING are 0–4 (R192). -/
def SlotState.code : SlotState → Byte
  | .empty => 0 | .ready => 1 | .stream => 2 | .playing => 3 | .waiting => 4

/-- STORED and STREAM are 0 and 1, none is 255 (R192). -/
def modeByte : Option SlotMode → Byte
  | some .stored => 0 | some .stream => 1 | none => 255

/-- The phases NONE to ENDING are 0–4 (R192). -/
def Phase.code : Phase → Byte
  | .none => 0 | .waiting => 1 | .playing => 2 | .tone => 3 | .ending => 4

/-- TAKE and OVERLAY are 0 and 1 (R198). -/
def PlayMode.code : PlayMode → Byte
  | .take => 0 | .overlay => 1

/-- The reason codes of the CLIP notice (R200). -/
def EndReason.code : EndReason → Byte
  | .complete => 1 | .underrun => 2 | .halted => 3 | .preempted => 4 | .disbanded => 5 | .reset => 6

/-- A playback's reason, 0 for none (R192). -/
def reasonByte (r : Option EndReason) : Byte := r.elim 0 EndReason.code

/-- The source codes of the EMERGENCY notice (R200). -/
def EmergencySource.code : EmergencySource → Byte
  | .aux => 1 | .declare => 2

/-- An emergency source, 0 for none (R192). -/
def sourceByte (e : Option EmergencySource) : Byte := e.elim 0 EmergencySource.code

/-- LINE, VOX, BOTH (R195). -/
def InputMode.code : InputMode → Byte
  | .line => 0 | .vox => 1 | .both => 2

/-- OFF, EMERGENCY, CONFIRM (R195). -/
def AuxFunction.code : AuxFunction → Byte
  | .off => 0 | .emergency => 1 | .confirm => 2

/-- A notice mask's byte (R195). -/
def NoticeMask.byte (m : NoticeMask) : Byte :=
  Machine.byte ((if m.carrier then 1 else 0) + (if m.aux then 2 else 0) + (if m.transmit then 4 else 0))

/-- An access list in its request layout (R190, R192). -/
def AccessList.bytes : AccessList → List Byte
  | .all => 1 :: bytes64 0
  | .set indices => 0 :: bytes64 indices

/-! ## Leg records -/

/-- Whether the live aux input is at its active polarity (R19). -/
def Leg.auxLive (x : Leg) : Bool := x.inputs.auxHigh != x.config.auxLow

/-- The configuration in SETLEG's layout (R192, R195). -/
def LegConfig.bytes (c : LegConfig) : List Byte :=
  [c.inputMode.code, flagByte c.carrierLow] ++ num16 c.rise ++ num16 c.drop ++
    [BitVec.ofInt 8 c.vox, c.auxFunction.code, flagByte c.auxLow] ++ num16 c.window ++ [c.mask.byte]

/-- The four event flags (R26, R27). -/
def EventFlags.bytes (f : EventFlags) : List Byte :=
  [flagByte f.rose, flagByte f.fell, flagByte f.aux, flagByte f.transmit]

/-- The binding: bound, then its fields in the order of R33; zeros when unbound (R26). -/
def bindingBytes : Option Binding → List Byte
  | some b =>
    [1, byte b.agency.val, byte b.channel, byte b.planIndex, b.generation, byte b.authority.val, byte b.priority,
      byte b.ceiling, byte b.defaultPriority, flagByte b.duplex] ++ num16 b.keyLead ++ num16 b.timeLimit ++
      [byte b.lockout, byte b.gain]
  | none => List.replicate 16 0

/-- The results of LEGQ, in the order of R26's table. A console leg's aux input level reads inactive (R1). -/
def legqBytes (l : LegId) (x : Leg) : List Byte :=
  [byte l.val, flagByte (!isRadio l)] ++ x.config.bytes ++
    [x.rx.state.code, flagByte x.talk] ++
    [x.tx.state.code, flagByte x.demand] ++ num16 x.tx.keyLead ++ num16 x.tx.timeLimit ++ [byte x.tx.lockout] ++
      num32 (x.tx.keyed.getD 0) ++ num32 (x.tx.lockoutTimer.getD 0) ++
    [flagByte x.aux.active, flagByte (x.aux.riseTimer.isSome || x.aux.dropTimer.isSome),
      flagByte (isRadio l && x.auxLive)] ++
    [flagByte x.park.parked, x.park.rx.code, flagByte x.park.aux] ++
    x.flags.bytes ++ bindingBytes x.binding ++ [patchByte x.membership] ++
    [flagByte x.emergency.isSome, sourceByte x.emergency]

/-- The results of EVENTS: a leg and its flags, or 255 and all flags clear (R27). -/
def eventsBytes : Option (LegId × EventFlags) → List Byte
  | some (l, f) => legByte (some l) :: f.bytes
  | none => legByte none :: EventFlags.bytes {}

/-! ## Directory -/

/-- Whether a leg's binding names the agency (R43, R46). -/
def State.boundThrough (s : State) (a : AgencyId) (l : LegId) : Bool := (s.leg l).binding.any fun b => b.agency = a

/-- Whether a leg's binding names the agency under another generation than the current one (R46). -/
def State.staleThrough (s : State) (a : AgencyId) (l : LegId) : Bool :=
  (s.leg l).binding.any fun b => b.agency = a && b.generation != (s.agency a).generation

/-- One agency entry of DIRQ: index, the fields of R30, bound set, stale set (R46). -/
def State.agencyBytes (s : State) (a : AgencyId) : List Byte :=
  let x := s.agency a
  [byte a.val, flagByte x.valid] ++ x.code.toList ++ [x.generation, byte x.base, byte x.count] ++
    legSet (s.boundThrough a) ++ legSet (s.staleThrough a)

/-- One plan entry of DIRQ: index, then the layout of PLAN (R46, R192). -/
def State.planBytes (s : State) (i : PlanId) : List Byte :=
  let x := s.planEntry i
  [byte i.val, flagByte x.valid, byte x.agency.val, byte x.authority.val, byte x.ceiling, byte x.defaultPriority] ++
    num16 x.keyLead ++ num16 x.timeLimit ++ [byte x.lockout, flagByte x.duplex, byte x.gain]

/-! ## Patches, floors, routes -/

/-- A claim in a floor queue (R108). -/
def Claim.bytes (c : Claim) : List Byte :=
  [partyByte (some c.party), byte c.priority] ++ bytes32 c.time.stamp ++
    [flagByte c.marker.isSome] ++ bytes32 (c.marker.elim 0 ClaimTime.stamp)

/-- The floor fields, in the order of R108. -/
def Floor.bytes (f : Floor) : List Byte :=
  [f.state.code, partyByte f.owner, flagByte f.seized] ++ bytes32 f.grantTime ++ num32 (f.talkTimer.getD 0) ++
    [legByte f.lastOwner] ++ num32 (f.hangTimer.getD 0) ++ counted f.queue Claim.bytes

/-- The number of the entry of a kind in the patch's chain that feeds a leg, neither FREE nor PURGING; 255 when there
is none (R74, R126). -/
def State.entryFor (s : State) (p : PatchId) (k : EntryKind) (l : LegId) : Option EntryId :=
  (s.patch p).chain.find? fun e =>
    (s.entry e).kind = some k && (s.entry e).dest = some l && (s.entry e).state != .purging

/-- The number of that entry, 255 for none. -/
def entryByte (e : Option EntryId) : Byte := e.elim 255 fun e => byte e.val

/-- The bound priority of a leg, 0 when unbound. -/
def Leg.boundPriority (x : Leg) : Nat := x.binding.elim 0 Binding.priority

/-- The results of PATCHQ, in the order of R74's table. -/
def State.patchqBytes (s : State) (p : PatchId) : List Byte :=
  let x := s.patch p
  [x.state.code] ++ x.label.toList ++ x.access.bytes ++ [byte x.margin] ++ num16 x.hang ++ num16 x.talkLimit ++
      [flagByte x.floorNotices] ++
    counted x.members (fun l => [byte l.val, byte (s.leg l).boundPriority, flagByte (s.leg l).emergency.isSome,
      entryByte (s.entryFor p .member l)]) ++
    counted x.monitors (fun m => [byte m.1.val, byte m.2, entryByte (s.entryFor p .monitor m.1)]) ++
    x.floor.bytes ++ [byte x.chain.length]

/-- The number of entries in a state (R141). -/
def State.countEntries (s : State) (st : EntryState) : Nat := (allEntries.filter fun e => (s.entry e).state = st).length

/-- The results of ROUTEQ for a patch: its state, and its chain in chain order (R141). -/
def State.chainBytes (s : State) (p : PatchId) : List Byte :=
  (s.patch p).state.code :: counted (s.patch p).chain fun e =>
    let x := s.entry e
    [byte e.val, x.state.code, kindByte x.kind, legByte x.dest, partyByte x.source, partyByte x.pendingSource,
      byte x.gain]

/-- The results of ROUTEQ for patch 0: the 40 entries, the counts of each state, whether a frame is in progress, and
the number of purges outstanding (R141). R141 states no largest value of that number for R192's fewest bytes, and it is
sent in one byte (log 19). -/
def State.poolBytes (s : State) : List Byte :=
  allEntries.flatMap (fun e =>
    let x := s.entry e
    [x.state.code, patchByte x.tag, kindByte x.kind, legByte x.dest, partyByte x.source]) ++
    [byte (s.countEntries .free), byte (s.countEntries .reserved), byte (s.countEntries .active),
      byte (s.countEntries .purging), flagByte s.routes.frame.isSome, byte s.routes.purges.length]

/-! ## Clip player -/

/-- Whether some slot holds a clip block (R144). -/
def State.blockHeld (s : State) (b : BlockId) : Bool := (allSlots.flatMap fun n => (s.slot n).blocks).contains b

/-- The free clip blocks in ascending order (R144). -/
def State.freeBlocks (s : State) : List BlockId := (List.finRange 256).filter fun b => !s.blockHeld b

/-- The slot whose mode is STREAM (R146). -/
def State.streamSlot (s : State) : Option SlotId := allSlots.find? fun n => (s.slot n).mode = some .stream

/-- The results of CLIPQ, in the order of R163's table; with no stream slot its number is 255 (log 19). -/
def State.clipqBytes (s : State) : List Byte :=
  allSlots.flatMap (fun n =>
    let x := s.slot n
    [x.state.code, modeByte x.mode] ++ num32 x.length ++ [byte x.level] ++ num16 x.blocks.length) ++
    num16 s.freeBlocks.length ++
    [s.streamSlot.elim 255 fun n => byte n.val] ++ num16 s.clips.ring.length ++ num32 s.clips.accepted ++
    (let c := s.context
     [c.phase.code, byte c.slot.val, patchByte c.patch, c.mode.code, byte c.priority, byte c.repeats] ++
       num32 c.position ++ bytes32 c.played ++ num16 c.tone ++ [reasonByte c.reason])

/-! ## Summary state and notices -/

/-- The results of STATUS, after the result code (R177, R199). -/
def State.statusBytes (s : State) : List Byte :=
  [s.link.address.setWidth 8, s.link.rate.setWidth 8] ++ bytes32 s.now ++
    [s.link.inProgress.elim 0 fun r => r.kind.code, flagByte (s.link.inProgress.any fun r => r.header.broadcast),
      byte s.link.notices.length, flagByte s.link.gap, byte (s.countEntries .free)] ++
    num16 s.freeBlocks.length ++
    allPatches.map (fun p => (s.patch p).state.code) ++
    (List.finRange 16).map (fun r => (s.leg (radioLeg r)).tx.state.code) ++
    legSet fun l => (s.leg l).emergency.isSome

/-- The kind code, detail bytes and detail count of a notice record (R200). -/
def Detail.bytes : Detail → Byte × Byte × Byte × Word32
  | .carrier e => (1, (match e with | .rose => 0 | .fell => 1), 0, 0)
  | .aux e live => (2, (match e with | .rose => 0 | .fell => 1), flagByte live, 0)
  | .transmit e => (3, (match e with | .timeout => 1 | .lockoutEnd => 2 | .fault => 3), 0, 0)
  | .floor e forClip =>
    (4, (match e with | .queued => 1 | .preempted => 2 | .granted => 3 | .talkLimit => 4 | .idle => 5),
      flagByte forClip, 0)
  | .emergency set source => (5, (if set then 0 else 1), source.code, 0)
  | .revoked a => (6, byte a.val, 0, 0)
  | .clip slot reason played => (7, byte slot.val, reason.code, played)

/-- A notice record of 13 bytes (R200). -/
def Notice.bytes (n : Notice) : List Byte :=
  let (k, d0, d1, count) := n.detail.bytes
  [k] ++ bytes32 n.stamp ++ [legByte n.leg, patchByte n.patch, d0, d1] ++ bytes32 count

end Sys2Proof.Machine
end

