-- ==== Sys2Proof/Machine/RouteOps.lean ====
section
/-! DEFINITION. The Route Engine: reservation (R125), retarget (R129), frame start and mixing (R130–R135), and purges
(R137–R140). -/

namespace Sys2Proof.Machine

/-! ## Reservation -/

/-- The lowest-numbered FREE entry (R125). -/
def State.lowestFree (s : State) : Option EntryId := allEntries.find? fun e => (s.entry e).state = .free

/-- The number of FREE entries (R128). -/
def State.freeEntryCount (s : State) : Nat := (allEntries.filter fun e => (s.entry e).state = .free).length

/-- One reservation: the lowest-numbered FREE entry becomes RESERVED and is linked at the end of the patch's chain; with
no FREE entry nothing changes (R125). -/
def State.reserve (s : State) (p : PatchId) (kind : EntryKind) (dest : LegId) (gain : Nat) (source : Option Party) :
    State :=
  match s.lowestFree with
  | none => s
  | some e =>
    (s.modEntry e fun _ =>
      { state := .reserved, tag := some p, kind := some kind, dest := some dest, pendingSource := source, gain }).modPatch
      p fun x => { x with chain := x.chain ++ [e] }

/-! ## Retarget -/

/-- An entry that retargets, purges and frame starts reach: RESERVED or ACTIVE (R129, R130, R137). -/
def Entry.live (x : Entry) : Bool := x.state = .reserved || x.state = .active

/-- The MEMBER and MONITOR entries of a patch that a retarget reaches (R129). -/
def Entry.retargeted (p : PatchId) (x : Entry) : Bool :=
  x.live && x.tag = some p && (x.kind = some .member || x.kind = some .monitor)

/-- The patch's RESERVED and ACTIVE MEMBER and MONITOR entries take a pending source (R87, R93, R95, R129). -/
def State.retarget (s : State) (p : PatchId) (source : Option Party) : State :=
  s.mapEntries fun _ x => if x.retargeted p then { x with pendingSource := source } else x

/-! ## Purges -/

/-- The selectors of R137; `monitor` is the single entry that MONITOR off names. -/
inductive Selector where
  | tag (p : PatchId)
  | dest (p : PatchId) (l : LegId)
  | monitor (p : PatchId) (l : LegId)
  | overlays (p : PatchId)
deriving DecidableEq, Repr

/-- The entries a selector matches (R137). -/
def Selector.selects (x : Entry) : Selector → Bool
  | .tag p => x.tag = some p
  | .dest p l => x.tag = some p && x.dest = some l && (x.kind = some .member || x.kind = some .overlay)
  | .monitor p l => x.tag = some p && x.dest = some l && x.kind = some .monitor
  | .overlays p => x.tag = some p && x.kind = some .overlay

/-- The entries a purge takes: those it selects that are RESERVED or ACTIVE (R137, R140). -/
def State.purged (s : State) (sel : Selector) : List EntryId :=
  allEntries.filter fun e => (s.entry e).live && sel.selects (s.entry e)

/-- Entries freed: FREE values, and unlinked from their chains, which keep their order (R121, R139). -/
def State.freeEntries (s : State) (taken : List EntryId) : State :=
  (s.mapEntries fun e x => if taken.contains e then {} else x).mapPatches fun x =>
    { x with chain := x.chain.filter fun e => !taken.contains e }

/-- Whether a purge by patch tag finds entries of its patch still PURGING; it completes together with the purge that took
them, so that no patch is FREE with entries tagged (R52, R68, R160; log 32). -/
def State.joinsPurge (s : State) : Selector → Bool
  | .tag p => allEntries.any fun e => (s.entry e).tag = some p && (s.entry e).state = .purging
  | .dest _ _ | .monitor _ _ | .overlays _ => false

/-- A purge request. Its entries become PURGING at once. With a frame in progress it waits for that frame's done when it
takes entries or joins an earlier purge, and the answer is false; otherwise it completes at once, and the answer is true
(R137, R138, R140; log 32). -/
def State.purge (s : State) (sel : Selector) (requester : Requester) : State × Bool :=
  let taken := s.purged sel
  if s.routes.frame.isNone || (taken.isEmpty && !s.joinsPurge sel) then (s.freeEntries taken, true)
  else
    let t := s.mapEntries fun e x => if taken.contains e then { x with state := .purging } else x
    ({ t with routes := { t.routes with purges := t.routes.purges ++ [⟨requester, taken⟩] } }, false)

/-! ## Frame start -/

/-- A pending source applied to an entry; FREE and PURGING entries are not applied (R122, R130). -/
def Entry.applied (x : Entry) : Entry :=
  if x.live then
    match x.pendingSource with
    | none => { x with state := .reserved, source := none }
    | some src =>
      if some src = x.dest.map Party.leg then { x with state := .reserved, source := none }
      else { x with state := .active, source := some src }
  else x

/-- Every pending source applied (R130). -/
def State.applyPending (s : State) : State := s.mapEntries fun _ x => x.applied

/-- What a frame takes of one entry: an ACTIVE entry's source, destination and gain step (R132). -/
def Entry.taken (block : Party → Block) (x : Entry) : Option Taken :=
  match x.state, x.source, x.dest with
  | .active, some src, some l => some ⟨src, l, x.gain, block src⟩
  | _, _, _ => none

/-- The set a frame takes, walking the chains of patches 1 to 12 (R132). -/
def State.takeSet (s : State) (block : Party → Block) : List Taken :=
  (allPatches.flatMap fun p => (s.patch p).chain).filterMap fun e => (s.entry e).taken block

/-! ## Mixing -/

/-- The factor of a gain step, in ten-thousandths (R134). -/
def gainFactor (step : Nat) : Nat :=
  [10000, 7943, 6310, 5012, 3981, 3162, 2512, 1995, 1585, 1259, 1000, 794, 631, 501, 398, 316].getD step 0

/-- A sample attenuated: multiplied by the factor and rounded to the nearest integer, halves away from zero (R134). -/
def attenuate (step : Nat) (x : Int) : Int := x.sign * ((x.natAbs * gainFactor step + 5000) / 10000 : Nat)

/-- The range of a sample (R135). -/
def limit (x : Int) : Int := max (-32768) (min 32767 x)

/-- One sample of a destination's outbound frame: the exact sum, limited once (R135). -/
def mixSample (taken : List Taken) (l : LegId) (i : Fin 8) : Sample :=
  BitVec.ofInt 16 (limit (((taken.filter fun t => t.dest = l).map fun t =>
    attenuate t.gain (t.block.get i).toInt).sum))

/-- The outbound frame of a destination (R135). -/
def mix (taken : List Taken) (l : LegId) : Block := Vector.ofFn (mixSample taken l)

/-- Eight samples, silence where the list has no more. -/
def blockOf (xs : List Sample) : Block := Vector.ofFn fun i => xs.getD i.val 0

/-- A frame handed to a leg: a radio's enters its delay line, and the 8 oldest samples leave for the radio or are
replaced by silence; a console's goes to its codec (R14, R135). -/
def Leg.takeFrame (l : LegId) (frame : Block) (x : Leg) : Leg :=
  if isRadio l then
    let line := x.tx.line ++ frame.toList
    { x with tx := { x.tx with line := line.drop 8 }
             out := if x.tx.state.gateOpen then blockOf (line.take 8) else silence }
  else { x with out := frame }

/-- The outbound frames handed to every leg, those with silence included (R135). -/
def State.deliver (s : State) (taken : List Taken) : State := s.mapLegs fun l x => x.takeFrame l (mix taken l)

end Sys2Proof.Machine
end

