-- ==== Sys2Proof/Machine/ClipOps.lean ====
section
/-! DEFINITION. The Clip Player's slots, playback context and supply of samples (R145–R147, R156–R158). What the end of
a playback does to the floor is in Playback. -/

namespace Sys2Proof.Machine

/-! ## Slots -/

/-- The stream ring emptied and the accepted count 0 (R146). -/
def State.emptyRing (s : State) : State := { s with clips := { s.clips with ring := [], accepted := 0 } }

/-- The slot of a playback that has ended: READY if STORED; STREAM, with the ring emptied, if STREAM (R145, R159). -/
def State.restoreSlot (s : State) (n : SlotId) : State :=
  match (s.slot n).mode with
  | some .stored => s.modSlot n fun x => { x with state := .ready }
  | some .stream => (s.modSlot n fun x => { x with state := .stream }).emptyRing
  | none => s

/-- The arbiter tells the Clip Player of its grant: context and slot enter PLAYING (R88, R154). -/
def State.clipGranted (s : State) : State :=
  match s.context.phase with
  | .waiting =>
    (s.modContext fun c => { c with phase := .playing }).modSlot s.context.slot fun x => { x with state := .playing }
  | .none | .playing | .tone | .ending => s

/-! ## Ends -/

/-- The context returns to NONE and its slot to READY or STREAM (R159). -/
def State.clearPlayback (s : State) : State := (s.restoreSlot s.context.slot).modContext fun _ => {}

/-- The CLIP notice of a playback that has ended (R159, R183). -/
def State.offerClip (s : State) (c : Context) (reason : EndReason) : State :=
  s.offer (.clip c.slot reason c.played) none c.patch

/-- A TAKE end without a report to the arbiter: PREEMPTED, DISBANDED and RESET (R159). -/
def State.endUnreported (s : State) (reason : EndReason) : State := s.clearPlayback.offerClip s.context reason

/-! ## Supply -/

/-- The cut tone, one period from the first tone sample onward (R158). -/
def toneSample (k : Nat) : Sample :=
  BitVec.ofInt 16 ([0, 11585, 16384, 11585, 0, -11585, -16384, -11585].getD (k % 8) 0)

/-- The end of one pass. Repeats remaining 0: the next pass begins. Above 1: lowered by 1, and the next pass begins. 1:
the playback's end is due, and the position is a free value below the length (R147, R156; log 14). -/
def Context.endPass (length free : Nat) (c : Context) : Context :=
  match c.repeats with
  | 0 => { c with position := 0 }
  | 1 => { c with position := Config.lastPosition free % length, endDue := some .complete }
  | n => { c with position := 0, repeats := n - 1 }

/-- One sample of a stored clip supplied; silence once the last pass has ended (R156). -/
def Context.supplyOne (read : Nat → Sample) (length free : Nat) (c : Context) : Sample × Context :=
  if c.endDue.isSome then (0, c)
  else
    let d := { c with position := c.position + 1, played := c.played + 1 }
    (read c.position, if d.position = length then d.endPass length free else d)

/-- So many samples of a stored clip (R156). -/
def Context.supplyStored (read : Nat → Sample) (length free : Nat) : Nat → Context → List Sample × Context
  | 0, c => ([], c)
  | n + 1, c =>
    let one := c.supplyOne read length free
    let more := Context.supplyStored read length free n one.2
    (one.1 :: more.1, more.2)

/-- So many places of cut tone, silence behind the 1,600th tone sample, with which the playback's end is due (R158). -/
def Context.supplyTone (places : Nat) (c : Context) : List Sample × Context :=
  let n := min places (Config.toneSamples - c.tone)
  let d := { c with tone := c.tone + n }
  ((List.range n).map (fun k => toneSample (c.tone + k)) ++ List.replicate (places - n) 0,
    if d.tone = Config.toneSamples then { d with endDue := some .underrun } else d)

/-- A block of a stream clip in phase PLAYING, and the ring behind it. A ring that cannot fill the block is the
underrun: phase TONE, the remaining places cut tone (R157, R158). -/
def Context.supplyStream (ring : List Sample) (length : Nat) (c : Context) : List Sample × List Sample × Context :=
  let need := min 8 (length - c.played.toNat)
  if need ≤ ring.length then
    let d := { c with played := c.played + BitVec.ofNat 32 need }
    (ring.take need ++ List.replicate (8 - need) 0, ring.drop need,
      if d.played.toNat = length then { d with endDue := some .complete } else d)
  else
    let tone := { c with played := c.played + BitVec.ofNat 32 ring.length, phase := .tone }.supplyTone
      (8 - ring.length)
    (ring ++ tone.1, [], tone.2)

/-- In TAKE mode the Clip Player attenuates its block by the slot's level; in OVERLAY mode each entry does (R156). -/
def levelled (mode : PlayMode) (level : Nat) (xs : List Sample) : Block :=
  match mode with
  | .take => blockOf (xs.map fun x => BitVec.ofInt 16 (attenuate level x.toInt))
  | .overlay => blockOf xs

/-- The CLIP block of a frame, and the state after its supply: clip samples in PLAYING, cut tone in TONE, and otherwise
silence (R133, R156–R158). -/
def State.supplyClip (s : State) : Block × State :=
  let c := s.context
  let x := s.slot c.slot
  if c.endDue.isSome then (silence, s)
  else
    match c.phase, x.mode with
    | .playing, some .stored =>
      let r := c.supplyStored (fun k => s.clips.memory.read (x.address k)) x.length s.freeCount 8
      (levelled c.mode x.level r.1,
        { s with clips := { s.clips with context := r.2 }
                 freeCount := if r.2.endDue.isSome then s.freeCount + 1 else s.freeCount })
    | .playing, some .stream =>
      let r := c.supplyStream s.clips.ring x.length
      (levelled c.mode x.level r.1, { s with clips := { s.clips with context := r.2.2, ring := r.2.1 } })
    | .tone, _ =>
      let r := c.supplyTone 8
      (levelled c.mode x.level r.1, { s with clips := { s.clips with context := r.2 } })
    | _, _ => (silence, s)

end Sys2Proof.Machine
end

