-- ==== Sys2Proof/Machine/LegOps.lean ====
section
/-! DEFINITION. The Leg Unit's machines: conditions (R5), receive machine (R6–R9), masking (R10), transmit machine
(R12–R18), aux qualification (R19). What a claim or its withdrawal does on a floor is in FloorOps. -/

namespace Sys2Proof.Machine

/-! ## Conditions -/

/-- The duplex flag; an unbound leg is treated as not duplex (R3). -/
def Leg.duplex (x : Leg) : Bool := x.binding.any Binding.duplex

/-- A radio leg that is not duplex is masked in TX_LEAD, TX_ON and TX_TAIL; a console leg never (R1, R10). -/
def Leg.masked (l : LegId) (x : Leg) : Bool := isRadio l && x.tx.state.keyAsserted && !x.duplex

/-- The carrier input or switch at its active polarity (R5). -/
def Leg.carrierActive (x : Leg) : Bool := x.inputs.carrierHigh != x.config.carrierLow

/-- The last frame's peak against the threshold of T dBFS: greater than 32,768 times 10 to the power T/20, both sides
raised to the 20th power (R5). -/
def Leg.voxPresent (x : Leg) : Bool := 32768 ^ 20 < x.inputs.peak ^ 20 * 10 ^ (-x.config.vox).toNat

/-- The carrier condition of a radio leg by its input mode, and the switch of a console leg (R5). -/
def Leg.condition (l : LegId) (x : Leg) : Bool :=
  if isRadio l then
    match x.config.inputMode with
    | .line => x.carrierActive
    | .vox => x.voxPresent
    | .both => x.carrierActive && x.voxPresent
  else x.carrierActive

/-- Whether the leg's claim stands (R8). -/
def Leg.stands (l : LegId) (x : Leg) : Bool :=
  match x.rx.state with
  | .active | .falling => true
  | .barred => false
  | .idle | .rising => !isRadio l && x.talk

/-! ## Receive machine -/

/-- The receive machine set to a state with all its timers stopped. -/
def Leg.rxTo (st : RxState) (x : Leg) : Leg := { x with rx := { state := st } }

/-- The receive machine takes the condition as it stands: a difference from what its state holds starts the rise, drop
or barred drop timer, an agreement stops it (R6, R7, R9). -/
def Leg.follow (present : Bool) (x : Leg) : Leg :=
  match x.rx.state, present with
  | .idle, true => { x with rx := { x.rx with state := .rising, riseTimer := some x.config.rise } }
  | .rising, false => { x with rx := { x.rx with state := .idle, riseTimer := none } }
  | .active, false => { x with rx := { x.rx with state := .falling, dropTimer := some x.config.drop } }
  | .falling, true => { x with rx := { x.rx with state := .active, dropTimer := none } }
  | .barred, true => { x with rx := { x.rx with barTimer := none, barDropDone := false } }
  | .barred, false =>
    if x.rx.barTimer.isNone && !x.rx.barDropDone then
      { x with rx := { x.rx with barTimer := some x.config.drop } }
    else x
  | .idle, false | .rising, true | .active, true | .falling, false => x

/-- The inputs of a parked leg are not evaluated, and the condition of a masked one is not (R10, R22). -/
def Leg.evaluated (l : LegId) (x : Leg) : Bool := !x.park.parked && !x.masked l

/-- The carrier condition evaluated (R10, R11, R23). -/
def State.evaluate (s : State) (l : LegId) : State :=
  if (s.leg l).evaluated l then s.modLeg l fun x => x.follow (x.condition l) else s

/-- A claim taken out of a floor queue, the others keeping their order (R94). -/
def State.unqueue (s : State) (p : PatchId) (party : Party) : State :=
  s.modFloor p fun f => { f with queue := f.queue.filter fun c => c.party != party }

/-- The start of masking: RX_RISING ends with no flag; RX_ACTIVE and RX_FALLING end with a withdrawal; RX_BARRED stays
with its drop timer stopped (R10). A keyed leg is not its floor's owner (R12), so the withdrawal finds a queued claim
or nothing (log 10). -/
def State.startMasking (s : State) (l : LegId) : State :=
  match (s.leg l).rx.state with
  | .idle => s
  | .rising => s.modLeg l (Leg.rxTo .idle)
  | .active | .falling =>
    let s := ((s.modLeg l (Leg.rxTo .idle)).flagFell l).offerMasked (.carrier .fell) l
    match (s.leg l).membership with
    | some p => s.unqueue p (.leg l)
    | none => s
  | .barred => s.modLeg l fun x => { x with rx := { x.rx with barTimer := none } }

/-- A change of the leg record that may begin or end masking: it begins at once, and at its end the condition is
evaluated afresh (R10). -/
def State.maskedChange (s : State) (l : LegId) (f : Leg → Leg) : State :=
  let t := s.modLeg l f
  match (s.leg l).masked l, (t.leg l).masked l with
  | false, true => t.startMasking l
  | true, false => t.evaluate l
  | _, _ => t

/-! ## Transmit machine -/

/-- The delay line cleared to silence (R14). -/
def Tx.cleared (t : Tx) : List Sample := List.replicate t.line.length 0

/-- The machine in a state with the key released: no timer but the lockout's runs, no measurement, no supervision, the
delay line cleared (R13–R17). -/
def Tx.released (t : Tx) (st : TxState) (lockoutTimer : Option Nat) : Tx :=
  { t with state := st, leadTimer := none, tailTimer := none, lockoutTimer, keyed := none, confirm := .off,
           line := t.cleared }

/-- Entry to TX_ON: under CONFIRM it starts the confirm window (R13, R17). -/
def Leg.enterOn (x : Leg) : Leg :=
  { x with tx := { x.tx with
      state := .on, leadTimer := none, tailTimer := none,
      confirm := if x.config.auxFunction = .confirm then .window x.config.window else .off } }

/-- Entry to TX_LEAD: the working values copied from the binding, the delay line reset to the key lead in samples, 8
per ms, the lead timer and the time limit measurement started (R12, R14, R15). -/
def Leg.enterLead (x : Leg) : Leg :=
  let lead := x.binding.elim 0 Binding.keyLead
  let limit := x.binding.elim 0 Binding.timeLimit
  { x with tx :=
      { state := .lead, keyLead := lead, timeLimit := limit, lockout := x.binding.elim 0 Binding.lockout,
        leadTimer := some lead, keyed := if limit = 0 then none else some 0,
        line := List.replicate (8 * lead) 0 } }

/-- Entry to TX_LEAD with its masking; a working key lead of 0 passes through into TX_ON (R12, R13). -/
def State.enterLead (s : State) (l : LegId) : State :=
  let s := s.maskedChange l Leg.enterLead
  if (s.leg l).tx.keyLead = 0 then s.modLeg l Leg.enterOn else s

/-- Key demand off in TX_LEAD or TX_ON: TX_TAIL, with the tail timer on the working key lead; supervision is suspended
(R13, R17). -/
def Leg.enterTail (x : Leg) : Leg :=
  { x with tx := { x.tx with
      state := .tail, leadTimer := none, tailTimer := some x.tx.keyLead, confirm := .off } }

/-- The key demand of a radio leg written; its turning on or off moves the transmit machine (R12, R13, R16, R18). -/
def State.setDemand (s : State) (l : LegId) (on : Bool) : State :=
  let x := s.leg l
  if x.demand = on then s
  else
    let s := s.modLeg l fun x => { x with demand := on }
    match on, x.tx.state with
    | true, .off => s.enterLead l
    | true, .tail => s.modLeg l Leg.enterOn
    | false, .lead | false, .on => s.modLeg l Leg.enterTail
    | _, _ => s

/-- The key released, with masking ended (R10, R13, R15, R17). -/
def State.releaseKey (s : State) (l : LegId) (st : TxState) (lockoutTimer : Option Nat) : State :=
  s.maskedChange l fun x => { x with tx := x.tx.released st lockoutTimer }

/-- The end of a lockout: the flag and the notice, then TX_LEAD or TX_OFF by the key demand (R16). -/
def State.endLockout (s : State) (l : LegId) : State :=
  let s := (s.flagTransmit l).offerMasked (.transmit .lockoutEnd) l
  let s := s.modLeg l fun x => { x with tx := x.tx.released .off none }
  if (s.leg l).demand then s.enterLead l else s

/-- A transmit time-out; a working lockout time of 0 makes the lockout's end follow at once (R15, R16). -/
def State.timeOut (s : State) (l : LegId) : State :=
  let lockout := (s.leg l).tx.lockout
  let s := ((s.releaseKey l .lockout (some (1000 * lockout))).flagTransmit l).offerMasked (.transmit .timeout) l
  if lockout = 0 then s.endLockout l else s

/-- A confirm failure (R17). -/
def State.confirmFailure (s : State) (l : LegId) : State :=
  ((s.releaseKey l .fault none).flagTransmit l).offerMasked (.transmit .fault) l

/-- CLEAR_FAULT takes a leg out of TX_FAULT, to TX_LEAD if the key demand is on and TX_OFF if it is off (R18). -/
def State.clearFault (s : State) (l : LegId) : State :=
  match (s.leg l).tx.state with
  | .fault =>
    let s := s.modLeg l fun x => { x with tx := x.tx.released .off none }
    if (s.leg l).demand then s.enterLead l else s
  | .off | .lead | .on | .tail | .lockout => s

/-- UNBIND and REVOKE take a leg out of TX_FAULT to TX_OFF (R18, R42). -/
def Leg.dropFault (x : Leg) : Leg :=
  match x.tx.state with
  | .fault => { x with tx := x.tx.released .off none }
  | .off | .lead | .on | .tail | .lockout => x

/-! ## Aux input -/

/-- The aux input's qualification takes the live input as it stands: a difference from the qualified state starts its
rising or falling phase, an agreement cancels it (R19). -/
def Leg.followAux (x : Leg) : Leg :=
  let a := x.aux
  if x.auxLive = a.active then { x with aux := { a with riseTimer := none, dropTimer := none } }
  else if x.auxLive then
    { x with aux := { a with riseTimer := some (a.riseTimer.getD x.config.rise), dropTimer := none } }
  else { x with aux := { a with dropTimer := some (a.dropTimer.getD x.config.drop), riseTimer := none } }

/-- The aux input evaluated; a parked leg's is not (R19, R22). -/
def State.evaluateAux (s : State) (l : LegId) : State :=
  if isRadio l && !(s.leg l).park.parked then s.modLeg l Leg.followAux else s

/-- A qualified edge under EMERGENCY or CONFIRM sets the aux-edge flag and offers an AUX notice with the live level;
under OFF it does neither (R19). -/
def State.auxEdge (s : State) (l : LegId) (edge : Edge) : State :=
  match (s.leg l).config.auxFunction with
  | .off => s
  | .emergency | .confirm => (s.flagAux l).offerMasked (.aux edge (s.leg l).auxLive) l

/-! ## Reset and park -/

/-- A leg record after power-on, the reset line and RESET ALL: its inputs stay, the receive machine is evaluated afresh
and the aux state is taken from the live input (R28). -/
def Leg.afterReset (x : Leg) : Leg :=
  let y : Leg := { inputs := { x.inputs with peak := 0 }, aux := { active := x.inputs.auxHigh } }
  y.follow y.carrierActive

/-- The receive state latched and held at PARK (R22). -/
def RxState.latched : RxState → RxState
  | .idle | .rising => .idle
  | .active | .falling => .active
  | .barred => .barred

/-- The aux state latched at PARK: rising latched as inactive and falling as active (R22). -/
def Aux.latched (a : Aux) : Bool := a.active

/-- PARK's effect on the leg record: the latch, the receive machine and aux state held there with timers cancelled, the
transmit machine forced off except from TX_FAULT, the delay line cleared (R22). -/
def Leg.parkedAt (x : Leg) : Leg :=
  { x with
    rx := { state := x.rx.state.latched }
    aux := { active := x.aux.latched }
    tx := x.tx.released (if x.tx.state = .fault then .fault else .off) none
    park := { parked := true, rx := x.rx.state.latched, aux := x.aux.latched } }

/-! ## Time -/

/-- One ms of a leg's timers and of its keying measurement (log 3). -/
def Leg.tick (x : Leg) : Leg :=
  { x with
    rx := { x.rx with riseTimer := countDown x.rx.riseTimer, dropTimer := countDown x.rx.dropTimer,
                      barTimer := countDown x.rx.barTimer }
    tx := { x.tx with leadTimer := countDown x.tx.leadTimer, tailTimer := countDown x.tx.tailTimer,
                      lockoutTimer := countDown x.tx.lockoutTimer, keyed := x.tx.keyed.map (· + 1),
                      confirm := match x.tx.confirm with
                        | .window n => .window (n - 1)
                        | .off => .off
                        | .passed => .passed }
    aux := { x.aux with riseTimer := countDown x.aux.riseTimer, dropTimer := countDown x.aux.dropTimer } }

end Sys2Proof.Machine
end

