-- ==== Sys2Proof/Machine/FloorOps.lean ====
section
/-! DEFINITION. The Floor Arbiter (chapter 4): the queue (R78), grants (R85–R88), preemption (R82, R89, R90), the
owner's stopping (R91–R95), arrivals and withdrawals (R80–R83), and what the Leg Units' claims do here (R6–R9, R115). -/

namespace Sys2Proof.Machine

/-! ## Priorities and the queue -/

/-- The effective priority of a party (R79). -/
def State.priorityOf (s : State) : Party → Nat
  | .leg l => if (s.leg l).emergency.isSome then 15 else (s.leg l).boundPriority
  | .clip => s.context.priority

/-- Whether a party is a leg in emergency; CLIP never is (R82). -/
def State.inEmergency (s : State) : Party → Bool
  | .leg l => (s.leg l).emergency.isSome
  | .clip => false

/-- Whether one claim stands ahead of another (R78). -/
def Claim.ahead (a b : Claim) : Bool :=
  if a.priority = b.priority then
    match a.marker, b.marker with
    | some m, some n => n.order < m.order
    | some _, none => true
    | none, some _ => false
    | none, none => a.time.order < b.time.order
  else b.priority < a.priority

/-- A claim inserted at its place (R78). -/
def insertClaim (c : Claim) : List Claim → List Claim
  | [] => [c]
  | d :: q => if c.ahead d then c :: d :: q else d :: insertClaim c q

/-- A party's claim placed in the floor queue, in the stead of any it has there (R78, R83, R89, R100). -/
def State.enqueue (s : State) (p : PatchId) (c : Claim) : State :=
  s.modFloor p fun f => { f with queue := insertClaim c (f.queue.filter fun d => d.party != c.party) }

/-! ## Grant -/

/-- The talk-limit timer at its full talk limit, stopped with a talk limit of 0 (R97). -/
def Patch.talkTimer (x : Patch) : Option Nat := if x.talkLimit = 0 then none else some (1000 * x.talkLimit)

/-- The floor fields at a grant (R85): the talk-limit timer starts for a leg granted by any path but SEIZE. -/
def Patch.grantedFloor (x : Patch) (party : Party) (seized : Bool) (now : Word32) (time : ClaimTime) : Floor :=
  { state := .held, owner := some party, seized, grantTime := now,
    talkTimer := if party = .clip ∨ seized then none else x.talkTimer,
    queue := x.floor.queue.filter fun c => c.party != party, ownerClaim := time }

/-- The key demand of every radio member of a patch written (R86, R93, R67). -/
def State.demands (s : State) (p : PatchId) (on : LegId → Bool) : State :=
  (s.patch p).members.foldl (fun s l => if isRadio l then s.setDemand l (on l) else s) s

/-- A grant: the fields, the key demands, the retarget, the GRANTED notice, and for CLIP the report to the Clip Player
(R85–R88). `time` is the time the party's claim arrived (R80, R89; log 27). -/
def State.grant (s : State) (p : PatchId) (party : Party) (seized : Bool) (time : ClaimTime) : State :=
  let s := s.modPatch p fun x => { x with floor := x.grantedFloor party seized s.now time }
  let s := s.demands p fun l => party != .leg l
  let s := (s.retarget p (some party)).offerFloor p .granted (some party)
  match party with
  | .clip => s.clipGranted
  | .leg _ => s

/-! ## Preemption -/

/-- Whether a claimant at a priority preempts the owner (R82). -/
def State.preempts (s : State) (p : PatchId) (claimant : Party) (priority : Nat) : Bool :=
  let x := s.patch p
  match x.floor.owner with
  | none => false
  | some owner =>
    (s.inEmergency claimant && !s.inEmergency owner) ||
      (!x.floor.seized && x.margin != 0 && decide (s.priorityOf owner + x.margin ≤ priority))

/-- A leg owner displaced: the seized flag clears, and its claim, if it stands, goes back to the queue with the
preempted marker (R89, R105). -/
def State.putBack (s : State) (p : PatchId) (o : LegId) : State :=
  let f := (s.patch p).floor
  let marker := s.eventTime
  let s := s.nextEvent.modFloor p fun f => { f with seized := false }
  if (s.leg o).stands o then
    s.enqueue p ⟨.leg o, s.priorityOf (.leg o), f.ownerClaim, some marker⟩
  else s

/-- The floor taken from its owner for a party: R89 for a leg, R90 for CLIP; a SEIZE displaces in the same way
(R105). -/
def State.preempt (s : State) (p : PatchId) (party : Party) (seized : Bool) (time : ClaimTime) : State :=
  match (s.patch p).floor.owner with
  | some (.leg o) => ((s.putBack p o).offerFloor p .preempted (some (.leg o))).grant p party seized time
  | some .clip => ((s.offerFloor p .preempted (some .clip)).grant p party seized time).endUnreported .preempted
  | none => s.grant p party seized time

/-! ## When the owner stops -/

/-- The floor enters IDLE (R93). -/
def State.enterIdle (s : State) (p : PatchId) : State :=
  let s := s.modFloor p fun f => { queue := f.queue }
  ((s.demands p fun _ => false).retarget p none).offerFloor p .idle none

/-- The floor enters HANG (R95). -/
def State.enterHang (s : State) (p : PatchId) : State :=
  (s.modPatch p fun x =>
    { x with floor :=
        { state := .hang
          lastOwner := match x.floor.owner with
            | some (.leg o) => some o
            | some .clip | none => none
          hangTimer := some x.hang, queue := x.floor.queue } }).retarget p none

/-- The floor passes without hang: to the head of the queue, or to IDLE (R92). -/
def State.pass (s : State) (p : PatchId) : State :=
  match (s.patch p).floor.queue with
  | c :: _ => s.grant p c.party false c.time
  | [] => s.enterIdle p

/-- An unseized owner's withdrawal (R91). -/
def State.ownerStops (s : State) (p : PatchId) : State :=
  match (s.patch p).floor.queue with
  | c :: _ => s.grant p c.party false c.time
  | [] => if (s.patch p).hang = 0 then s.enterIdle p else s.enterHang p

/-! ## Claims and withdrawals -/

/-- A claim arrives (R80–R83, R102). -/
def State.claimArrives (s : State) (p : PatchId) (party : Party) : State :=
  let time := s.eventTime
  let s := s.nextEvent
  let f := (s.patch p).floor
  match f.state with
  | .idle | .hang => s.grant p party false time
  | .held =>
    if f.owner = some party then s.modFloor p fun f => { f with ownerClaim := time }
    else if s.preempts p party (s.priorityOf party) then s.preempt p party false time
    else (s.enqueue p ⟨party, s.priorityOf party, time, none⟩).offerFloor p .queued (some party)

/-- A claim is withdrawn (R80): by a seized owner without effect (R106), by the owner as R91 takes it, by a queued party
as R94 takes it, and by any other member without effect. -/
def State.withdraws (s : State) (p : PatchId) (party : Party) : State :=
  let f := (s.patch p).floor
  if f.owner = some party then (if f.seized then s else s.ownerStops p) else s.unqueue p party

/-- A leaving leg taken out of its patch's floor (R63). -/
def State.leaveFloor (s : State) (p : PatchId) (l : LegId) : State :=
  if (s.patch p).floor.owner = some (.leg l) then (s.modFloor p fun f => { f with seized := false }).pass p
  else s.unqueue p (.leg l)

/-- A member's claim begins to stand, and is offered to its patch's floor (R6, R8). -/
def State.offerClaim (s : State) (l : LegId) : State :=
  match (s.leg l).membership with
  | some p => s.claimArrives p (.leg l)
  | none => s

/-- A member's claim stops standing, and its withdrawal is offered to its patch's floor (R7, R8). -/
def State.offerWithdrawal (s : State) (l : LegId) : State :=
  match (s.leg l).membership with
  | some p => s.withdraws p (.leg l)
  | none => s

/-- A change of the leg record by which its claim may begin or cease to stand, with what comes before the floor is told
(R8). -/
def State.claimChange (s : State) (l : LegId) (f : State → State) : State :=
  let t := f s
  match (s.leg l).stands l, (t.leg l).stands l with
  | false, true => t.offerClaim l
  | true, false => t.offerWithdrawal l
  | _, _ => t

/-! ## What the receive machine hands to the floor -/

/-- The rise qualifies: RX_ACTIVE, the flag, the notice, then the claim (R6). -/
def State.riseQualified (s : State) (l : LegId) : State :=
  s.claimChange l fun s => ((s.modLeg l (Leg.rxTo .active)).flagRose l).offerMasked (.carrier .rose) l

/-- The drop qualifies: RX_IDLE, the flag, the notice, then the withdrawal (R7). -/
def State.dropQualified (s : State) (l : LegId) : State :=
  s.claimChange l fun s => ((s.modLeg l (Leg.rxTo .idle)).flagFell l).offerMasked (.carrier .fell) l

/-- The carrier condition taken at the moment it changes. With a rise qualify of 0 the machine passes through RX_RISING,
and with a drop qualify of 0 through RX_FALLING (R6, R7; log 4). -/
def State.conditionEvent (s : State) (l : LegId) : State :=
  let t := s.evaluate l
  match (s.leg l).rx.state, (t.leg l).rx.state with
  | .idle, .rising => if (t.leg l).config.rise = 0 then t.riseQualified l else t
  | .active, .falling => if (t.leg l).config.drop = 0 then t.dropQualified l else t
  | _, _ => t

/-- The end of a bar: RX_IDLE, the flag and the notice, with no withdrawal (R9). -/
def State.endBar (s : State) (l : LegId) : State :=
  ((s.modLeg l (Leg.rxTo .idle)).flagFell l).offerMasked (.carrier .fell) l

/-- The owner barred: a radio from RX_ACTIVE or RX_FALLING, a console from any state; with the condition absent the drop
qualify timer starts at once (R9, R98). -/
def State.bar (s : State) (l : LegId) : State :=
  let st := (s.leg l).rx.state
  if !isRadio l || st = .active || st = .falling then (s.modLeg l (Leg.rxTo .barred)).evaluate l else s

/-! ## Emergency -/

/-- A change of a member's emergency flag, taken by its place on the floor (R100, R101, R115): a queued claim is
re-placed, and at a setting tested against the owner. -/
def State.emergencyChange (s : State) (l : LegId) : State :=
  match (s.leg l).membership with
  | none => s
  | some p =>
    match (s.patch p).floor.queue.find? fun c => c.party = .leg l with
    | none => s
    | some c =>
      let s := s.enqueue p { c with priority := s.priorityOf (.leg l) }
      if s.inEmergency (.leg l) && s.preempts p (.leg l) (s.priorityOf (.leg l)) then
        s.preempt p (.leg l) false c.time
      else s

/-- The emergency flag set from clear, with its notice and its effect on the floor (R20, R112). -/
def State.setEmergency (s : State) (l : LegId) (source : EmergencySource) : State :=
  (((s.modLeg l fun x => { x with emergency := some source }).offerLeg (.emergency true source) l)).emergencyChange l

end Sys2Proof.Machine
end

