-- ==== Sys2Proof/Machine/Playback.lean ====
section
/-! DEFINITION. The end of a playback (R159–R161), and what is taken before any later command: a playback's end that
has fallen due (log 6). -/

namespace Sys2Proof.Machine

/-- The results of a HALT: the reason, and the samples played (R161; log 15). -/
def haltResults (c : Context) (reason : Option EndReason) : List Byte := reasonByte reason :: bytes32 c.played

/-- A TAKE end by COMPLETE, UNDERRUN or HALTED: the context and slot, then the floor, then the notice (R103, R159). -/
def State.endTake (s : State) (reason : EndReason) : State :=
  let c := s.context
  let s := s.clearPlayback
  let s :=
    match c.patch with
    | none => s
    | some p => if (s.patch p).floor.owner = some Party.clip then s.pass p else s.unqueue p .clip
  s.offerClip c reason

/-- An OVERLAY end taken: ENDING with the reason recorded and the cut-tone phase 0; an end recorded earlier stands (R147,
R159, R160). -/
def State.enterEnding (s : State) (reason : EndReason) : State :=
  s.modContext fun c => { c with phase := .ending, tone := 0, reason := some reason, endDue := none }

/-- The overlay purge's completion: the context returns to NONE, the slot to READY or STREAM, the notice is offered,
and a HALT waiting on the end is answered (R159, R161). -/
def State.overlayEnded (s : State) : State :=
  let c := s.context
  let s := s.clearPlayback
  let s := match c.reason with
    | some r => s.offerClip c r
    | none => s
  match s.work with
  | some .halt => s.finish .ok (haltResults c c.reason)
  | _ => s

/-- The purge of overlays that an OVERLAY end asks for (R137, R159). -/
def State.purgeOverlays (s : State) (p : PatchId) : State :=
  let r := s.purge (.overlays p) .overlayEnd
  if r.2 then r.1.overlayEnded else r.1

/-- An OVERLAY end taken outside a teardown (R159). -/
def State.endOverlay (s : State) (reason : EndReason) : State :=
  match s.context.patch with
  | some p => (s.enterEnding reason).purgeOverlays p
  | none => s

/-- A playback's end by COMPLETE, UNDERRUN or HALTED (R159). -/
def State.endPlayback (s : State) (reason : EndReason) : State :=
  match s.context.mode with
  | .take => s.endTake reason
  | .overlay => s.endOverlay reason

/-- The end that the last block supplied made due, if any (R156–R158, R162; log 6). -/
def State.takeDueEnd (s : State) : State :=
  match s.context.endDue with
  | some r => s.endPlayback r
  | none => s

end Sys2Proof.Machine
end

