-- ==== Sys2Proof/Machine/Resets.lean ====
section
/-! DEFINITION. The resets of the whole part (R28, R50, R75, R109, R142, R164, R178, R180, R189), and what is taken
before any later command. -/

namespace Sys2Proof.Machine

/-- Every block but the Link Controller at its values after power-on, the reset line and RESET ALL. Pins stay as they
are, and the commands waiting stay (log 2); the count that orders claims starts anew, since no claim is left
(log 29); the place of the next tick comes from outside and stays (log 7). -/
def State.resetBlocks (s : State) : State :=
  { s with legs := Vector.ofFn fun l => (s.leg l).afterReset
           directory := {}
           patches := Vector.replicate 12 {}
           routes := {}
           clips := {}
           order := 0
           walk := { s.walk with due := false } }

/-- The Link Controller after a reset (R178, R180, R189). -/
def Link.afterReset (address : BitVec 6) (rate : BitVec 2) (stamp : Word32) : Link := { address, rate, stamp }

/-- Whether a RESET ALL's reply has been sent, so that the reset takes place (R178). -/
def State.resetIsDue (s : State) : Bool := s.work = some (.resetAll 0)

/-- RESET ALL takes place: straps as last read, time stamp 0 (R178). -/
def State.takeReset (s : State) : State :=
  { s.resetBlocks with link := Link.afterReset s.link.address s.link.rate 0 }

/-- What has fallen due and is taken before any later command: RESET ALL, or a playback's end (R162, R178; log 6). -/
def State.settle (s : State) : State := if s.resetIsDue then s.takeReset else s.takeDueEnd

/-- Whether nothing is due. -/
abbrev State.Settled (s : State) : Prop := s.resetIsDue = false ∧ s.context.endDue = none

end Sys2Proof.Machine
end

