-- ==== Sys2Proof/Machine/PatchOps.lean ====
section
/-! DEFINITION. The Patch Manager's and the Directory's work that waits on purges: removal of a member (R62), teardown
(R67), the walks of DISBAND (R65, R66, R68) and REVOKE (R43–R45), RESET PATCHES (R76), and the telling of requesters
(R139).

`further` says that a walk has already asked for a purge, so that the next one is a further purge, which the next tick
may come before (R139; log 7). -/

namespace Sys2Proof.Machine

/-- Membership 0, and the TALK latch released (R8). -/
def Leg.released (x : Leg) : Leg := { x with membership := none, talk := false }

/-- A member removed from its patch, in the five items of R62; the answer says whether the purge completed at once. -/
def State.removeMember (s : State) (p : PatchId) (l : LegId) (requester : Requester) : State × Bool :=
  let s := s.modPatch p fun x => { x with members := x.members.filter (· != l) }
  let s := (s.leaveFloor p l).setDemand l false
  let r := s.purge (.dest p l) requester
  (r.1.modLeg l Leg.released, r.2)

/-! ## Teardown -/

/-- The clip's end in a teardown, item 2 of R67, without a report to the floor; the answer says whether a purge of
overlays is to be asked for (R159, R160). -/
def State.endInTeardown (s : State) (p : PatchId) (reason : EndReason) : State × Bool :=
  let c := s.context
  if c.patch = some p then
    match c.phase, c.mode with
    | .none, _ => (s, false)
    | .waiting, _ | .playing, .take | .tone, .take | .ending, .take => (s.endUnreported reason, false)
    | .playing, .overlay | .tone, .overlay => (s.enterEnding reason, true)
    | .ending, .overlay => (s, false)
  else (s, false)

/-- The floor set IDLE in a teardown, item 3 of R67. -/
def State.clearFloor (s : State) (p : PatchId) : State :=
  let st := (s.patch p).floor.state
  let s := s.modFloor p fun _ => {}
  match st with
  | .idle => s
  | .held | .hang => s.offerFloor p .idle none

/-- The teardown of one patch, its seven items in order; the answer says whether its purge by patch tag completed at
once (R67). -/
def State.teardown (s : State) (p : PatchId) (reason : EndReason) (requester : Requester) : State × Bool :=
  let s := s.modPatch p fun x => { x with state := .disbanding }
  let r := s.endInTeardown p reason
  let s := (r.1.clearFloor p).demands p fun _ => false
  let s := (s.patch p).members.foldl (fun s l => s.modLeg l Leg.released) s
  let s := s.modPatch p fun x => { x with members := [], monitors := [] }
  let s := if r.2 then s.purgeOverlays p else s
  s.purge (.tag p) requester

/-- A patch becomes FREE with its FREE values (R52, R68). -/
def State.freePatch (s : State) (p : PatchId) : State := s.modPatch p fun _ => {}

/-! ## Further purges and the tick -/

/-- The state in which a walk asks for its next purge, or none where the next tick is taken first. Between frames a
further purge is one of those that are asked for before that tick, if one of them is left. The first purge of a request,
and a purge asked for in a frame, do not wait for a tick (R139; log 7). -/
def State.asksPurge (s : State) (further : Bool) : Option State :=
  if further && s.routes.frame.isNone then
    match s.walk.beforeTick with
    | none => some s
    | some 0 => none
    | some (n + 1) => some { s with walk := { s.walk with beforeTick := some n } }
  else some s

/-- The request in progress waits for the next tick with this work, and goes on in the tick's step (R139; log 7). -/
def State.waitForTick (s : State) (work : Work) : State :=
  let t := s.setWork work
  { t with walk := { t.walk with due := true } }

/-! ## DISBAND -/

/-- Whether some member's emergency flag is set (R66). -/
def State.holdsEmergency (s : State) (p : PatchId) : Bool :=
  (s.patch p).members.any fun l => (s.leg l).emergency.isSome

/-- The walk of DISBAND over the patches left of its range (R65, R66, R68). A patch is tested as the walk comes to it, and
halts it there, whatever the place of the next tick. A patch that passes while that tick is taken before its teardown
counts as reached after the tick, and is tested again there (DESIGN CHOICE, log 7). -/
def State.disbandWalk (force further : Bool) : List PatchId → Nat → State → State
  | [], done, s => s.finish .ok [byte done, 0]
  | p :: rest, done, s =>
    match (s.patch p).state with
    | .free | .disbanding => State.disbandWalk force further rest (done + 1) s
    | .active =>
      if !force && s.holdsEmergency p then s.finish .halted [byte done, byte (patchNumber p)]
      else
        match s.asksPurge further with
        | none => s.waitForTick (.disband none (p :: rest) done force)
        | some s =>
          let r := s.teardown p .disbanded .disband
          if r.2 then State.disbandWalk force true rest (done + 1) (r.1.freePatch p)
          else r.1.setWork (.disband (some p) rest done force)

/-! ## REVOKE -/

/-- A leg of the revoke list unbound, and its REVOKED notice, steps 2 and 3 of R44. -/
def State.revokeLeg (s : State) (l : LegId) (left : Option PatchId) (a : AgencyId) : State :=
  ((s.setDemand l false).maskedChange l fun x => { x with binding := none }.dropFault).offer (.revoked a) (some l) left

/-- The walk of REVOKE over the legs left of its list (R44, R45). A leg that is no member asks for no purge, and is unbound
as the walk comes to it. -/
def State.revokeWalk (further : Bool) (a : AgencyId) (total : Nat) : List LegId → State → State
  | [], s => s.finish .ok [byte total]
  | l :: rest, s =>
    match (s.leg l).membership with
    | none => State.revokeWalk further a total rest (s.revokeLeg l none a)
    | some p =>
      match s.asksPurge further with
      | none => s.waitForTick (.revoke none (l :: rest) a total)
      | some s =>
        let r := s.removeMember p l .revoke
        if r.2 then State.revokeWalk true a total rest (r.1.revokeLeg l (some p) a)
        else r.1.setWork (.revoke (some (l, p)) rest a total)

/-- A walk that waited for the tick goes on (R139; log 7). -/
def State.walkOn (s : State) : State :=
  if s.walk.due then
    let s := { s with walk := { s.walk with due := false } }
    match s.work with
    | some (.disband none rest done force) => s.disbandWalk force false rest done
    | some (.revoke none rest a total) => s.revokeWalk false a total rest
    | _ => s
  else s

/-! ## RESET PATCHES -/

/-- A patch torn down by RESET PATCHES becomes FREE as its purge completes; the last completes the request (R76). -/
def State.patchReset (s : State) (p : PatchId) : State :=
  let s := s.freePatch p
  match s.work with
  | some (.resetPatches left) =>
    match left.filter (· != p) with
    | [] => s.finish .ok []
    | rest => s.setWork (.resetPatches rest)
  | _ => s

/-- The teardowns of RESET PATCHES, patch by patch in ascending order (R76; log 31). -/
def State.resetEach (s : State) : List PatchId → State
  | [] => s
  | p :: rest =>
    let r := s.teardown p .reset (.resetPatches p)
    State.resetEach (if r.2 then r.1.patchReset p else r.1) rest

/-! ## Telling requesters -/

/-- A requester told that its purge is complete (R139). A walk goes on from there, and its next purge is a further one. -/
def State.tell (s : State) : Requester → State
  | .leave =>
    match s.work with
    | some .leave => s.finish .ok []
    | _ => s
  | .monitorOff =>
    match s.work with
    | some .monitorOff => s.finish .ok []
    | _ => s
  | .revoke =>
    match s.work with
    | some (.revoke (some (l, p)) rest a total) => (s.revokeLeg l (some p) a).revokeWalk true a total rest
    | _ => s
  | .disband =>
    match s.work with
    | some (.disband (some p) rest done force) => (s.freePatch p).disbandWalk force true rest (done + 1)
    | _ => s
  | .resetPatches p => s.patchReset p
  | .overlayEnd => s.overlayEnded

/-- The purges that waited on a frame complete at its done: all their entries become FREE, and each requester is told in
request order (R138, R139). -/
def State.completePurges (s : State) : State :=
  let purges := s.routes.purges
  let s := { s with routes := { s.routes with purges := [] } }
  let s := s.freeEntries (purges.flatMap Purge.entries)
  purges.foldl (fun s r => s.tell r.requester) s

end Sys2Proof.Machine
end

