-- ==== Sys2Proof/Machine/Requests.lean ====
section
/-! DEFINITION. How a request is taken (R172, R173), and how every other command is (log 6). -/

namespace Sys2Proof.Machine

/-- A part strapped 0 or 63 has no station address, and takes broadcasts only (R167). -/
def State.hasStation (s : State) : Bool := s.link.address != 0 && s.link.address != 63

/-- An answer formed at once in place of taking a request, unless the reply path holds 4 replies waiting; a broadcast is
ignored (R172 steps 1 to 3, R173). -/
def State.turnAway (s : State) (h : Header) (code : Byte) (r : Result) : State :=
  if h.broadcast || Config.replyLimit ≤ s.link.waiting.length then s else s.answer h code [r.code]

/-- The kinds served beside a request in progress (R172 step 5). -/
def servedBeside : Kind → Bool
  | .status | .fetch => true
  | _ => false

/-- A request of a known kind and length, taken by R172 or R173; `take` is what the block that owns it does. -/
def State.request (h : Header) (k : Kind) (take : State → State) (s : State) : State :=
  let s := s.settle
  if h.broadcast then (if s.link.inProgress.isSome then s else take s)
  else if !s.hasStation || Config.replyLimit ≤ s.link.waiting.length then s
  else if s.link.inProgress.isSome && !servedBeside k then s.refuse h k .busy
  else take s

/-- Any other command, taken once what has fallen due has been taken. -/
def State.event (take : State → State) (s : State) : State := take s.settle

/-- The states in which a request is taken by the block that owns it: nothing due, nothing in progress, and for an
addressed one a station address and fewer than 4 replies waiting (R167, R172, R173). -/
abbrev State.Ready (s : State) (h : Header) : Prop :=
  s.Settled ∧ s.link.inProgress = none ∧
    (h.broadcast = true ∨ (s.hasStation = true ∧ s.link.waiting.length < Config.replyLimit))

end Sys2Proof.Machine
end

