-- ==== Sys2Proof/Machine/Frames.lean ====
section
/-! DEFINITION. The mixing frame's two edges (R132–R139) with what the tick does beside them (R5, R156, R176), and the
two ends of a playback that fall in a frame (R156–R158). -/

namespace Sys2Proof.Machine

/-- The time stamp advances by one, from its largest value to 0 (R176). -/
def State.advanceStamp (s : State) : State := { s with link := { s.link with stamp := s.link.stamp + 1 } }

/-- One ms of every timer of the legs and floors (log 3). -/
def State.tickTimers (s : State) : State :=
  (s.mapLegs fun _ x => x.tick).mapPatches fun x =>
    { x with floor := { x.floor with hangTimer := countDown x.floor.hangTimer, talkTimer := countDown x.floor.talkTimer } }

/-- The block of a source: a leg's inbound samples, or the Clip Player's block (R133). -/
def sourceBlock (inbound : Vector Block 20) (clip : Block) : Party → Block
  | .leg l => inbound.get l
  | .clip => clip

/-- The largest magnitude among a block's samples (R5). -/
def peakOf (b : Block) : Nat := (b.toList.map fun x => x.toInt.natAbs).foldl max 0

/-- The peaks of the frame's inbound samples kept for comparison (R5; log 8). -/
def State.setPeaks (s : State) (inbound : Vector Block 20) : State :=
  s.mapLegs fun l x => { x with inputs := { x.inputs with peak := peakOf (inbound.get l) } }

/-- Whether a leg's condition depends on its inbound level (R5). -/
def Leg.voxMode (l : LegId) (x : Leg) : Bool := isRadio l && x.config.inputMode != .line

/-- The order in which changed VOX conditions are taken: the legs named, then the others ascending (R84; log 8). -/
def voxOrder (order : List LegId) : List LegId := order ++ allLegs.filter fun l => !order.contains l

/-- The frame's comparison with the VOX thresholds (R5). -/
def State.compareVox (s : State) (inbound : Vector Block 20) (order : List LegId) : State :=
  (voxOrder order).foldl (fun s l => if (s.leg l).voxMode l then s.conditionEvent l else s) (s.setPeaks inbound)

/-- A frame begins: pending sources applied, the Clip Player's block supplied, the ACTIVE set taken with its source
blocks (R130, R132, R133). -/
def State.beginFrame (s : State) (inbound : Vector Block 20) : State :=
  let r := s.applyPending.supplyClip
  let t := r.2
  { t with routes := { t.routes with frame := some (t.takeSet (sourceBlock inbound r.1)) } }

/-- Whether something of the tick follows the frame's start: a comparison with a VOX threshold, or a walk that waited. -/
def State.tickGoesOn (s : State) : Bool := s.walk.due || allLegs.any fun l => (s.leg l).voxMode l

/-- The playback's end that the frame's block has made due is taken before what of the tick follows it; with nothing to
follow it is left to its own step (R156–R158, R160; logs 6, 25). -/
def State.endBeforeTick (s : State) : State := if s.tickGoesOn then s.takeDueEnd else s

/-- The tick taken while no frame is in progress (R132, R176; log 25). -/
def takeFrameStart (inbound : Vector Block 20) (order : List LegId) (s : State) : State :=
  match s.routes.frame with
  | some _ => s
  | none => ((s.advanceStamp.tickTimers.beginFrame inbound).endBeforeTick.compareVox inbound order).walkOn

/-- FRAME_START (R132). -/
def doFrameStart (inbound : Vector Block 20) (order : List LegId) (s : State) : State :=
  s.event (takeFrameStart inbound order)

/-- The meaning of FRAME_START. -/
def execFrameStart (inbound : Vector Block 20) (order : List LegId) (s : State) : Host.Outcome State Fault Refusal :=
  .next (doFrameStart inbound order s)

/-- The frame in progress is done: its outbound frames handed to the legs, the frame ended, and its purges completed. So
many further purges are asked for before the next tick (R132, R135, R138, R139; log 7). -/
def takeFrameDone (beforeTick : Option Nat) (s : State) : State :=
  match s.routes.frame with
  | none => s
  | some taken =>
    let s := s.deliver taken
    { s with routes := { s.routes with frame := none }, walk := { s.walk with beforeTick } }.completePurges

/-- FRAME_DONE (R132). -/
def doFrameDone (beforeTick : Option Nat) (s : State) : State := s.event (takeFrameDone beforeTick)

/-- The meaning of FRAME_DONE. -/
def execFrameDone (beforeTick : Option Nat) (s : State) : Host.Outcome State Fault Refusal :=
  .next (doFrameDone beforeTick s)

/-- CLIP_COMPLETE: the end that the block with the last sample has made due is taken (R156, R157, R159; log 6). -/
def doClipComplete (s : State) : State := s.event id

/-- The meaning of CLIP_COMPLETE. -/
def execClipComplete (s : State) : Host.Outcome State Fault Refusal := .next (doClipComplete s)

/-- CUT_TONE_END: the end that the block with the 1,600th tone sample has made due is taken (R158, R159; log 6). -/
def doCutToneEnd (s : State) : State := s.event id

/-- The meaning of CUT_TONE_END. -/
def execCutToneEnd (s : State) : Host.Outcome State Fault Refusal := .next (doCutToneEnd s)

end Sys2Proof.Machine
end

