-- ==== Sys2Proof/Machine/LegEvents.lean ====
section
/-! DEFINITION. The events of the Leg Units (R5–R20) and of the Floor Arbiter's timers (R96, R98). An expiry whose timer
is not running, or has not run out, changes nothing (logs 3, 5). -/

namespace Sys2Proof.Machine

/-! ## Receive machine -/

/-- The carrier input or switch at a new level (R5). -/
def doCarrierConditionChange (leg : LegId) (high : Bool) (s : State) : State :=
  s.event fun s => (s.modLeg leg fun x => { x with inputs := { x.inputs with carrierHigh := high } }).conditionEvent leg

/-- The meaning of CARRIER_CONDITION_CHANGE. -/
def execCarrierConditionChange (leg : LegId) (high : Bool) (s : State) : Host.Outcome State Fault Refusal :=
  .next (doCarrierConditionChange leg high s)

/-- The rise qualify timer of a machine in RX_RISING expires (R6). -/
def takeRiseExpiry (leg : LegId) (s : State) : State :=
  let rx := (s.leg leg).rx
  if rx.state = .rising ∧ due rx.riseTimer then s.riseQualified leg else s

/-- RISE_QUALIFY_EXPIRY (R6). -/
def doRiseQualifyExpiry (leg : LegId) (s : State) : State := s.event (takeRiseExpiry leg)

/-- The meaning of RISE_QUALIFY_EXPIRY. -/
def execRiseQualifyExpiry (leg : LegId) (s : State) : Host.Outcome State Fault Refusal := .next (doRiseQualifyExpiry leg s)

/-- The drop qualify timer of a machine in RX_FALLING expires (R7). -/
def takeDropExpiry (leg : LegId) (s : State) : State :=
  let rx := (s.leg leg).rx
  if rx.state = .falling ∧ due rx.dropTimer then s.dropQualified leg else s

/-- DROP_QUALIFY_EXPIRY (R7). -/
def doDropQualifyExpiry (leg : LegId) (s : State) : State := s.event (takeDropExpiry leg)

/-- The meaning of DROP_QUALIFY_EXPIRY. -/
def execDropQualifyExpiry (leg : LegId) (s : State) : Host.Outcome State Fault Refusal := .next (doDropQualifyExpiry leg s)

/-- The drop qualify timer of a barred machine expires; a console whose TALK latch is pressed stays barred (R9). -/
def takeBarredExpiry (leg : LegId) (s : State) : State :=
  let x := s.leg leg
  if x.rx.state = .barred ∧ due x.rx.barTimer then
    if !isRadio leg && x.talk then s.modLeg leg fun x => { x with rx := { state := .barred, barDropDone := true } }
    else s.endBar leg
  else s

/-- BARRED_DROP_EXPIRY (R9). -/
def doBarredDropExpiry (leg : LegId) (s : State) : State := s.event (takeBarredExpiry leg)

/-- The meaning of BARRED_DROP_EXPIRY. -/
def execBarredDropExpiry (leg : LegId) (s : State) : Host.Outcome State Fault Refusal := .next (doBarredDropExpiry leg s)

/-! ## Aux input -/

/-- Under EMERGENCY a qualified rise sets a clear emergency flag with source AUX (R20, R111). -/
def State.emergencyRise (s : State) (l : LegId) : State :=
  if (s.leg l).config.auxFunction = .emergency ∧ (s.leg l).emergency = none then s.setEmergency l .aux else s

/-- The aux input qualifies active: the edge, then the emergency flag (R19, R20). -/
def State.auxRose (s : State) (l : LegId) : State :=
  ((s.modLeg l fun x => { x with aux := { active := true } }).auxEdge l .rose).emergencyRise l

/-- Whether confirm supervision watches a leg in TX_ON that has passed its window (R17). -/
def Leg.watched (x : Leg) : Bool := x.tx.state = .on && x.tx.confirm = .passed

/-- The aux input qualifies inactive: the edge, and then a confirm failure of a leg that is watched (R17, R19). The spec
gives the two notices no order; the AUX notice is offered first (log 34). -/
def State.auxFell (s : State) (l : LegId) : State :=
  let s := (s.modLeg l fun x => { x with aux := { active := false } }).auxEdge l .fell
  if (s.leg l).watched then s.confirmFailure l else s

/-- The aux input taken at the moment it changes: like the carrier, with a rise or drop qualify of 0 the phase that the
change begins is over at once (R6, R7, R19; log 4). -/
def State.auxEvent (s : State) (l : LegId) : State :=
  let t := s.evaluateAux l
  let a := (s.leg l).aux
  let b := (t.leg l).aux
  if a.riseTimer = none ∧ b.riseTimer = some 0 then t.auxRose l
  else if a.dropTimer = none ∧ b.dropTimer = some 0 then t.auxFell l
  else t

/-- The aux input at a new level (R19). -/
def doAuxInputChange (leg : RadioId) (high : Bool) (s : State) : State :=
  s.event fun s =>
    (s.modLeg (radioLeg leg) fun x => { x with inputs := { x.inputs with auxHigh := high } }).auxEvent (radioLeg leg)

/-- The meaning of AUX_INPUT_CHANGE. -/
def execAuxInputChange (leg : RadioId) (high : Bool) (s : State) : Host.Outcome State Fault Refusal :=
  .next (doAuxInputChange leg high s)

/-- The rising phase of the aux input runs out (R19). -/
def takeAuxRise (l : LegId) (s : State) : State := if due (s.leg l).aux.riseTimer then s.auxRose l else s

/-- AUX_RISE_QUALIFY_EXPIRY (R19). -/
def doAuxRiseQualifyExpiry (leg : RadioId) (s : State) : State := s.event (takeAuxRise (radioLeg leg))

/-- The meaning of AUX_RISE_QUALIFY_EXPIRY. -/
def execAuxRiseQualifyExpiry (leg : RadioId) (s : State) : Host.Outcome State Fault Refusal :=
  .next (doAuxRiseQualifyExpiry leg s)

/-- The falling phase of the aux input runs out (R19). -/
def takeAuxDrop (l : LegId) (s : State) : State := if due (s.leg l).aux.dropTimer then s.auxFell l else s

/-- AUX_DROP_QUALIFY_EXPIRY (R19). -/
def doAuxDropQualifyExpiry (leg : RadioId) (s : State) : State := s.event (takeAuxDrop (radioLeg leg))

/-- The meaning of AUX_DROP_QUALIFY_EXPIRY. -/
def execAuxDropQualifyExpiry (leg : RadioId) (s : State) : Host.Outcome State Fault Refusal :=
  .next (doAuxDropQualifyExpiry leg s)

/-! ## Transmit machine -/

/-- The lead timer expires (R13). -/
def takeLeadExpiry (l : LegId) (s : State) : State :=
  let t := (s.leg l).tx
  if t.state = .lead ∧ due t.leadTimer then s.modLeg l Leg.enterOn else s

/-- LEAD_TIMER_EXPIRY (R13). -/
def doLeadTimerExpiry (leg : RadioId) (s : State) : State := s.event (takeLeadExpiry (radioLeg leg))

/-- The meaning of LEAD_TIMER_EXPIRY. -/
def execLeadTimerExpiry (leg : RadioId) (s : State) : Host.Outcome State Fault Refusal := .next (doLeadTimerExpiry leg s)

/-- The tail timer expires (R13). -/
def takeTailExpiry (l : LegId) (s : State) : State :=
  let t := (s.leg l).tx
  if t.state = .tail ∧ due t.tailTimer then s.releaseKey l .off none else s

/-- TAIL_TIMER_EXPIRY (R13). -/
def doTailTimerExpiry (leg : RadioId) (s : State) : State := s.event (takeTailExpiry (radioLeg leg))

/-- The meaning of TAIL_TIMER_EXPIRY. -/
def execTailTimerExpiry (leg : RadioId) (s : State) : Host.Outcome State Fault Refusal := .next (doTailTimerExpiry leg s)

/-- Whether continuous keying has reached the working limit, or reaches it with the present millisecond (R15; log 3). -/
def Tx.limitReached (t : Tx) : Bool :=
  t.state.keyAsserted && t.timeLimit != 0 && t.keyed.any fun k => decide (1000 * t.timeLimit ≤ k + 1)

/-- The measurement reaches the working limit (R15). -/
def takeTimeLimit (l : LegId) (s : State) : State := if (s.leg l).tx.limitReached then s.timeOut l else s

/-- TRANSMIT_TIME_LIMIT (R15). -/
def doTransmitTimeLimit (leg : RadioId) (s : State) : State := s.event (takeTimeLimit (radioLeg leg))

/-- The meaning of TRANSMIT_TIME_LIMIT. -/
def execTransmitTimeLimit (leg : RadioId) (s : State) : Host.Outcome State Fault Refusal :=
  .next (doTransmitTimeLimit leg s)

/-- The lockout timer expires (R16). -/
def takeLockoutExpiry (l : LegId) (s : State) : State :=
  let t := (s.leg l).tx
  if t.state = .lockout ∧ due t.lockoutTimer then s.endLockout l else s

/-- LOCKOUT_EXPIRY (R16). -/
def doLockoutExpiry (leg : RadioId) (s : State) : State := s.event (takeLockoutExpiry (radioLeg leg))

/-- The meaning of LOCKOUT_EXPIRY. -/
def execLockoutExpiry (leg : RadioId) (s : State) : Host.Outcome State Fault Refusal := .next (doLockoutExpiry leg s)

/-- The confirm window expires: a pass on an active aux state, a failure otherwise (R17). -/
def takeConfirmExpiry (l : LegId) (s : State) : State :=
  let x := s.leg l
  match x.tx.state, x.tx.confirm with
  | .on, .window left =>
    if left ≤ 1 then
      if x.aux.active then s.modLeg l fun x => { x with tx := { x.tx with confirm := .passed } } else s.confirmFailure l
    else s
  | _, _ => s

/-- CONFIRM_WINDOW_EXPIRY (R17). -/
def doConfirmWindowExpiry (leg : RadioId) (s : State) : State := s.event (takeConfirmExpiry (radioLeg leg))

/-- The meaning of CONFIRM_WINDOW_EXPIRY. -/
def execConfirmWindowExpiry (leg : RadioId) (s : State) : Host.Outcome State Fault Refusal :=
  .next (doConfirmWindowExpiry leg s)

/-! ## Floor timers -/

/-- The hang timer expires (R96). -/
def takeHangExpiry (p : PatchId) (s : State) : State :=
  let f := (s.patch p).floor
  if f.state = .hang ∧ due f.hangTimer then s.enterIdle p else s

/-- HANG_EXPIRY (R96). -/
def doHangExpiry (patch : PatchId) (s : State) : State := s.event (takeHangExpiry patch)

/-- The meaning of HANG_EXPIRY. -/
def execHangExpiry (patch : PatchId) (s : State) : Host.Outcome State Fault Refusal := .next (doHangExpiry patch s)

/-- The talk-limit timer expires: the notice, the bar, and the pass without hang (R98). -/
def takeTalkLimit (p : PatchId) (s : State) : State :=
  let f := (s.patch p).floor
  match f.state, f.owner with
  | .held, some (.leg o) =>
    if due f.talkTimer then ((s.offerFloor p .talkLimit (some (.leg o))).bar o).pass p else s
  | _, _ => s

/-- TALK_LIMIT_EXPIRY (R98). -/
def doTalkLimitExpiry (patch : PatchId) (s : State) : State := s.event (takeTalkLimit patch)

/-- The meaning of TALK_LIMIT_EXPIRY. -/
def execTalkLimitExpiry (patch : PatchId) (s : State) : Host.Outcome State Fault Refusal :=
  .next (doTalkLimitExpiry patch s)

end Sys2Proof.Machine
end

