-- ==== Sys2Proof/Machine/ClipRequests.lean ====
section
/-! DEFINITION. The requests of the Clip Player: LOAD, STREAM, PLAY, HALT, CLIPQ (7.4–7.9). -/

namespace Sys2Proof.Machine

/-- A slot in PLAYING or WAITING is refused by every form of LOAD (7.4). -/
def SlotState.inUse : SlotState → Bool
  | .playing | .waiting => true
  | .empty | .ready | .stream => false

/-! ## LOAD -/

/-- The blocks a length needs (R148). -/
def blocksFor (length : Nat) : Nat := (length + (Config.blockSamples - 1)) / Config.blockSamples

/-- Blocks given to a slot, zero in every sample of them: READY, STORED (R148). -/
def fillSlot (n : SlotId) (length level : Nat) (blocks : List BlockId) (s : State) : State :=
  let s := { s with clips := { s.clips with memory := s.clips.memory.zeroBlocks blocks } }
  s.modSlot n fun _ => { state := .ready, mode := some .stored, length, blocks, level }

/-- LOAD DEFINE taken: the slot's blocks freed first, then the blocks for the new length taken, lowest first (R148). A slot
left EMPTY by MEMORY_FULL has level 0 (log 33). -/
def takeLoadDefine (h : Header) (slot : Byte) (length : Word32) (level : Byte) (s : State) : State :=
  match slotOf slot, decide (1 ≤ length.toNat) && decide (length.toNat ≤ 131072) && decide (level.toNat ≤ 15) with
  | some n, true =>
    match (s.slot n).state with
    | .empty | .ready =>
      let s := s.modSlot n fun _ => {}
      let need := blocksFor length.toNat
      if s.freeBlocks.length < need then s.refuse h .load .memoryFull
      else
        let s := fillSlot n length.toNat level.toNat (s.freeBlocks.take need) s
        s.grantReply h .load (num16 s.freeBlocks.length)
    | .stream | .playing | .waiting => s.refuse h .load .slotState
  | _, _ => s.refuse h .load .range

/-- LOAD DEFINE (R148). -/
def doLoadDefine (h : Header) (slot : Byte) (length : Word32) (level : Byte) (s : State) : State :=
  s.request h .load (takeLoadDefine h slot length level)

/-- The meaning of LOAD DEFINE. -/
def execLoadDefine (h : Header) (slot : Byte) (length : Word32) (level : Byte) (s : State) :
    Host.Outcome State Fault Refusal :=
  .next (doLoadDefine h slot length level s)

/-- Samples written into a slot's clip from an offset (R149). -/
def writeSlot (n : SlotId) (offset : Nat) (samples : List Sample) (s : State) : State :=
  { s with clips := { s.clips with memory := s.clips.memory.writeClip (s.slot n).address offset samples } }

/-- LOAD WRITE taken (R149; log 18). -/
def takeLoadWrite (h : Header) (slot : Byte) (offset : Word32) (samples : List Sample) (s : State) : State :=
  match slotOf slot, decide (1 ≤ samples.length) && decide (samples.length ≤ 120) && decide (offset.toNat ≤ 131071) with
  | some n, true =>
    if (s.slot n).state ≠ .ready then s.refuse h .load .slotState
    else if (s.slot n).length < offset.toNat + samples.length then s.refuse h .load .range
    else (writeSlot n offset.toNat samples s).grantReply h .load []
  | _, _ => s.refuse h .load .range

/-- LOAD WRITE (R149). -/
def doLoadWrite (h : Header) (slot : Byte) (offset : Word32) (samples : List Sample) (s : State) : State :=
  s.request h .load (takeLoadWrite h slot offset samples)

/-- The meaning of LOAD WRITE. -/
def execLoadWrite (h : Header) (slot : Byte) (offset : Word32) (samples : List Sample) (s : State) :
    Host.Outcome State Fault Refusal :=
  .next (doLoadWrite h slot offset samples s)

/-- LOAD RELEASE's effect (R150). -/
def releaseSlot (n : SlotId) (s : State) : State :=
  match (s.slot n).state with
  | .ready => s.modSlot n fun _ => {}
  | .stream => (s.modSlot n fun _ => {}).emptyRing
  | .empty | .playing | .waiting => s

/-- LOAD RELEASE taken (R150). -/
def takeLoadRelease (h : Header) (slot : Byte) (s : State) : State :=
  match slotOf slot with
  | none => s.refuse h .load .range
  | some n =>
    if (s.slot n).state.inUse then s.refuse h .load .slotState else (releaseSlot n s).grantReply h .load []

/-- LOAD RELEASE (R150). -/
def doLoadRelease (h : Header) (slot : Byte) (s : State) : State := s.request h .load (takeLoadRelease h slot)

/-- The meaning of LOAD RELEASE. -/
def execLoadRelease (h : Header) (slot : Byte) (s : State) : Host.Outcome State Fault Refusal :=
  .next (doLoadRelease h slot s)

/-! ## STREAM -/

/-- STREAM DEFINE taken (R151). -/
def takeStreamDefine (h : Header) (slot : Byte) (length : Word32) (level : Byte) (s : State) : State :=
  match slotOf slot, decide (1 ≤ length.toNat) && decide (level.toNat ≤ 15) with
  | some n, true =>
    if (s.slot n).state ≠ .empty || s.streamSlot.isSome then s.refuse h .stream .slotState
    else
      ((s.modSlot n fun _ =>
        { state := .stream, mode := some .stream, length := length.toNat, level := level.toNat }).emptyRing).grantReply
        h .stream []
  | _, _ => s.refuse h .stream .range

/-- STREAM DEFINE (R151). -/
def doStreamDefine (h : Header) (slot : Byte) (length : Word32) (level : Byte) (s : State) : State :=
  s.request h .stream (takeStreamDefine h slot length level)

/-- The meaning of STREAM DEFINE. -/
def execStreamDefine (h : Header) (slot : Byte) (length : Word32) (level : Byte) (s : State) :
    Host.Outcome State Fault Refusal :=
  .next (doStreamDefine h slot length level s)

/-- Check 1 of STREAM DATA (R152). -/
def State.acceptsData (s : State) (n : SlotId) : Bool :=
  (s.slot n).mode = some .stream &&
    match (s.slot n).state with
    | .stream | .waiting => true
    | .playing => s.context.phase = .playing || s.context.phase = .tone
    | .empty | .ready => false

/-- Samples appended to the stream ring (R146, R152). -/
def State.appendRing (s : State) (samples : List Sample) : State :=
  { s with clips := { s.clips with ring := s.clips.ring ++ samples, accepted := s.clips.accepted + samples.length } }

/-- STREAM DATA taken: its checks in order (R152). -/
def takeStreamData (h : Header) (slot : Byte) (samples : List Sample) (s : State) : State :=
  match slotOf slot, decide (1 ≤ samples.length) && decide (samples.length ≤ 120) with
  | some n, true =>
    if !s.acceptsData n then s.refuse h .stream .slotState
    else if (s.slot n).length < s.clips.accepted + samples.length then s.refuse h .stream .range
    else if Config.ringCapacity < s.clips.ring.length + samples.length then s.refuse h .stream .ringFull
    else
      let s := s.appendRing samples
      s.grantReply h .stream (num16 s.clips.ring.length)
  | _, _ => s.refuse h .stream .range

/-- STREAM DATA (R152). -/
def doStreamData (h : Header) (slot : Byte) (samples : List Sample) (s : State) : State :=
  s.request h .stream (takeStreamData h slot samples)

/-- The meaning of STREAM DATA. -/
def execStreamData (h : Header) (slot : Byte) (samples : List Sample) (s : State) : Host.Outcome State Fault Refusal :=
  .next (doStreamData h slot samples s)

/-! ## PLAY -/

/-- The legs an overlay feeds: the members, then the monitoring consoles (R127). -/
def Patch.overlayLegs (x : Patch) : List LegId := x.members ++ x.monitors.map (·.1)

/-- The checks of PLAY in order: none when they pass (R153). -/
def playChecks (n : SlotId) (p : PatchId) (overlay : Bool) (repeats : Byte) (s : State) : Option Result :=
  let x := s.slot n
  if s.context.phase ≠ .none then some .playerBusy
  else if x.state ≠ .ready ∧ x.state ≠ .stream then some .slotState
  else if x.state = .stream ∧ repeats ≠ 1 then some .range
  else if (s.patch p).state ≠ .active then some .patchState
  else if overlay ∧ s.freeEntryCount < (s.patch p).overlayLegs.length then some .routeFull
  else none

/-- The context PLAY fills (R153). -/
def playContext (n : SlotId) (p : PatchId) (mode : PlayMode) (phase : Phase) (priority repeats : Byte) : Context :=
  { phase, slot := n, patch := some p, mode, priority := priority.toNat, repeats := repeats.toNat }

/-- PLAY in TAKE mode: WAITING, then the claim (R154). -/
def playTake (n : SlotId) (p : PatchId) (priority repeats : Byte) (s : State) : State :=
  let s := s.modContext fun _ => playContext n p .take .waiting priority repeats
  (s.modSlot n fun x => { x with state := .waiting }).claimArrives p .clip

/-- PLAY in OVERLAY mode: the entries reserved, then PLAYING (R127, R155). -/
def playOverlay (n : SlotId) (p : PatchId) (priority repeats : Byte) (s : State) : State :=
  let s := (s.patch p).overlayLegs.foldl (fun s l => s.reserve p .overlay l (s.slot n).level (some .clip)) s
  let s := s.modContext fun _ => playContext n p .overlay .playing priority repeats
  s.modSlot n fun x => { x with state := .playing }

/-- The results of a PLAY that is taken (R198). -/
def playResults (s : State) (reserved : Nat) : List Byte :=
  [flagByte (s.context.phase = .playing), byte reserved]

/-- PLAY taken (R153–R155). -/
def takePlay (h : Header) (slot patch mode priority repeats : Byte) (s : State) : State :=
  match slotOf slot, patchOf patch, isChoice mode && decide (priority.toNat ≤ 14) with
  | some n, some p, true =>
    match playChecks n p (choice mode) repeats s with
    | some r => s.refuse h .play r
    | none =>
      if choice mode then
        let t := playOverlay n p priority repeats s
        t.grantReply h .play (playResults t (s.patch p).overlayLegs.length)
      else
        let t := playTake n p priority repeats s
        t.grantReply h .play (playResults t 0)
  | _, _, _ => s.refuse h .play .range

/-- PLAY (R153). -/
def doPlay (h : Header) (slot patch mode priority repeats : Byte) (s : State) : State :=
  s.request h .play (takePlay h slot patch mode priority repeats)

/-- The meaning of PLAY. -/
def execPlay (h : Header) (slot patch mode priority repeats : Byte) (s : State) : Host.Outcome State Fault Refusal :=
  .next (doPlay h slot patch mode priority repeats s)

/-! ## HALT and CLIPQ -/

/-- HALT taken, by the phase it finds (R161). -/
def takeHalt (h : Header) (s : State) : State :=
  let c := s.context
  match c.phase, c.mode with
  | .none, _ => s.grantReply h .halt (haltResults {} none)
  | .waiting, _ | .playing, .take | .tone, .take | .ending, .take =>
    (s.endTake .halted).grantReply h .halt (haltResults c (some .halted))
  | .playing, .overlay | .tone, .overlay => (s.begin h .halt .halt).endOverlay .halted
  | .ending, .overlay => s.begin h .halt .halt

/-- HALT (R161). -/
def doHalt (h : Header) (s : State) : State := s.request h .halt (takeHalt h)

/-- The meaning of HALT. -/
def execHalt (h : Header) (s : State) : Host.Outcome State Fault Refusal := .next (doHalt h s)

/-- CLIPQ taken (R163). -/
def takeClipq (h : Header) (s : State) : State := s.grantReply h .clipq s.clipqBytes

/-- CLIPQ (R163). -/
def doClipq (h : Header) (s : State) : State := s.request h .clipq (takeClipq h)

/-- The meaning of CLIPQ. -/
def execClipq (h : Header) (s : State) : Host.Outcome State Fault Refusal := .next (doClipq h s)

end Sys2Proof.Machine
end

