-- ==== Sys2Proof/Machine/FloorRequests.lean ====
section
/-! DEFINITION. The requests of the floor: TALK, SEIZE, FLOORQ (4.10), and DECLARE (5.2). -/

namespace Sys2Proof.Machine

/-! ## TALK -/

/-- The TALK latch pressed, with the claim it may make (R8, R104). -/
def pressTalk (l : LegId) (s : State) : State :=
  s.claimChange l fun s => s.modLeg l fun x => { x with talk := true }

/-- The TALK latch released, with the withdrawal it may make; a barred console whose switch's drop has qualified goes to
RX_IDLE (R8, R9, R104; log 11). -/
def releaseTalk (l : LegId) (s : State) : State :=
  s.claimChange l fun s =>
    let t := s.modLeg l fun x => { x with talk := false }
    match (s.leg l).rx.state with
    | .barred => if (s.leg l).talk && (s.leg l).rx.barDropDone then t.endBar l else t
    | .idle | .rising | .active | .falling => t

/-- TALK taken: the checks, then the latch (R104). -/
def takeTalk (h : Header) (leg : Byte) (effect : LegId → State → State) (s : State) : State :=
  match consoleOf leg with
  | none => s.refuse h .talk .range
  | some l =>
    if (s.leg l).membership.isNone then s.refuse h .talk .notMember else (effect l s).grantReply h .talk []

/-- TALK press (R104). -/
def doTalkPress (h : Header) (leg : Byte) (s : State) : State := s.request h .talk (takeTalk h leg pressTalk)

/-- The meaning of TALK press. -/
def execTalkPress (h : Header) (leg : Byte) (s : State) : Host.Outcome State Fault Refusal := .next (doTalkPress h leg s)

/-- TALK release (R104). -/
def doTalkRelease (h : Header) (leg : Byte) (s : State) : State := s.request h .talk (takeTalk h leg releaseTalk)

/-- The meaning of TALK release. -/
def execTalkRelease (h : Header) (leg : Byte) (s : State) : Host.Outcome State Fault Refusal :=
  .next (doTalkRelease h leg s)

/-! ## SEIZE -/

/-- The time of the seized leg's claim: its queued claim's, else now (log 27). -/
def State.seizeTime (s : State) (p : PatchId) (l : LegId) : ClaimTime :=
  ((s.patch p).floor.queue.find? fun c => c.party = .leg l).elim s.eventTime Claim.time

/-- SEIZE's effect by floor state (R105). -/
def seizeLeg (p : PatchId) (l : LegId) (s : State) : State :=
  if (s.patch p).floor.owner = some (.leg l) then
    s.modFloor p fun f => { f with seized := true, talkTimer := none }
  else s.nextEvent.preempt p (.leg l) true (s.seizeTime p l)

/-- SEIZE taken (R105). -/
def takeSeize (h : Header) (patch leg : Byte) (s : State) : State :=
  match patchOf patch, legOf leg with
  | some p, some l =>
    if (s.patch p).state ≠ .active then s.refuse h .seize .patchState
    else if (s.leg l).membership ≠ some p then s.refuse h .seize .notMember
    else (seizeLeg p l s).grantReply h .seize []
  | _, _ => s.refuse h .seize .range

/-- SEIZE (R105). -/
def doSeize (h : Header) (patch leg : Byte) (s : State) : State := s.request h .seize (takeSeize h patch leg)

/-- The meaning of SEIZE. -/
def execSeize (h : Header) (patch leg : Byte) (s : State) : Host.Outcome State Fault Refusal := .next (doSeize h patch leg s)

/-- Whether a party's claim stands on its floor: a leg's by R8; CLIP's while it owns. -/
def State.partyStands (s : State) : Party → Bool
  | .leg l => (s.leg l).stands l
  | .clip => true

/-- SEIZE CLEAR's effect: the flag cleared, then the talk limit started or the owner's withdrawal taken (R107). -/
def clearSeize (p : PatchId) (s : State) : State :=
  let f := (s.patch p).floor
  if f.seized then
    let t := s.modFloor p fun f => { f with seized := false }
    if f.owner.any s.partyStands then
      t.modPatch p fun x => { x with floor := { x.floor with talkTimer := x.talkTimer } }
    else t.ownerStops p
  else s

/-- SEIZE CLEAR taken; a patch that is not ACTIVE is refused as SEIZE refuses it (R105, R107; log 17). -/
def takeSeizeClear (h : Header) (patch : Byte) (s : State) : State :=
  match patchOf patch with
  | none => s.refuse h .seize .range
  | some p =>
    if (s.patch p).state ≠ .active then s.refuse h .seize .patchState else (clearSeize p s).grantReply h .seize []

/-- SEIZE CLEAR (R107). -/
def doSeizeClear (h : Header) (patch : Byte) (s : State) : State := s.request h .seize (takeSeizeClear h patch)

/-- The meaning of SEIZE CLEAR. -/
def execSeizeClear (h : Header) (patch : Byte) (s : State) : Host.Outcome State Fault Refusal :=
  .next (doSeizeClear h patch s)

/-! ## FLOORQ -/

/-- FLOORQ taken (R108). -/
def takeFloorq (h : Header) (patch : Byte) (s : State) : State :=
  match patchOf patch with
  | none => s.refuse h .floorq .range
  | some p => s.grantReply h .floorq (s.patch p).floor.bytes

/-- FLOORQ (R108). -/
def doFloorq (h : Header) (patch : Byte) (s : State) : State := s.request h .floorq (takeFloorq h patch)

/-- The meaning of FLOORQ. -/
def execFloorq (h : Header) (patch : Byte) (s : State) : Host.Outcome State Fault Refusal := .next (doFloorq h patch s)

/-! ## DECLARE -/

/-- The results of DECLARE on: the flag and its source (R112). -/
def declareOnResults (x : Leg) : List Byte := [flagByte x.emergency.isSome, sourceByte x.emergency]

/-- The results of DECLARE off: the flag (R113). -/
def declareOffResults (x : Leg) : List Byte := [flagByte x.emergency.isSome]

/-- DECLARE on: a clear flag set with source DECLARE (R112). -/
def declareSet (l : LegId) (s : State) : State :=
  if (s.leg l).emergency.isSome then s else s.setEmergency l .declare

/-- DECLARE off: a set flag cleared, the notice naming the source it had (R113). -/
def declareClear (l : LegId) (s : State) : State :=
  match (s.leg l).emergency with
  | none => s
  | some source =>
    ((s.modLeg l fun x => { x with emergency := none }).offerLeg (.emergency false source) l).emergencyChange l

/-- DECLARE taken (R112, R113). -/
def takeDeclare (h : Header) (leg : Byte) (effect : LegId → State → State) (results : Leg → List Byte) (s : State) :
    State :=
  match legOf leg with
  | none => s.refuse h .declare .range
  | some l =>
    let t := effect l s
    t.grantReply h .declare (results (t.leg l))

/-- DECLARE on (R112). -/
def doDeclareOn (h : Header) (leg : Byte) (s : State) : State :=
  s.request h .declare (takeDeclare h leg declareSet declareOnResults)

/-- The meaning of DECLARE on. -/
def execDeclareOn (h : Header) (leg : Byte) (s : State) : Host.Outcome State Fault Refusal := .next (doDeclareOn h leg s)

/-- DECLARE off (R113). -/
def doDeclareOff (h : Header) (leg : Byte) (s : State) : State :=
  s.request h .declare (takeDeclare h leg declareClear declareOffResults)

/-- The meaning of DECLARE off. -/
def execDeclareOff (h : Header) (leg : Byte) (s : State) : Host.Outcome State Fault Refusal :=
  .next (doDeclareOff h leg s)

end Sys2Proof.Machine
end

