-- ==== Sys2Proof/Machine/LegRequests.lean ====
section
/-! DEFINITION. The requests of the leg units: EVENTS, SETLEG, PARK, UNPARK, LEGQ (1.4, 1.5). -/

namespace Sys2Proof.Machine

/-- EVENTS takes the flags of the lowest-numbered leg that has any (R27). -/
def takeEvents (h : Header) (s : State) : State :=
  match allLegs.find? fun l => (s.leg l).flags.any with
  | none => s.grantReply h .events (eventsBytes none)
  | some l => (s.modLeg l fun x => { x with flags := {} }).grantReply h .events (eventsBytes (some (l, (s.leg l).flags)))

/-- EVENTS (R27). -/
def doEvents (h : Header) (s : State) : State := s.request h .events (takeEvents h)

/-- The meaning of EVENTS. -/
def execEvents (h : Header) (s : State) : Host.Outcome State Fault Refusal := .next (doEvents h s)

/-- Whether a leg is a member of some patch. -/
def Leg.isMember (x : Leg) : Bool := x.membership.isSome

/-- A configuration written; an aux function changed away from CONFIRM stops supervision (R17, R24). -/
def Leg.configured (c : LegConfig) (x : Leg) : Leg :=
  { x with config := c
           tx := { x.tx with confirm := if c.auxFunction = .confirm then x.tx.confirm else .off } }

/-- SETLEG's effect once its checks have passed (R11, R19, R21, R24). -/
def writeConfig (l : LegId) (a : SetLegArgs) (s : State) : State :=
  let s := ((s.modLeg l (Leg.configured (configOf l a))).evaluate l).evaluateAux l
  if hasOption a.options 0 then s.clearFault l else s

/-- SETLEG taken: its checks in order, then the configuration (R24, R25). -/
def takeSetLeg (h : Header) (a : SetLegArgs) (s : State) : State :=
  match legOf a.leg, fieldsInRange a with
  | some l, true =>
    if (s.leg l).isMember && inputModeOf a.inputMode != (s.leg l).config.inputMode then s.refuse h .setLeg .member
    else (writeConfig l a s).grantReply h .setLeg []
  | _, _ => s.refuse h .setLeg .range

/-- SETLEG (R24). -/
def doSetLeg (h : Header) (a : SetLegArgs) (s : State) : State := s.request h .setLeg (takeSetLeg h a)

/-- The meaning of SETLEG. -/
def execSetLeg (h : Header) (a : SetLegArgs) (s : State) : Host.Outcome State Fault Refusal := .next (doSetLeg h a s)

/-- PARK's effect; a lockout forced to TX_OFF sets the flag and offers LOCKOUT_END (R22). -/
def parkLeg (l : LegId) (s : State) : State :=
  let t := s.modLeg l Leg.parkedAt
  match (s.leg l).tx.state with
  | .lockout => (t.flagTransmit l).offerMasked (.transmit .lockoutEnd) l
  | .off | .lead | .on | .tail | .fault => t

/-- PARK taken (R22). -/
def takePark (h : Header) (leg : Byte) (s : State) : State :=
  match legOf leg with
  | none => s.refuse h .park .range
  | some l =>
    if (s.leg l).isMember then s.refuse h .park .member
    else if (s.leg l).park.parked then s.grantReply h .park []
    else (parkLeg l s).grantReply h .park []

/-- PARK (R22). -/
def doPark (h : Header) (leg : Byte) (s : State) : State := s.request h .park (takePark h leg)

/-- The meaning of PARK. -/
def execPark (h : Header) (leg : Byte) (s : State) : Host.Outcome State Fault Refusal := .next (doPark h leg s)

/-- UNPARK's effect: each live input compared with its latched state (R23). -/
def unparkLeg (l : LegId) (s : State) : State :=
  ((s.modLeg l fun x => { x with park := { x.park with parked := false } }).evaluate l).evaluateAux l

/-- UNPARK taken (R23). -/
def takeUnpark (h : Header) (leg : Byte) (s : State) : State :=
  match legOf leg with
  | none => s.refuse h .unpark .range
  | some l => (if (s.leg l).park.parked then unparkLeg l s else s).grantReply h .unpark []

/-- UNPARK (R23). -/
def doUnpark (h : Header) (leg : Byte) (s : State) : State := s.request h .unpark (takeUnpark h leg)

/-- The meaning of UNPARK. -/
def execUnpark (h : Header) (leg : Byte) (s : State) : Host.Outcome State Fault Refusal := .next (doUnpark h leg s)

/-- LEGQ taken (R26). -/
def takeLegq (h : Header) (leg : Byte) (s : State) : State :=
  match legOf leg with
  | none => s.refuse h .legq .range
  | some l => s.grantReply h .legq (legqBytes l (s.leg l))

/-- LEGQ (R26). -/
def doLegq (h : Header) (leg : Byte) (s : State) : State := s.request h .legq (takeLegq h leg)

/-- The meaning of LEGQ. -/
def execLegq (h : Header) (leg : Byte) (s : State) : Host.Outcome State Fault Refusal := .next (doLegq h leg s)

end Sys2Proof.Machine
end

