-- ==== Sys2Proof/Machine/DirectoryRequests.lean ====
section
/-! DEFINITION. Generations, translation and bindings (2.1–2.3), and the requests of the directory: AGENCY, PLAN, REVOKE,
BIND, UNBIND, DIRQ (2.4). -/

namespace Sys2Proof.Machine

/-- An agency's generation incremented by one, from 255 to 0 at the wrap (R32). -/
def Agency.bumped (x : Agency) : Agency := { x with generation := x.generation + 1 }

/-! ## AGENCY -/

/-- The entry AGENCY writes, with its generation incremented (R36). -/
def Agency.written (a : AgencyArgs) (x : Agency) : Agency :=
  { x with valid := choice a.valid, code := a.code, base := a.base.toNat, count := a.count.toNat }.bumped

/-- AGENCY taken (R36). -/
def takeAgency (h : Header) (a : AgencyArgs) (s : State) : State :=
  match agencyOf a.agency, agencyInRange a with
  | some n, true =>
    let s := s.modAgency n (Agency.written a)
    s.grantReply h .agency [(s.agency n).generation]
  | _, _ => s.refuse h .agency .range

/-- AGENCY (R36). -/
def doAgency (h : Header) (a : AgencyArgs) (s : State) : State := s.request h .agency (takeAgency h a)

/-- The meaning of AGENCY. -/
def execAgency (h : Header) (a : AgencyArgs) (s : State) : Host.Outcome State Fault Refusal := .next (doAgency h a s)

/-! ## PLAN -/

/-- Plan entries written from an index onward (R37). -/
def writePlans (s : State) : Nat → List PlanArgs → State
  | _, [] => s
  | i, e :: rest => writePlans (if h : i < 256 then s.setPlan ⟨i, h⟩ (planOf e) else s) (i + 1) rest

/-- The agencies that the old entries from an index onward name (R38). -/
def oldAgencies (s : State) (first count : Nat) : List AgencyId :=
  (List.range count).filterMap fun k => if h : first + k < 256 then some (s.planEntry ⟨first + k, h⟩).agency else none

/-- The set of agencies that a PLAN request names by an old or a new agency field (R38). -/
def namedAgencies (s : State) (first : Nat) (entries : List PlanArgs) : List AgencyId :=
  oldAgencies s first entries.length ++ entries.map fun e => (planOf e).agency

/-- Each agency of the set incremented once (R38). -/
def State.bumpAgencies (s : State) (named : List AgencyId) : State :=
  { s with directory := { s.directory with
      agencies := Vector.ofFn fun n => if named.contains n then (s.agency n).bumped else s.agency n } }

/-- PLAN taken (R37, R38). -/
def takePlan (h : Header) (first : Byte) (entries : List PlanArgs) (s : State) : State :=
  if 1 ≤ entries.length ∧ entries.length ≤ 8 ∧ first.toNat + entries.length ≤ 256 ∧ entries.all planInRange then
    ((writePlans s first.toNat entries).bumpAgencies (namedAgencies s first.toNat entries)).grantReply h .plan []
  else s.refuse h .plan .range

/-- PLAN (R37). -/
def doPlan (h : Header) (first : Byte) (entries : List PlanArgs) (s : State) : State :=
  s.request h .plan (takePlan h first entries)

/-- The meaning of PLAN. -/
def execPlan (h : Header) (first : Byte) (entries : List PlanArgs) (s : State) : Host.Outcome State Fault Refusal :=
  .next (doPlan h first entries s)

/-! ## Translation -/

/-- The plan entry index of an agency and channel (R33). -/
def Agency.planIndex (x : Agency) (channel : Nat) : Nat := x.base + channel

/-- The outcome of a translation: the refusal of the first check that fails, or the plan entry (R34). -/
inductive Translation where
  | refused (r : Result)
  | found (entry : PlanEntry)
deriving DecidableEq, Repr

/-- Translation: the checks of R34 in order. An expected generation of none is ANY, and a priority of none is the plan's
default. -/
def State.translate (s : State) (a : AgencyId) (channel : Nat) (expected : Option Byte) (priority : Option Nat) :
    Translation :=
  let x := s.agency a
  if !x.valid then .refused .agencyInvalid
  else if expected.any (· != x.generation) then .refused .stale
  else if x.count ≤ channel then .refused .channelRange
  else
    let e := s.planEntry (Fin.ofNat 256 (x.planIndex channel))
    if !e.valid then .refused .planInvalid
    else if e.agency ≠ a then .refused .planMismatch
    else if priority.any (e.ceiling < ·) then .refused .priority
    else .found e

/-- The full binding that a successful translation yields (R33, R35). -/
def State.bindingOf (s : State) (a : AgencyId) (channel : Nat) (e : PlanEntry) (priority : Nat) : Binding :=
  { agency := a, channel, planIndex := (s.agency a).planIndex channel, generation := (s.agency a).generation,
    authority := e.authority, priority, ceiling := e.ceiling, defaultPriority := e.defaultPriority,
    duplex := e.duplex, keyLead := e.keyLead, timeLimit := e.timeLimit, lockout := e.lockout, gain := e.gain }

/-- A binding written or cleared, with its effect on masking (R10, R35, R42). -/
def State.writeBinding (s : State) (l : LegId) (b : Option Binding) : State :=
  s.maskedChange l fun x => { x with binding := b }

/-! ## BIND -/

/-- Whether BIND takes the fast path (R39). -/
def takesFastPath (s : State) (l : LegId) (a : AgencyId) (channel : Nat) (force : Bool) : Bool :=
  !force && (s.leg l).binding.any fun b =>
    b.agency = a && b.channel = channel && b.generation = (s.agency a).generation

/-- The fast path: the priority alone is replaced, checked against the cached ceiling (R40). -/
def bindFast (h : Header) (l : LegId) (priority : Option Nat) (s : State) : State :=
  match (s.leg l).binding with
  | none => s.refuse h .bind .notBound
  | some b =>
    if priority.any (b.ceiling < ·) then s.refuse h .bind .priority
    else
      (s.modLeg l fun x =>
        { x with binding := some { b with priority := priority.getD b.defaultPriority } }).grantReply h .bind []

/-- The full path: a translation, and the binding it yields (R41). -/
def bindFull (h : Header) (l : LegId) (a : AgencyId) (channel : Nat) (expected : Option Byte) (priority : Option Nat)
    (s : State) : State :=
  match s.translate a channel expected priority with
  | .refused r => s.refuse h .bind r
  | .found e =>
    (s.writeBinding l (some (s.bindingOf a channel e (priority.getD e.defaultPriority)))).grantReply h .bind []

/-- BIND taken (R39, R197). -/
def takeBind (h : Header) (a : BindArgs) (s : State) : State :=
  match legOf a.leg, agencyOf a.agency, decide (a.channel.toNat < 64) && priorityInRange a.priority with
  | some l, some n, true =>
    if (s.leg l).membership.isSome then s.refuse h .bind .member
    else if takesFastPath s l n a.channel.toNat (hasOption a.options 0) then bindFast h l (priorityOf a.priority) s
    else
      bindFull h l n a.channel.toNat (if hasOption a.options 1 then none else some a.expected) (priorityOf a.priority) s
  | _, _, _ => s.refuse h .bind .range

/-- BIND (R39). -/
def doBind (h : Header) (a : BindArgs) (s : State) : State := s.request h .bind (takeBind h a)

/-- The meaning of BIND. -/
def execBind (h : Header) (a : BindArgs) (s : State) : Host.Outcome State Fault Refusal := .next (doBind h a s)

/-! ## UNBIND -/

/-- UNBIND's effect: the binding cleared, TX_FAULT left for TX_OFF (R18, R42). A leg that was duplex in its tail becomes
masked with the flag and notice of R10 (log 35). -/
def unbindLeg (l : LegId) (s : State) : State := s.maskedChange l fun x => { x with binding := none }.dropFault

/-- UNBIND taken (R42). -/
def takeUnbind (h : Header) (leg : Byte) (s : State) : State :=
  match legOf leg with
  | none => s.refuse h .unbind .range
  | some l =>
    if (s.leg l).membership.isSome then s.refuse h .unbind .member else (unbindLeg l s).grantReply h .unbind []

/-- UNBIND (R42). -/
def doUnbind (h : Header) (leg : Byte) (s : State) : State := s.request h .unbind (takeUnbind h leg)

/-- The meaning of UNBIND. -/
def execUnbind (h : Header) (leg : Byte) (s : State) : Host.Outcome State Fault Refusal := .next (doUnbind h leg s)

/-! ## REVOKE -/

/-- The legs bound through an agency, whatever their generation seen, in ascending leg number (R43). -/
def State.revokeList (s : State) (a : AgencyId) : List LegId := allLegs.filter (s.boundThrough a)

/-- REVOKE taken: the agency withdrawn, the revoke list fixed, and its legs taken in turn (R43–R45). -/
def takeRevoke (h : Header) (agency : Byte) (s : State) : State :=
  match agencyOf agency with
  | none => s.refuse h .revoke .range
  | some a =>
    let list := s.revokeList a
    ((s.modAgency a fun x => { x with valid := false }.bumped).begin h .revoke
      (.revoke none list a list.length)).revokeWalk false a list.length list

/-- REVOKE (R43). -/
def doRevoke (h : Header) (agency : Byte) (s : State) : State := s.request h .revoke (takeRevoke h agency)

/-- The meaning of REVOKE. -/
def execRevoke (h : Header) (agency : Byte) (s : State) : Host.Outcome State Fault Refusal :=
  .next (doRevoke h agency s)

/-! ## DIRQ -/

/-- The results of DIRQ: `count` entries from an index, in ascending order, behind their one-byte count (R46, R192;
log 19). -/
def dirqBytes (s : State) (plans : Bool) (first count : Nat) : List Byte :=
  counted (List.range count) fun k =>
    if plans then s.planBytes (Fin.ofNat 256 (first + k)) else s.agencyBytes (Fin.ofNat 32 (first + k))

/-- DIRQ taken (R46). -/
def takeDirq (h : Header) (table first count : Byte) (s : State) : State :=
  if isChoice table && decide (1 ≤ count.toNat) && decide (count.toNat ≤ 8) &&
      decide (first.toNat + count.toNat ≤ if choice table then 256 else 32) then
    s.grantReply h .dirq (dirqBytes s (choice table) first.toNat count.toNat)
  else s.refuse h .dirq .range

/-- DIRQ (R46). -/
def doDirq (h : Header) (table first count : Byte) (s : State) : State :=
  s.request h .dirq (takeDirq h table first count)

/-- The meaning of DIRQ. -/
def execDirq (h : Header) (table first count : Byte) (s : State) : Host.Outcome State Fault Refusal :=
  .next (doDirq h table first count s)

end Sys2Proof.Machine
end

