-- ==== Sys2Proof/Machine/PatchRequests.lean ====
section
/-! DEFINITION. The requests of the Patch Manager: OPEN, JOIN, LEAVE, DISBAND, ACCESS, MONITOR, PATCHQ (chapter 3). -/

namespace Sys2Proof.Machine

/-! ## OPEN -/

/-- The record of a patch that OPEN opens (R56). -/
def openedPatch (a : OpenArgs) : Patch :=
  { state := .active, label := a.label, access := accessOf a.access, margin := a.margin.toNat, hang := a.hang.toNat,
    talkLimit := a.talkLimit.toNat, floorNotices := choice a.floorNotices }

/-- The lowest-numbered FREE patch (R56). -/
def State.lowestFreePatch (s : State) : Option PatchId := allPatches.find? fun p => (s.patch p).state = .free

/-- The patch OPEN names: by number, or with 0 the lowest FREE one (R56). -/
def State.patchToOpen (s : State) (b : Byte) : Option PatchId := if b = 0 then s.lowestFreePatch else patchOf b

/-- OPEN taken (R56). -/
def takeOpen (h : Header) (a : OpenArgs) (s : State) : State :=
  if a.patch.toNat ≤ 12 && openInRange a then
    match s.patchToOpen a.patch with
    | none => s.refuse h .openPatch .patchState
    | some p =>
      if (s.patch p).state = .free then
        (s.modPatch p fun _ => openedPatch a).grantReply h .openPatch [byte (patchNumber p)]
      else s.refuse h .openPatch .patchState
  else s.refuse h .openPatch .range

/-- OPEN (R56). -/
def doOpenPatch (h : Header) (a : OpenArgs) (s : State) : State := s.request h .openPatch (takeOpen h a)

/-- The meaning of OPEN. -/
def execOpenPatch (h : Header) (a : OpenArgs) (s : State) : Host.Outcome State Fault Refusal := .next (doOpenPatch h a s)

/-! ## JOIN -/

/-- What step 7 of JOIN yields: a refusal, the binding as it stands, or the re-translated one (R47, R58). -/
inductive Refreshed where
  | refused (r : Result)
  | kept (b : Binding)
  | renewed (b : Binding)
deriving DecidableEq, Repr

/-- The priority kept on a re-translation if the new ceiling allows it, else the new default (R48). -/
def refreshedPriority (b : Binding) (e : PlanEntry) : Nat :=
  if b.priority ≤ e.ceiling then b.priority else e.defaultPriority

/-- Step 7 of JOIN: re-translation when the generation seen is stale or FORCE_TRANSLATE is given (R47, R48). -/
def State.refresh (s : State) (b : Binding) (force : Bool) : Refreshed :=
  if !force && b.generation = (s.agency b.agency).generation then .kept b
  else
    match s.translate b.agency b.channel none none with
    | .refused r => .refused r
    | .found e => .renewed (s.bindingOf b.agency b.channel e (refreshedPriority b e))

/-- Whether an access list admits an authority index (R55). -/
def AccessList.admits (a : AccessList) (i : Fin 64) : Bool :=
  match a with
  | .all => true
  | .set indices => indices.getLsbD i.val

/-- The binding step 7 leaves, if it was not refused. -/
def Refreshed.binding : Refreshed → Option Binding
  | .refused _ => none
  | .kept b | .renewed b => some b

/-- The gain step of a leg's MEMBER entry (R59, R124). -/
def memberGain (l : LegId) (b : Binding) : Nat := if isRadio l then b.gain else 0

/-- The nine checks of JOIN in order; the answer is the refusal, or what step 7 yielded (R57, R58). -/
def joinChecks (p : PatchId) (l : LegId) (force override : Bool) (s : State) : Refreshed :=
  let x := s.leg l
  if (s.patch p).state ≠ .active then .refused .patchState
  else
    match x.binding with
    | none => .refused .notBound
    | some b =>
      if x.park.parked then .refused .parked
      else if x.membership.isSome then .refused .member
      else if (s.patch p).monitors.any (·.1 = l) then .refused .monitoring
      else if Config.memberCapacity ≤ (s.patch p).members.length then .refused .patchFull
      else
        match s.refresh b force with
        | .refused r => .refused r
        | r =>
          if !override && !r.binding.any fun b => (s.patch p).access.admits b.authority then .refused .denied
          else if s.lowestFree.isNone then .refused .routeFull
          else r

/-- A new member handed to the floor: its standing claim offered; then, as a destination of a HELD or HANG floor, its
key demand, and in HELD its entry's pending source (R60, R61). -/
def State.handToFloor (s : State) (p : PatchId) (l : LegId) (e : EntryId) : State :=
  let s := if (s.leg l).stands l then s.claimArrives p (.leg l) else s
  let f := (s.patch p).floor
  if f.state = .idle || f.owner = some (.leg l) then s
  else
    let s := if isRadio l then s.setDemand l true else s
    if f.state = .held then s.modEntry e fun x => { x with pendingSource := f.owner } else s

/-- The change JOIN makes when its checks pass, in the order of R59; `e` is the entry it reserves. -/
def joinLeg (p : PatchId) (l : LegId) (b : Binding) (renewed : Bool) (e : EntryId) (s : State) : State :=
  let s := if renewed then s.writeBinding l (some b) else s
  let s := s.modPatch p fun x => { x with members := x.members ++ [l] }
  let s := s.modLeg l fun x => { x with membership := some p }
  (s.reserve p .member l (memberGain l b) none).handToFloor p l e

/-- The reply of a JOIN that succeeds (R196). -/
def joinResults (b : Binding) (renewed : Bool) (e : EntryId) : List Byte := [flagByte renewed, byte b.priority, byte e.val]

/-- JOIN taken (R57–R60). -/
def takeJoin (h : Header) (patch leg options : Byte) (s : State) : State :=
  match patchOf patch, legOf leg with
  | some p, some l =>
    match joinChecks p l (hasOption options 0) (hasOption options 1) s, s.lowestFree with
    | .refused r, _ => s.refuse h .join r
    | .kept b, some e => (joinLeg p l b false e s).grantReply h .join (joinResults b false e)
    | .renewed b, some e => (joinLeg p l b true e s).grantReply h .join (joinResults b true e)
    | _, none => s.refuse h .join .routeFull
  | _, _ => s.refuse h .join .range

/-- JOIN (R57). -/
def doJoin (h : Header) (patch leg options : Byte) (s : State) : State := s.request h .join (takeJoin h patch leg options)

/-- The meaning of JOIN. -/
def execJoin (h : Header) (patch leg options : Byte) (s : State) : Host.Outcome State Fault Refusal :=
  .next (doJoin h patch leg options s)

/-! ## LEAVE -/

/-- LEAVE taken: the removal, and the reply when its purge completes (R62, R64). -/
def takeLeave (h : Header) (leg : Byte) (s : State) : State :=
  match legOf leg with
  | none => s.refuse h .leave .range
  | some l =>
    match (s.leg l).membership with
    | none => s.refuse h .leave .notMember
    | some p =>
      let r := (s.begin h .leave .leave).removeMember p l .leave
      if r.2 then r.1.finish .ok [] else r.1

/-- LEAVE (R62). -/
def doLeave (h : Header) (leg : Byte) (s : State) : State := s.request h .leave (takeLeave h leg)

/-- The meaning of LEAVE. -/
def execLeave (h : Header) (leg : Byte) (s : State) : Host.Outcome State Fault Refusal := .next (doLeave h leg s)

/-! ## DISBAND -/

/-- The patches of a range, from an index upward. -/
def patchRange (first count : Nat) : List PatchId := allPatches.filter fun p => first ≤ p.val ∧ p.val < first + count

/-- DISBAND taken (R65). -/
def takeDisband (h : Header) (first count options : Byte) (s : State) : State :=
  if 1 ≤ first.toNat ∧ 1 ≤ count.toNat ∧ first.toNat + count.toNat ≤ 13 then
    let range := patchRange (first.toNat - 1) count.toNat
    let force := hasOption options 0
    (s.begin h .disband (.disband none range 0 force)).disbandWalk force false range 0
  else s.refuse h .disband .range

/-- DISBAND (R65). -/
def doDisband (h : Header) (first count options : Byte) (s : State) : State :=
  s.request h .disband (takeDisband h first count options)

/-- The meaning of DISBAND. -/
def execDisband (h : Header) (first count options : Byte) (s : State) : Host.Outcome State Fault Refusal :=
  .next (doDisband h first count options s)

/-! ## ACCESS -/

/-- ACCESS taken (R70). -/
def takeAccess (h : Header) (patch : Byte) (list : AccessArgs) (s : State) : State :=
  match patchOf patch, accessInRange list with
  | some p, true =>
    if (s.patch p).state = .active then
      (s.modPatch p fun x => { x with access := accessOf list }).grantReply h .access []
    else s.refuse h .access .patchState
  | _, _ => s.refuse h .access .range

/-- ACCESS (R70). -/
def doAccess (h : Header) (patch : Byte) (list : AccessArgs) (s : State) : State :=
  s.request h .access (takeAccess h patch list)

/-- The meaning of ACCESS. -/
def execAccess (h : Header) (patch : Byte) (list : AccessArgs) (s : State) : Host.Outcome State Fault Refusal :=
  .next (doAccess h patch list s)

/-! ## MONITOR -/

/-- Whether a console is on a patch's monitor list (R54). -/
def Patch.monitoredBy (x : Patch) (l : LegId) : Bool := x.monitors.any (·.1 = l)

/-- How many monitor lists a console is on (R54, R71). -/
def State.monitorCount (s : State) (l : LegId) : Nat := (allPatches.filter fun p => (s.patch p).monitoredBy l).length

/-- The gain of a console already monitoring, in the list and in its entry (R72). -/
def State.setMonitorGain (s : State) (p : PatchId) (l : LegId) (gain : Nat) : State :=
  (s.modPatch p fun x => { x with monitors := x.monitors.map fun m => if m.1 = l then (l, gain) else m }).mapEntries
    fun _ x => if x.live && (Selector.monitor p l).selects x then { x with gain := gain } else x

/-- A console added to a patch's monitor list with its MONITOR entry; in HELD its pending source is the owner (R71). -/
def State.addMonitor (s : State) (p : PatchId) (l : LegId) (gain : Nat) : State :=
  let f := (s.patch p).floor
  (s.reserve p .monitor l gain (if f.state = .held then f.owner else none)).modPatch p fun x =>
    { x with monitors := x.monitors ++ [(l, gain)] }

/-- MONITOR on taken: the checks of R71 in order (R71, R72). -/
def takeMonitorOn (h : Header) (leg patch gain : Byte) (s : State) : State :=
  match consoleOf leg, patchOf patch, decide (gain.toNat ≤ 15) with
  | some l, some p, true =>
    if (s.patch p).state ≠ .active then s.refuse h .monitor .patchState
    else if (s.leg l).membership = some p then s.refuse h .monitor .member
    else if (s.patch p).monitoredBy l then
      (s.setMonitorGain p l gain.toNat).grantReply h .monitor [entryByte (s.entryFor p .monitor l)]
    else if Config.monitorCapacity ≤ s.monitorCount l then s.refuse h .monitor .patchFull
    else
      match s.lowestFree with
      | none => s.refuse h .monitor .routeFull
      | some e => (s.addMonitor p l gain.toNat).grantReply h .monitor [byte e.val]
  | _, _, _ => s.refuse h .monitor .range

/-- MONITOR on (R71). -/
def doMonitorOn (h : Header) (leg patch gain : Byte) (s : State) : State :=
  s.request h .monitor (takeMonitorOn h leg patch gain)

/-- The meaning of MONITOR on. -/
def execMonitorOn (h : Header) (leg patch gain : Byte) (s : State) : Host.Outcome State Fault Refusal :=
  .next (doMonitorOn h leg patch gain s)

/-- MONITOR off taken: the pair removed, its entry purged, and the reply when that purge completes (R73). -/
def takeMonitorOff (h : Header) (leg patch gain : Byte) (s : State) : State :=
  match consoleOf leg, patchOf patch, decide (gain.toNat ≤ 15) with
  | some l, some p, true =>
    if (s.patch p).monitoredBy l then
      let s := s.begin h .monitor .monitorOff
      let s := s.modPatch p fun x => { x with monitors := x.monitors.filter fun m => m.1 != l }
      let r := s.purge (.monitor p l) .monitorOff
      if r.2 then r.1.finish .ok [] else r.1
    else s.grantReply h .monitor []
  | _, _, _ => s.refuse h .monitor .range

/-- MONITOR off (R73). -/
def doMonitorOff (h : Header) (leg patch gain : Byte) (s : State) : State :=
  s.request h .monitor (takeMonitorOff h leg patch gain)

/-- The meaning of MONITOR off. -/
def execMonitorOff (h : Header) (leg patch gain : Byte) (s : State) : Host.Outcome State Fault Refusal :=
  .next (doMonitorOff h leg patch gain s)

/-! ## PATCHQ -/

/-- PATCHQ taken (R74). -/
def takePatchq (h : Header) (patch : Byte) (s : State) : State :=
  match patchOf patch with
  | none => s.refuse h .patchq .range
  | some p => s.grantReply h .patchq (s.patchqBytes p)

/-- PATCHQ (R74). -/
def doPatchq (h : Header) (patch : Byte) (s : State) : State := s.request h .patchq (takePatchq h patch)

/-- The meaning of PATCHQ. -/
def execPatchq (h : Header) (patch : Byte) (s : State) : Host.Outcome State Fault Refusal := .next (doPatchq h patch s)

/-! ## ROUTEQ -/

/-- ROUTEQ taken: patch 0 reads the whole pool (R141). -/
def takeRouteq (h : Header) (patch : Byte) (s : State) : State :=
  if patch = 0 then s.grantReply h .routeq s.poolBytes
  else
    match patchOf patch with
    | none => s.refuse h .routeq .range
    | some p => s.grantReply h .routeq (s.chainBytes p)

/-- ROUTEQ (R141). -/
def doRouteq (h : Header) (patch : Byte) (s : State) : State := s.request h .routeq (takeRouteq h patch)

/-- The meaning of ROUTEQ. -/
def execRouteq (h : Header) (patch : Byte) (s : State) : Host.Outcome State Fault Refusal := .next (doRouteq h patch s)

end Sys2Proof.Machine
end

