-- ==== Sys2Proof/Machine/Link.lean ====
section
/-! DEFINITION. The Link Controller: resets, STATUS, FETCH, the receiver, and the sending of replies (chapters 8, 9). -/

namespace Sys2Proof.Machine

/-! ## Resets -/

/-- POWER_ON: every block at its starting values, the straps read, the time stamp 0 (R180). -/
def doPowerOn (address : BitVec 6) (rate : BitVec 2) (s : State) : State :=
  { s.resetBlocks with link := Link.afterReset address rate 0 }

/-- The meaning of POWER_ON. -/
def execPowerOn (address : BitVec 6) (rate : BitVec 2) (s : State) : Host.Outcome State Fault Refusal :=
  .next (doPowerOn address rate s)

/-- RESET_LINE: as power-on, with the time stamp running on; a RESET ALL whose reply has been sent has set it to 0 before
(R176, R178, R180; log 6). -/
def doResetLine (address : BitVec 6) (rate : BitVec 2) (s : State) : State :=
  s.event fun s => { s.resetBlocks with link := Link.afterReset address rate s.now }

/-- The meaning of RESET_LINE. -/
def execResetLine (address : BitVec 6) (rate : BitVec 2) (s : State) : Host.Outcome State Fault Refusal :=
  .next (doResetLine address rate s)

/-- The replies formed and not yet sent, the one being sent counted (R174). -/
def State.unsent (s : State) : Nat := s.link.waiting.length + if s.link.sending.isSome then 1 else 0

/-- RESET ALL taken: its reply joins the path, and the request waits until that reply, or for a broadcast the replies
that were waiting, have been sent (R178; log 16). -/
def takeResetAll (h : Header) (s : State) : State :=
  let s := s.grantReply h .reset []
  s.begin h .reset (.resetAll s.unsent)

/-- RESET ALL (R178). -/
def doResetAll (h : Header) (s : State) : State := s.request h .reset (takeResetAll h)

/-- The meaning of RESET ALL. -/
def execResetAll (h : Header) (s : State) : Host.Outcome State Fault Refusal := .next (doResetAll h s)

/-- RESET_ALL_TAKES_PLACE, once the reply has been sent (R178). -/
def doResetAllTakesPlace (s : State) : State := s.event id

/-- The meaning of RESET_ALL_TAKES_PLACE. -/
def execResetAllTakesPlace (s : State) : Host.Outcome State Fault Refusal := .next (doResetAllTakesPlace s)

/-- RESET PATCHES taken: every ACTIVE patch torn down; complete at once when there is none (R76, R179). -/
def takeResetPatches (h : Header) (s : State) : State :=
  match allPatches.filter fun p => (s.patch p).state = .active with
  | [] => s.grantReply h .reset []
  | active => (s.begin h .reset (.resetPatches active)).resetEach active

/-- RESET PATCHES (R179). -/
def doResetPatches (h : Header) (s : State) : State := s.request h .reset (takeResetPatches h)

/-- The meaning of RESET PATCHES. -/
def execResetPatches (h : Header) (s : State) : Host.Outcome State Fault Refusal := .next (doResetPatches h s)

/-! ## STATUS and FETCH -/

/-- STATUS taken or served (R177). -/
def takeStatus (h : Header) (s : State) : State := s.grantReply h .status s.statusBytes

/-- STATUS (R177). -/
def doStatus (h : Header) (s : State) : State := s.request h .status (takeStatus h)

/-- The meaning of STATUS. -/
def execStatus (h : Header) (s : State) : Host.Outcome State Fault Refusal := .next (doStatus h s)

/-- The results of FETCH: the notices returned, then the gap flag (R186, R200). -/
def fetchBytes (notices : List Notice) (gap : Bool) : List Byte := counted notices Notice.bytes ++ [flagByte gap]

/-- The oldest notices removed, and the gap flag cleared (R186). -/
def State.dropNotices (s : State) (n : Nat) : State :=
  { s with link := { s.link with notices := s.link.notices.drop n, gap := false } }

/-- FETCH taken or served (R186). -/
def takeFetch (h : Header) (max : Byte) (s : State) : State :=
  if 1 ≤ max.toNat ∧ max.toNat ≤ 8 then
    (s.dropNotices max.toNat).grantReply h .fetch (fetchBytes (s.link.notices.take max.toNat) s.link.gap)
  else s.refuse h .fetch .range

/-- FETCH (R186). -/
def doFetch (h : Header) (max : Byte) (s : State) : State := s.request h .fetch (takeFetch h max)

/-- The meaning of FETCH. -/
def execFetch (h : Header) (max : Byte) (s : State) : Host.Outcome State Fault Refusal := .next (doFetch h max s)

/-! ## Requests from the line -/

/-- A request of a frame handed to the block that owns it (R171, R172). -/
def handOver (i : Instr) (s : State) : State :=
  match i with
  | .status h => doStatus h s
  | .fetch h max => doFetch h max s
  | .resetAll h => doResetAll h s
  | .resetPatches h => doResetPatches h s
  | .events h => doEvents h s
  | .setLeg h a => doSetLeg h a s
  | .park h leg => doPark h leg s
  | .unpark h leg => doUnpark h leg s
  | .legq h leg => doLegq h leg s
  | .agency h a => doAgency h a s
  | .plan h first entries => doPlan h first entries s
  | .revoke h a => doRevoke h a s
  | .bind h a => doBind h a s
  | .unbind h leg => doUnbind h leg s
  | .dirq h table first count => doDirq h table first count s
  | .openPatch h a => doOpenPatch h a s
  | .join h patch leg options => doJoin h patch leg options s
  | .leave h leg => doLeave h leg s
  | .disband h first count options => doDisband h first count options s
  | .access h patch list => doAccess h patch list s
  | .monitorOn h leg patch gain => doMonitorOn h leg patch gain s
  | .monitorOff h leg patch gain => doMonitorOff h leg patch gain s
  | .patchq h patch => doPatchq h patch s
  | .talkPress h leg => doTalkPress h leg s
  | .talkRelease h leg => doTalkRelease h leg s
  | .seize h patch leg => doSeize h patch leg s
  | .seizeClear h patch => doSeizeClear h patch s
  | .floorq h patch => doFloorq h patch s
  | .declareOn h leg => doDeclareOn h leg s
  | .declareOff h leg => doDeclareOff h leg s
  | .routeq h patch => doRouteq h patch s
  | .loadDefine h slot length level => doLoadDefine h slot length level s
  | .loadWrite h slot offset samples => doLoadWrite h slot offset samples s
  | .loadRelease h slot => doLoadRelease h slot s
  | .streamDefine h slot length level => doStreamDefine h slot length level s
  | .streamData h slot samples => doStreamData h slot samples s
  | .play h slot patch mode priority repeats => doPlay h slot patch mode priority repeats s
  | .halt h => doHalt h s
  | .clipq h => doClipq h s
  | .powerOn _ _ | .resetLine _ _ | .frameReceived | .replySent | .resetAllTakesPlace
  | .carrierConditionChange _ _ | .riseQualifyExpiry _ | .dropQualifyExpiry _ | .barredDropExpiry _
  | .auxInputChange _ _ | .auxRiseQualifyExpiry _ | .auxDropQualifyExpiry _ | .leadTimerExpiry _
  | .tailTimerExpiry _ | .transmitTimeLimit _ | .lockoutExpiry _ | .confirmWindowExpiry _ | .hangExpiry _
  | .talkLimitExpiry _ | .frameStart _ _ | .clipComplete | .cutToneEnd | .frameDone _ | .byteReceived _ => s

/-- Request handling of a frame for this part, by its kind code and body (R172, R173, R190, R191). -/
def State.handleRequest (s : State) (h : Header) (code : Byte) (body : List Byte) : State :=
  match Kind.ofCode code with
  | none => s.turnAway h code .unknown
  | some k =>
    match readBody h k body with
    | .wrongLength => s.turnAway h code .length
    | .outOfRange => s.request h k fun s => s.refuse h k .range
    | .request i => handOver i s

/-- Whether a frame of this address is for this part, and if so whether it is a broadcast (R167, R171). -/
def State.addressee (s : State) (address : Byte) : Option Bool :=
  if address = 63 then some true
  else if s.hasStation && address = s.link.address.setWidth 8 then some false
  else none

/-- The content of a frame examined at its closing delimiter: length, check word, address, then request handling
(R171). -/
def State.examine (s : State) (content : List Byte) : State :=
  let n := content.length - 2
  if content.length < 5 then s
  else if content.drop n ≠ bytes16 (checkWord (content.take n)) then s
  else
    match content.take n with
    | address :: code :: tag :: body =>
      match s.addressee address with
      | some broadcast => s.handleRequest ⟨tag, broadcast⟩ code body
      | none => s
    | _ => s

/-! ## The receiver -/

/-- The receiver set to a state. -/
def State.setReceiver (s : State) (r : Receiver) : State := { s with link := { s.link with receiver := r } }

/-- What the receiver does with a byte other than a delimiter that closes a frame (R170). -/
def Receiver.take (r : Receiver) (b : Byte) : Receiver :=
  match r with
  | .hunt => if b = delimiter then .inFrame [] false else .hunt
  | .inFrame content false =>
    if b = escapeByte then .inFrame content true
    else if content.length < Config.contentLimit then .inFrame (content ++ [b]) false
    else .hunt
  | .inFrame content true =>
    if b = 0xF7 ∨ b = 0xF6 then
      if content.length < Config.contentLimit then .inFrame (content ++ [b ^^^ 0x10]) false else .hunt
    else .hunt

/-- A byte taken by the receiver; a delimiter with no escape pending closes the frame, and has already opened the next
when its content is examined (R170, R171). -/
def State.takeByte (s : State) (b : Byte) : State :=
  match s.link.receiver with
  | .inFrame content false =>
    if b = delimiter then (s.setReceiver (.inFrame [] false)).examine content
    else s.setReceiver ((Receiver.inFrame content false).take b)
  | r => s.setReceiver (r.take b)

/-- A line error: IN_FRAME the content is discarded, in HUNT it is ignored (R166, R170). -/
def State.takeLineError (s : State) : State := s.setReceiver .hunt

/-- FRAME_RECEIVED: a delimiter taken, which closes the frame in the receiver (R170, R171). -/
def doFrameReceived (s : State) : State := s.event fun s => s.takeByte delimiter

/-- The meaning of FRAME_RECEIVED. -/
def execFrameReceived (s : State) : Host.Outcome State Fault Refusal := .next (doFrameReceived s)

/-- BYTE_RECEIVED: a byte or a line error taken (R170). -/
def doByteReceived (event : LineEvent) (s : State) : State :=
  s.event fun s =>
    match event with
    | .byte b => s.takeByte b
    | .lineError => s.takeLineError

/-- The meaning of BYTE_RECEIVED. -/
def execByteReceived (event : LineEvent) (s : State) : Host.Outcome State Fault Refusal := .next (doByteReceived event s)

/-! ## Sending -/

/-- The reply being sent leaves the reply path; a RESET ALL that waited on it takes place before the next starts (R174,
R178). -/
def takeReplySent (s : State) : State :=
  match s.link.sending with
  | none => s
  | some _ =>
    let t := { s with link := { s.link with sending := none } }
    match s.work with
    | some (.resetAll (n + 1)) => if n = 0 then t.setWork (.resetAll 0) else (t.setWork (.resetAll n)).startReply
    | _ => t.startReply

/-- REPLY_SENT (R174). -/
def doReplySent (s : State) : State := s.event takeReplySent

/-- The meaning of REPLY_SENT. -/
def execReplySent (s : State) : Host.Outcome State Fault Refusal := .next (doReplySent s)

end Sys2Proof.Machine
end

