-- ==== Sys2Proof/Machine/Dispatch.lean ====
section
/-! DEFINITION. The meaning of each command, one arm per row of spec/opcode_table.json. -/

namespace Sys2Proof.Machine

/-- The outcome of a command on everything but the queue. -/
def exec (i : Instr) (s : State) : Host.Outcome State Fault Refusal :=
  match i with
  | .powerOn address rate => Sys2Proof.Machine.execPowerOn address rate s
  | .resetLine address rate => Sys2Proof.Machine.execResetLine address rate s
  | .frameReceived => Sys2Proof.Machine.execFrameReceived s
  | .replySent => Sys2Proof.Machine.execReplySent s
  | .status h => Sys2Proof.Machine.execStatus h s
  | .fetch h max => Sys2Proof.Machine.execFetch h max s
  | .resetAll h => Sys2Proof.Machine.execResetAll h s
  | .resetAllTakesPlace => Sys2Proof.Machine.execResetAllTakesPlace s
  | .resetPatches h => Sys2Proof.Machine.execResetPatches h s
  | .events h => Sys2Proof.Machine.execEvents h s
  | .setLeg h a => Sys2Proof.Machine.execSetLeg h a s
  | .park h leg => Sys2Proof.Machine.execPark h leg s
  | .unpark h leg => Sys2Proof.Machine.execUnpark h leg s
  | .legq h leg => Sys2Proof.Machine.execLegq h leg s
  | .agency h a => Sys2Proof.Machine.execAgency h a s
  | .plan h first entries => Sys2Proof.Machine.execPlan h first entries s
  | .revoke h agency => Sys2Proof.Machine.execRevoke h agency s
  | .bind h a => Sys2Proof.Machine.execBind h a s
  | .unbind h leg => Sys2Proof.Machine.execUnbind h leg s
  | .dirq h table first count => Sys2Proof.Machine.execDirq h table first count s
  | .openPatch h a => Sys2Proof.Machine.execOpenPatch h a s
  | .join h patch leg options => Sys2Proof.Machine.execJoin h patch leg options s
  | .leave h leg => Sys2Proof.Machine.execLeave h leg s
  | .disband h first count options => Sys2Proof.Machine.execDisband h first count options s
  | .access h patch list => Sys2Proof.Machine.execAccess h patch list s
  | .monitorOn h leg patch gain => Sys2Proof.Machine.execMonitorOn h leg patch gain s
  | .monitorOff h leg patch gain => Sys2Proof.Machine.execMonitorOff h leg patch gain s
  | .patchq h patch => Sys2Proof.Machine.execPatchq h patch s
  | .talkPress h leg => Sys2Proof.Machine.execTalkPress h leg s
  | .talkRelease h leg => Sys2Proof.Machine.execTalkRelease h leg s
  | .seize h patch leg => Sys2Proof.Machine.execSeize h patch leg s
  | .seizeClear h patch => Sys2Proof.Machine.execSeizeClear h patch s
  | .floorq h patch => Sys2Proof.Machine.execFloorq h patch s
  | .declareOn h leg => Sys2Proof.Machine.execDeclareOn h leg s
  | .declareOff h leg => Sys2Proof.Machine.execDeclareOff h leg s
  | .routeq h patch => Sys2Proof.Machine.execRouteq h patch s
  | .loadDefine h slot length level => Sys2Proof.Machine.execLoadDefine h slot length level s
  | .loadWrite h slot offset samples => Sys2Proof.Machine.execLoadWrite h slot offset samples s
  | .loadRelease h slot => Sys2Proof.Machine.execLoadRelease h slot s
  | .streamDefine h slot length level => Sys2Proof.Machine.execStreamDefine h slot length level s
  | .streamData h slot samples => Sys2Proof.Machine.execStreamData h slot samples s
  | .play h slot patch mode priority repeats => Sys2Proof.Machine.execPlay h slot patch mode priority repeats s
  | .halt h => Sys2Proof.Machine.execHalt h s
  | .clipq h => Sys2Proof.Machine.execClipq h s
  | .carrierConditionChange leg high => Sys2Proof.Machine.execCarrierConditionChange leg high s
  | .riseQualifyExpiry leg => Sys2Proof.Machine.execRiseQualifyExpiry leg s
  | .dropQualifyExpiry leg => Sys2Proof.Machine.execDropQualifyExpiry leg s
  | .barredDropExpiry leg => Sys2Proof.Machine.execBarredDropExpiry leg s
  | .auxInputChange leg high => Sys2Proof.Machine.execAuxInputChange leg high s
  | .auxRiseQualifyExpiry leg => Sys2Proof.Machine.execAuxRiseQualifyExpiry leg s
  | .auxDropQualifyExpiry leg => Sys2Proof.Machine.execAuxDropQualifyExpiry leg s
  | .leadTimerExpiry leg => Sys2Proof.Machine.execLeadTimerExpiry leg s
  | .tailTimerExpiry leg => Sys2Proof.Machine.execTailTimerExpiry leg s
  | .transmitTimeLimit leg => Sys2Proof.Machine.execTransmitTimeLimit leg s
  | .lockoutExpiry leg => Sys2Proof.Machine.execLockoutExpiry leg s
  | .confirmWindowExpiry leg => Sys2Proof.Machine.execConfirmWindowExpiry leg s
  | .hangExpiry patch => Sys2Proof.Machine.execHangExpiry patch s
  | .talkLimitExpiry patch => Sys2Proof.Machine.execTalkLimitExpiry patch s
  | .frameStart inbound order => Sys2Proof.Machine.execFrameStart inbound order s
  | .clipComplete => Sys2Proof.Machine.execClipComplete s
  | .cutToneEnd => Sys2Proof.Machine.execCutToneEnd s
  | .frameDone beforeTick => Sys2Proof.Machine.execFrameDone beforeTick s
  | .byteReceived event => Sys2Proof.Machine.execByteReceived event s

end Sys2Proof.Machine
end

