-- ==== Sys2Proof/Safety.lean ====
section
/-! DEFINITION. What counts as a safe step, and what claims about the part are said in: how a command completes, the
ranges of its arguments as the request entries give them, the parts of a record that an operation leaves alone, and the
laws of the part. -/

namespace Sys2Proof

open Machine

/-- A step is safe at a state when it answers a next state: no fault and no refusal. -/
def SafeAt (s : State) : Prop := ∃ t, step s = .next t

namespace Machine

/-! ## Replies -/

/-- The replies formed and not yet sent, the one being sent first (R174). -/
def State.replies (s : State) : List Reply := s.link.sending.toList ++ s.link.waiting

/-- The state but for its reply path. -/
def State.silent (s : State) : State := { s with link := { s.link with sending := none, waiting := [] } }

/-- The reply a request gets: none for a broadcast (R168, R173). -/
def replyTo (h : Header) (code : Byte) (body : List Byte) : List Reply :=
  if h.broadcast then [] else [⟨code, h.tag, body⟩]

/-- A reply joined the end of the reply path and nothing else changed (R174). -/
def Replied (h : Header) (code : Byte) (body : List Byte) (s t : State) : Prop :=
  t.silent = s.silent ∧ t.replies = s.replies ++ replyTo h code body

/-- Command i, taken in s, answers a next state: u with the reply of this body behind it. -/
def Completes (i : Instr) (s : State) (h : Header) (code : Byte) (body : List Byte) (u : State) : Prop :=
  ∃ t, exec i s = .next t ∧ Replied h code body u t

/-- An addressed request reaches its kind's own taking or serving: it is for a station, and fewer than 4 replies wait. -/
abbrev State.Admits (s : State) : Prop := s.hasStation = true ∧ s.link.waiting.length < 4

/-- The states in which STATUS and FETCH are taken or served: beside any request in progress whose replies are not
discarded, and for a broadcast with none in progress (R172, R173, R178). -/
abbrev State.Serves (s : State) (h : Header) : Prop :=
  s.Settled ∧ s.discardsReplies = false ∧
    ((h.broadcast = true ∧ s.link.inProgress = none) ∨ (h.broadcast = false ∧ s.Admits))

/-- A command that resets the whole part: POWER_ON, RESET_LINE, and RESET_ALL_TAKES_PLACE once the reply has been sent. -/
def FullReset (i : Instr) (s : State) : Prop :=
  match i with
  | .powerOn _ _ | .resetLine _ _ => True
  | .resetAllTakesPlace => s.resetIsDue = true
  | _ => False

/-- All of k purges of one walk, the first and the k - 1 further ones, are asked for before the next tick (R139; log 7). -/
abbrev State.Paced (s : State) (k : Nat) : Prop := ∀ n ∈ s.walk.beforeTick, k ≤ n + 1

/-! ## Ranges of the arguments -/

/-- A character 0x20–0x7E. -/
def inText (b : Byte) : Prop := 0x20 ≤ b.toNat ∧ b.toNat ≤ 0x7E

/-- A patch number 1–12. -/
def inPatches (b : Byte) : Prop := 1 ≤ b.toNat ∧ b.toNat ≤ 12

/-- A console leg number 16–19. -/
def inConsoles (b : Byte) : Prop := 16 ≤ b.toNat ∧ b.toNat ≤ 19

/-- A time within a range and on its step. -/
def inSteps (w : Word16) (lo hi step : Nat) : Prop := lo ≤ w.toNat ∧ w.toNat ≤ hi ∧ w.toNat % step = 0

/-- The ranges of a PLAN entry's fields (R31). -/
def PlanArgs.InRange (e : PlanArgs) : Prop :=
  e.valid.toNat ≤ 1 ∧ e.agency.toNat ≤ 31 ∧ e.authority.toNat ≤ 63 ∧ e.ceiling.toNat ≤ 14 ∧
    e.defaultPriority.toNat ≤ e.ceiling.toNat ∧ inSteps e.keyLead 0 500 10 ∧
    (e.timeLimit.toNat = 0 ∨ (10 ≤ e.timeLimit.toNat ∧ e.timeLimit.toNat ≤ 600)) ∧ e.lockout.toNat ≤ 120 ∧
    e.duplex.toNat ≤ 1 ∧ e.gain.toNat ≤ 15

/-- The ranges of the Arguments lines of the request entries, with the conditions that R2, R30, R31, R46, R51 and R65
add. Every other row has none. -/
def ArgumentsInRange : Instr → Prop
  | .fetch _ max => 1 ≤ max.toNat ∧ max.toNat ≤ 8
  | .setLeg _ a =>
    a.leg.toNat ≤ 19 ∧ a.inputMode.toNat ≤ 2 ∧ a.carrierPolarity.toNat ≤ 1 ∧ inSteps a.rise 0 500 5 ∧
      inSteps a.drop 0 2000 5 ∧ -50 ≤ a.vox.toInt ∧ a.vox.toInt ≤ -10 ∧ a.auxFunction.toNat ≤ 2 ∧
      a.auxPolarity.toNat ≤ 1 ∧ inSteps a.window 50 1000 1 ∧ a.mask.toNat ≤ 7
  | .park _ leg | .unpark _ leg | .legq _ leg | .unbind _ leg | .leave _ leg | .declareOn _ leg | .declareOff _ leg =>
    leg.toNat ≤ 19
  | .agency _ a =>
    a.agency.toNat ≤ 31 ∧ a.valid.toNat ≤ 1 ∧ (∀ c ∈ a.code.toList, inText c) ∧ 1 ≤ a.count.toNat ∧
      a.count.toNat ≤ 64 ∧ a.base.toNat + a.count.toNat ≤ 256
  | .plan _ first entries =>
    1 ≤ entries.length ∧ entries.length ≤ 8 ∧ first.toNat + entries.length ≤ 256 ∧
      ∀ e ∈ entries, PlanArgs.InRange e
  | .revoke _ agency => agency.toNat ≤ 31
  | .bind _ a =>
    a.leg.toNat ≤ 19 ∧ a.agency.toNat ≤ 31 ∧ a.channel.toNat ≤ 63 ∧ (a.priority.toNat ≤ 14 ∨ a.priority.toNat = 255)
  | .dirq _ table first count =>
    table.toNat ≤ 1 ∧ 1 ≤ count.toNat ∧ count.toNat ≤ 8 ∧
      first.toNat + count.toNat ≤ if table = 0 then 32 else 256
  | .openPatch _ a =>
    a.patch.toNat ≤ 12 ∧ (∀ c ∈ a.label.toList, inText c) ∧ a.access.all.toNat ≤ 1 ∧ a.margin.toNat ≤ 15 ∧
      inSteps a.hang 0 5000 50 ∧ (a.talkLimit.toNat = 0 ∨ (5 ≤ a.talkLimit.toNat ∧ a.talkLimit.toNat ≤ 300)) ∧
      a.floorNotices.toNat ≤ 1
  | .join _ patch leg _ => inPatches patch ∧ leg.toNat ≤ 19
  | .disband _ first count _ => 1 ≤ first.toNat ∧ 1 ≤ count.toNat ∧ first.toNat + count.toNat - 1 ≤ 12
  | .access _ patch list => inPatches patch ∧ list.all.toNat ≤ 1
  | .monitorOn _ leg patch gain | .monitorOff _ leg patch gain => inConsoles leg ∧ inPatches patch ∧ gain.toNat ≤ 15
  | .patchq _ patch | .floorq _ patch | .seizeClear _ patch => inPatches patch
  | .routeq _ patch => patch.toNat ≤ 12
  | .talkPress _ leg | .talkRelease _ leg => inConsoles leg
  | .seize _ patch leg => inPatches patch ∧ leg.toNat ≤ 19
  | .loadDefine _ slot length level =>
    slot.toNat ≤ 7 ∧ 1 ≤ length.toNat ∧ length.toNat ≤ 131072 ∧ level.toNat ≤ 15
  | .loadWrite _ slot offset samples =>
    slot.toNat ≤ 7 ∧ offset.toNat ≤ 131071 ∧ 1 ≤ samples.length ∧ samples.length ≤ 120
  | .loadRelease _ slot => slot.toNat ≤ 7
  | .streamDefine _ slot length level => slot.toNat ≤ 7 ∧ 1 ≤ length.toNat ∧ level.toNat ≤ 15
  | .streamData _ slot samples => slot.toNat ≤ 7 ∧ 1 ≤ samples.length ∧ samples.length ≤ 120
  | .play _ slot patch mode priority _ =>
    slot.toNat ≤ 7 ∧ inPatches patch ∧ mode.toNat ≤ 1 ∧ priority.toNat ≤ 14
  | _ => True

/-! ## What operations leave alone -/

/-- A leg record but for its receive and transmit machines, its key demand and its event flags: configuration, binding,
membership, aux and park states, emergency flag, TALK latch, inputs and last output. -/
def Leg.fixed (x : Leg) : Leg := { x with rx := {}, tx := {}, demand := false, flags := {} }

/-- A patch record but for its floor fields and its chain: state, settings, member list, monitor list. -/
def Patch.fixed (x : Patch) : Patch := { x with floor := {}, chain := [] }

/-- A route entry but for its pending source. -/
def Entry.fixed (x : Entry) : Entry := { x with pendingSource := none }

/-- The Link Controller but for the Notice Queue and its gap flag. -/
def Link.quiet (k : Link) : Link := { k with notices := [], gap := false }

/-- What the work of the Floor Arbiter leaves alone: of the legs all but their machines, key demands and event flags, of
the patches all but the floor fields, of the entries all but the pending sources; of the clips the memory, and the length,
blocks, level and mode of every slot; the directory; of the link all but the notices; the queue of commands and the place of
the next tick in a walk. The ring and the accepted count stay unless CLIP loses a floor, and the playback context and the slots
stay whole unless CLIP is granted or loses one. -/
structure FloorWork (s t : State) : Prop where
  legs : ∀ l, (t.leg l).fixed = (s.leg l).fixed
  patches : ∀ p, (t.patch p).fixed = (s.patch p).fixed ∧ (t.patch p).chain = (s.patch p).chain
  entries : ∀ e, (t.entry e).fixed = (s.entry e).fixed
  frame : t.routes.frame = s.routes.frame ∧ t.routes.purges = s.routes.purges
  memory : t.clips.memory = s.clips.memory
  slots : ∀ n, (t.slot n).length = (s.slot n).length ∧ (t.slot n).blocks = (s.slot n).blocks ∧
    (t.slot n).level = (s.slot n).level ∧ (t.slot n).mode = (s.slot n).mode
  directory : t.directory = s.directory
  link : t.link.quiet = s.link.quiet
  queue : t.pending = s.pending
  walk : t.walk = s.walk
  ring : (∀ p, (s.patch p).floor.owner = some .clip → (t.patch p).floor.owner = some .clip) →
    t.clips.ring = s.clips.ring ∧ t.clips.accepted = s.clips.accepted
  playback : (∀ p, (t.patch p).floor.owner = some .clip ↔ (s.patch p).floor.owner = some .clip) →
    (s.context.phase = .waiting → ∀ p, (s.patch p).floor.owner ≠ some .clip) →
    t.context = s.context ∧ ∀ n, t.slot n = s.slot n

/-! ## Preemption -/

/-- R89, R90, R105: the floor of patch p has passed to a party from the owner it had, from s to t. A leg owner goes back to
the queue with its claim time, its effective priority and the preempted marker if its claim stands, the PREEMPTED notice
names it, and the grant follows. For CLIP the PREEMPTED notice and the grant come first, and then its playback is over with
reason PREEMPTED and its CLIP notice. A floor without an owner is granted. The marker's place in the order of events is
the model's (log 20). -/
def Displaced (s : State) (p : PatchId) (party : Party) (seized : Bool) (time : ClaimTime) (t : State) : Prop :=
  match (s.patch p).floor.owner with
  | none => t = s.grant p party seized time
  | some (.leg o) =>
    let claim : Claim :=
      { party := .leg o
        priority := if (s.leg o).emergency.isSome then 15 else (s.leg o).binding.elim 0 Binding.priority
        time := (s.patch p).floor.ownerClaim, marker := some ⟨s.link.stamp, s.order⟩ }
    let u : State := { s with order := s.order + 1 }.modFloor p fun f =>
      { f with
        seized := false
        queue := if (s.leg o).stands o then insertClaim claim (f.queue.filter fun c => c.party ≠ Party.leg o) else f.queue }
    let u := if (s.patch p).floorNotices then u.offer (.floor .preempted false) (some o) (some p) else u
    t = u.grant p party seized time
  | some .clip =>
    let u := if (s.patch p).floorNotices then s.offer (.floor .preempted true) none (some p) else s
    let u := u.grant p party seized time
    t = u.clearPlayback.offer (.clip s.context.slot .preempted s.context.played) none s.context.patch

/-! ## Laws of the part -/

/-- R185, R146: at most 32 notices, and at most 1,024 samples in the ring. Clip memory (R144) is in the canonical form of
the model's list, which is the model's choice and no bound of R144 (log 13). -/
structure BufferLaw (s : State) : Prop where
  notices : s.link.notices.length ≤ 32
  ring : s.clips.ring.length ≤ 1024
  memory : s.clips.memory.wf

/-- R174: at most 5 replies wait, and at most 4 while an addressed request is in progress. -/
structure ReplyLaw (s : State) : Prop where
  waiting : s.link.waiting.length ≤ 5
  beside : ∀ r, s.link.inProgress = some r → r.header.broadcast = false → s.link.waiting.length ≤ 4

/-- R110: bound priorities and clip priorities lie in 0–14. -/
structure PriorityLaw (s : State) : Prop where
  plans : ∀ i, (s.planEntry i).ceiling ≤ 14 ∧ (s.planEntry i).defaultPriority ≤ (s.planEntry i).ceiling
  bindings : ∀ l b, (s.leg l).binding = some b →
    b.ceiling ≤ 14 ∧ b.priority ≤ b.ceiling ∧ b.defaultPriority ≤ b.ceiling
  clip : s.context.priority ≤ 14

/-- R144: no clip block is held twice, by one slot or by two. R145, R148: a READY slot holds a STORED clip, and the blocks
of a STORED clip hold its length. -/
structure BlockLaw (s : State) : Prop where
  once : (allSlots.flatMap fun n => (s.slot n).blocks).Nodup
  ready : ∀ n, (s.slot n).state = .ready → (s.slot n).mode = some .stored
  filled : ∀ n, (s.slot n).mode = some .stored → (s.slot n).length ≤ 512 * (s.slot n).blocks.length

/-- R145, R146, R147: at most one slot is PLAYING or WAITING, and it is the slot of the playback context, in the state of
its phase; a context in phase NONE is blank, and an EMPTY slot too, with the level 0 that is the model's choice (log 33);
at most one slot is in STREAM mode, and the samples played of it and those in the ring are within the accepted count, and
that within its declared length. -/
structure PlaybackLaw (s : State) : Prop where
  inUse : ∀ n, (s.slot n).state = .playing ∨ (s.slot n).state = .waiting →
    s.context.phase ≠ .none ∧ s.context.slot = n
  phase : s.context.phase ≠ .none → s.context.patch.isSome = true ∧
    (s.slot s.context.slot).state = if s.context.phase = .waiting then .waiting else .playing
  blank : s.context.phase = .none → s.context = {}
  ending : s.context.endDue.isSome = true → s.context.phase = .playing ∨ s.context.phase = .tone
  empty : ∀ n, (s.slot n).state = .empty → s.slot n = {}
  modes : ∀ n, (s.slot n).state ≠ .empty → (s.slot n).mode.isSome = true
  ready : ∀ n, (s.slot n).state = .ready → (s.slot n).mode = some .stored
  streams : ∀ n, (s.slot n).state = .stream → (s.slot n).mode = some .stream
  single : ∀ m n, (s.slot m).mode = some .stream → (s.slot n).mode = some .stream → m = n
  accepted : ∀ n, (s.slot n).mode = some .stream → s.clips.accepted ≤ (s.slot n).length ∧ (s.slot n).length < 2 ^ 32
  ring : s.clips.ring.length ≤ s.clips.accepted
  tone : s.context.phase ≠ .tone → s.context.tone = 0
  played : (s.slot s.context.slot).mode = some .stream → s.context.phase ≠ .none →
    s.context.played.toNat + s.clips.ring.length ≤ s.clips.accepted

/-- R53: the membership field and the member lists agree, a list holds at most 8 legs and none twice, and a member is
bound and not parked. R54: a monitor list holds consoles, none twice and no member of the patch, each with a gain step, and
a console is on at most 4. R52: only an ACTIVE patch has members and monitors. The last three clauses say which patches the
request in progress and the purges outstanding may still free. -/
structure PatchLaw (s : State) : Prop where
  membership : ∀ l p, (s.leg l).membership = some p ↔ l ∈ (s.patch p).members
  nodup : ∀ p, (s.patch p).members.Nodup
  capacity : ∀ p, (s.patch p).members.length ≤ 8
  bound : ∀ l, (s.leg l).membership.isSome = true → (s.leg l).binding.isSome = true ∧ (s.leg l).park.parked = false
  active : ∀ p, (s.patch p).members ≠ [] ∨ (s.patch p).monitors ≠ [] → (s.patch p).state = .active
  consoles : ∀ p, ((s.patch p).monitors.map Prod.fst).Nodup ∧
    ∀ m ∈ (s.patch p).monitors, 16 ≤ m.1.val ∧ m.2 ≤ 15 ∧ m.1 ∉ (s.patch p).members
  reach : ∀ l, ((List.finRange 12).filter fun p => (s.patch p).monitors.any fun m => m.1 = l).length ≤ 4
  resetting : ∀ p, (∃ r ∈ s.routes.purges, r.requester = .resetPatches p) → (s.patch p).state = .disbanding
  disbanding : ∀ p rest n f, s.work = some (.disband (some p) rest n f) → (s.patch p).state ≠ .active
  revoking : ∀ l p rest a n, s.work = some (.revoke (some (l, p)) rest a n) → (s.leg l).membership = none

/-- R77, R78: a floor has an owner exactly when it is HELD; the owner is a member or CLIP; the queue is empty outside
HELD, and holds members or CLIP, none twice and never the owner, in queue order: no claim stands ahead of one before it. -/
structure FloorLaw (s : State) : Prop where
  owner : ∀ p, (s.patch p).floor.state = .held ↔ (s.patch p).floor.owner.isSome = true
  member : ∀ p l, (s.patch p).floor.owner = some (.leg l) → l ∈ (s.patch p).members
  waiting : ∀ p, (s.patch p).floor.queue ≠ [] → (s.patch p).floor.state = .held
  queued : ∀ p l, (∃ c ∈ (s.patch p).floor.queue, c.party = .leg l) → l ∈ (s.patch p).members
  once : ∀ p, ((s.patch p).floor.queue.map Claim.party).Nodup
  apart : ∀ p c, c ∈ (s.patch p).floor.queue → (s.patch p).floor.owner ≠ some c.party
  ordered : ∀ p, (s.patch p).floor.queue.Pairwise fun a b => b.ahead a = false

/-- The RESERVED and ACTIVE entries of a patch, of a kind, that feed a leg. -/
def State.feeding (s : State) (p : PatchId) (kind : EntryKind) (l : LegId) : List EntryId :=
  (List.finRange 40).filter fun e => (s.entry e).live && (s.entry e).tag = some p && (s.entry e).kind = some kind &&
    (s.entry e).dest = some l

/-- R123, R130: a chain holds the entries tagged with its patch that are not FREE, none twice; only an ACTIVE patch has
RESERVED or ACTIVE ones, and a FREE patch has none (R52); an ACTIVE entry has a source, which is not its destination. R121:
a FREE entry has the FREE values. R126: one MEMBER entry for each member and one MONITOR entry for each monitoring console,
and no other of these kinds. R137, R138: the PURGING entries are those that the purges outstanding took, and none is there
between frames. -/
structure RouteLaw (s : State) : Prop where
  tagged : ∀ p e, e ∈ (s.patch p).chain → (s.entry e).tag = some p ∧ (s.entry e).state ≠ .free
  nodup : ∀ p, (s.patch p).chain.Nodup
  linked : ∀ p e, (s.entry e).live = true → (s.entry e).tag = some p →
    e ∈ (s.patch p).chain ∧ (s.patch p).state = .active
  placed : ∀ p e, (s.entry e).state ≠ .free → (s.entry e).tag = some p → e ∈ (s.patch p).chain
  free : ∀ p, (s.patch p).state = .free → (s.patch p).chain = []
  blank : ∀ e, (s.entry e).state = .free → s.entry e = {}
  feeds : ∀ p l, (s.feeding p .member l).length = (if l ∈ (s.patch p).members then 1 else 0) ∧
    (s.feeding p .monitor l).length = if (s.patch p).monitors.any fun m => m.1 = l then 1 else 0
  purging : ∀ e, (s.entry e).state = .purging →
    s.routes.frame.isSome = true ∧ ∃ r ∈ s.routes.purges, e ∈ r.entries
  outstanding : ∀ r ∈ s.routes.purges, ∀ e ∈ r.entries, (s.entry e).state = .purging
  sourced : ∀ e, (s.entry e).state = .active →
    (s.entry e).source.isSome = true ∧ (s.entry e).source ≠ (s.entry e).dest.map Party.leg
  resetting : ∀ p, (∃ r ∈ s.routes.purges, r.requester = .resetPatches p) → (s.patch p).state = .disbanding
  disbanding : ∀ p rest n f, s.work = some (.disband (some p) rest n f) → (s.patch p).state ≠ .active

end Machine

end Sys2Proof
end

