-- ==== Sys2Proof/Certificates/Slice0/Obligations.lean ====
section
/-! DEFINITION. The statements for the provers, in the order of the manual. -/

open Sys2Proof Sys2Proof.Machine

/-! ## Steps -/

/-- A step runs the command at the front of the queue on the state with the queue's rest. -/
def Obligations.StepTakesTheFrontCommand : Prop :=
  ∀ (c : Instr) (rest : List Instr) (s : State), s.pending = c :: rest → step s = exec c { s with pending := rest }

/-- Every command answers a next state in every state, and leaves the queue of waiting commands alone. That it answers
in states no run reaches is the model's choice (log 26), and so is that no reset empties the queue (log 2). -/
def Obligations.EveryCommandAnswersANextState : Prop :=
  ∀ (i : Instr) (s : State), ∃ t, exec i s = .next t ∧ t.pending = s.pending

/-! ## Resets -/

/-- R28, for every reset of the whole part. -/
def Obligations.LegsAfterAFullReset : Prop :=
  ∀ (i : Instr) (s : State), FullReset i s → ∃ t, exec i s = .next t ∧ t.link.notices = [] ∧
    ∀ l, (t.leg l).config =
        { inputMode := .line, carrierLow := false, rise := 40, drop := 300, vox := -30, auxFunction := .off,
          auxLow := false, window := 250, mask := { carrier := false, aux := false, transmit := false } } ∧
      (t.leg l).binding = none ∧ (t.leg l).membership = none ∧ (t.leg l).demand = false ∧
      ((t.leg l).rx.dropTimer = none ∧ (t.leg l).rx.barTimer = none ∧
        if (s.leg l).inputs.carrierHigh then (t.leg l).rx.state = .rising ∧ (t.leg l).rx.riseTimer = some 40
        else (t.leg l).rx.state = .idle ∧ (t.leg l).rx.riseTimer = none) ∧
      ((t.leg l).tx.state = .off ∧ (t.leg l).tx.leadTimer = none ∧ (t.leg l).tx.tailTimer = none ∧
        (t.leg l).tx.lockoutTimer = none ∧ (t.leg l).tx.keyed = none ∧ (t.leg l).tx.confirm = .off ∧
        (∀ x ∈ (t.leg l).tx.line, x = 0) ∧ (t.leg l).tx.keyLead = 0 ∧ (t.leg l).tx.timeLimit = 0 ∧
        (t.leg l).tx.lockout = 0) ∧
      ((t.leg l).aux.active = (s.leg l).inputs.auxHigh ∧ (t.leg l).aux.riseTimer = none ∧
        (t.leg l).aux.dropTimer = none) ∧
      ((t.leg l).park.parked = false ∧ (t.leg l).park.rx = .idle ∧ (t.leg l).park.aux = false) ∧
      (t.leg l).flags = { rose := false, fell := false, aux := false, transmit := false } ∧
      (t.leg l).emergency = none ∧ (t.leg l).talk = false

/-- R50, R75, R142, R164: the directory, the patches, the Route List and the Clip Player after a reset of the whole
part; and RESET PATCHES leaves the directory and every binding alone. -/
def Obligations.TablesAfterAFullReset : Prop :=
  ((∀ (i : Instr) (s : State), FullReset i s → ∃ t, exec i s = .next t ∧
     (∀ a, t.agency a =
       { valid := false, code := Vector.replicate 4 0x20, generation := 0, base := 0, count := 1 }) ∧
     (∀ n, t.planEntry n =
       { valid := false, agency := 0, authority := 0, ceiling := 0, defaultPriority := 0, keyLead := 0, timeLimit := 0,
         lockout := 0, duplex := false, gain := 0 }) ∧
     (∀ l, (t.leg l).binding = none) ∧ t.link.inProgress = none ∧ t.replies = [] ∧ t.link.notices = [] ∧
     ∀ a channel expected priority, t.translate a channel expected priority = .refused .agencyInvalid) ∧
   ∀ (h : Header) (s : State), s.Settled → ∃ t, exec (.resetPatches h) s = .next t ∧ t.directory = s.directory ∧
     ∀ l, (t.leg l).binding = (s.leg l).binding) ∧
  (∀ (i : Instr) (s : State), FullReset i s → ∃ t, exec i s = .next t ∧
     (∀ p, t.patch p =
       { state := .free, label := Vector.replicate 8 0x20, access := .set 0, margin := 0, hang := 0, talkLimit := 0,
         floorNotices := false, members := [], monitors := [],
         floor := { state := .idle, owner := none, lastOwner := none, seized := false, grantTime := 0,
                    hangTimer := none, talkTimer := none, queue := [], ownerClaim := (t.patch p).floor.ownerClaim },
         chain := [] }) ∧
     t.link.inProgress = none ∧ t.replies = [] ∧ t.link.notices = []) ∧
  (∀ (i : Instr) (s : State), FullReset i s → ∃ t, exec i s = .next t ∧
     (∀ e, t.entry e =
       { state := .free, tag := none, kind := none, dest := none, source := none, pendingSource := none, gain := 0 }) ∧
     (∀ p, (t.patch p).chain = []) ∧ t.routes.frame = none ∧ t.routes.purges = [] ∧
     (∀ n, t.slot n = { state := .empty, mode := none, length := 0, blocks := [], level := 0 }) ∧
     t.freeBlocks.length = 256 ∧ t.clips.ring = [] ∧ t.clips.accepted = 0 ∧ t.context.phase = .none ∧
     t.context.patch = none ∧ t.context.reason = none ∧ t.context.position = 0 ∧ t.context.played = 0 ∧
     t.context.tone = 0)

/-- R180, R176: the Link Controller after power-on, and after the reset line, which leaves the time stamp running; a
RESET ALL that is due takes place before that line is taken, and has set the time stamp to 0 (the model's reading, log
6). R174, R178: RESET ALL is answered at once and waits for the replies ahead of and with its own; when they have been
sent it takes place, with the straps kept as last read and the time stamp 0. For a broadcast the wait is for the replies
that were waiting or being sent (log 16). REPLY_SENT removes the reply being sent, and the next follows at once, unless
a RESET ALL waited on the one sent and is now due. -/
def Obligations.ResetAllWaitsForItsReply : Prop :=
  (∀ (address : BitVec 6) (rate : BitVec 2) (s : State),
    (∃ t, exec (.powerOn address rate) s = .next t ∧ t.attentionLow = false ∧ t.link =
      { address := address, rate := rate, receiver := .hunt, inProgress := none, waiting := [], sending := none,
        stamp := 0, notices := [], gap := false }) ∧
    ∃ t, exec (.resetLine address rate) s = .next t ∧ t.attentionLow = false ∧ t.link =
      { address := address, rate := rate, receiver := .hunt, inProgress := none, waiting := [], sending := none,
        stamp := if s.resetIsDue then 0 else s.link.stamp, notices := [], gap := false }) ∧
  ((∀ (h : Header) (s : State), s.Ready h → ∃ t, exec (.resetAll h) s = .next t ∧
     t.replies = s.replies ++ replyTo h 0x03 [0x00] ∧
     t.link.inProgress = some ⟨.reset, h, .resetAll t.replies.length⟩ ∧
     t = { s with link := { s.link with
             inProgress := t.link.inProgress, sending := t.link.sending, waiting := t.link.waiting } }) ∧
   ∀ s : State, s.resetIsDue = true → ∃ t, exec .resetAllTakesPlace s = .next t ∧
     t.link = { address := s.link.address, rate := s.link.rate, receiver := .hunt, inProgress := none, waiting := [],
                sending := none, stamp := 0, notices := [], gap := false }) ∧
  (∀ (s : State) (r : Reply), s.Settled → s.link.sending = some r → ∃ t, exec .replySent s = .next t ∧
     t.replies = s.link.waiting ∧
     (t = { s with link := { s.link with
             inProgress := t.link.inProgress, sending := t.link.sending, waiting := t.link.waiting } }) ∧
     ((∀ n, s.work ≠ some (.resetAll n)) → t.link.inProgress = s.link.inProgress ∧
       t.link.sending = s.link.waiting.head?) ∧
     (∀ n, s.work = some (.resetAll (n + 2)) → t.work = some (.resetAll (n + 1)) ∧
       t.link.sending = s.link.waiting.head?) ∧
     (s.work = some (.resetAll 1) → t.resetIsDue = true ∧ t.link.sending = none))

/-- R76, R179: RESET PATCHES with no frame in progress tears down every ACTIVE patch at once, and is answered. In a
frame, with no playback, a patch with entries is DISBANDING with them PURGING, and nothing is answered; the frame done
completes the purges, every patch that was ACTIVE is FREE with its FREE values, and the request is answered (R138,
R139). -/
def Obligations.ResetPatchesFreesEveryActivePatch : Prop :=
  (∀ (h : Header) (s : State), s.Ready h → s.routes.frame = none → PatchLaw s →
    ∃ t, exec (.resetPatches h) s = .next t ∧ (∀ p, (t.patch p).state ≠ .active) ∧
      (∀ p, (s.patch p).state ≠ .active → (t.patch p).fixed = (s.patch p).fixed ∧
        (t.patch p).floor = (s.patch p).floor) ∧
      (∀ l, (t.leg l).membership = none) ∧
      (∀ l, (s.leg l).membership.isSome = true → (t.leg l).talk = false) ∧
      (∀ l, (t.leg l).config = (s.leg l).config ∧ (t.leg l).binding = (s.leg l).binding ∧
        (t.leg l).park = (s.leg l).park ∧ (t.leg l).aux = (s.leg l).aux ∧
        (t.leg l).emergency = (s.leg l).emergency) ∧
      t.directory = s.directory ∧ t.now = s.now ∧ t.link.inProgress = none ∧
      t.replies = s.replies ++ replyTo h 0x03 [0x00]) ∧
  (∀ (h : Header) (p : PatchId) (s : State), s.Ready h → s.routes.frame.isSome = true → s.context.phase = .none →
    PatchLaw s → (s.patch p).state = .active → s.purged (.tag p) ≠ [] →
    ∃ t, exec (.resetPatches h) s = .next t ∧ t.replies = s.replies ∧
      t.link.inProgress.map InProgress.kind = some .reset ∧ (t.patch p).state = .disbanding ∧
      (∀ q, (t.patch q).state ≠ .active ∧ (t.patch q).members = []) ∧ (∀ l, (t.leg l).membership = none) ∧
      (⟨.resetPatches p, s.purged (.tag p)⟩ : Purge) ∈ t.routes.purges ∧
      (∀ e ∈ s.purged (.tag p), (t.entry e).state = .purging) ∧
      (s.routes.purges = [] → ∀ before, ∃ u, exec (.frameDone before) t = .next u ∧ u.routes.frame = none ∧
        u.routes.purges = [] ∧ (∀ q, (s.patch q).state = .active → u.patch q = {}) ∧
        (∀ e ∈ s.purged (.tag p), u.entry e = {}) ∧ u.link.inProgress = none ∧
        u.replies = s.replies ++ replyTo h 0x03 [0x00]))

/-! ## Requests and replies -/

/-- R172 steps 1 and 6, R173, R167: every request but STATUS and FETCH is answered BUSY while a request is in progress,
and changes nothing else; an addressed request is dropped by a part with no station address or with 4 replies waiting; a
broadcast is ignored while a request is in progress. Behind a broadcast RESET ALL the BUSY reply is discarded (R178) as
it is formed, so that it joins no path and counts to no 4 waiting: the moment is the model's reading (log 16). -/
def Obligations.RequestsTurnedAway : Prop :=
  (∀ (i : Instr) (h : Header) (k : Kind) (body : List Byte) (s : State), i.asRequest = some (h, k, body) →
     k ≠ .status → k ≠ .fetch → h.broadcast = false → s.Settled → s.Admits → s.link.inProgress.isSome = true →
     (s.discardsReplies = false → Completes i s h k.code [0x02] s) ∧ (s.discardsReplies = true → exec i s = .next s)) ∧
  (∀ (i : Instr) (h : Header) (k : Kind) (body : List Byte) (s : State), i.asRequest = some (h, k, body) →
     s.Settled →
     ((h.broadcast = false ∧ (s.link.address = 0 ∨ s.link.address = 63 ∨ 4 ≤ s.link.waiting.length)) ∨
       (h.broadcast = true ∧ s.link.inProgress.isSome = true)) → exec i s = .next s)

/-- R190: a request that carries a value out of range is refused with RANGE and changes nothing. The ranges are those of
`ArgumentsInRange`; that a SETLEG mask above 7, and a LOAD WRITE offset above 131,071 before its slot is looked at, are
out of range are the model's readings (log 18). -/
def Obligations.OutOfRangeIsRefused : Prop :=
  ∀ (i : Instr) (h : Header) (k : Kind) (body : List Byte) (s : State), i.asRequest = some (h, k, body) →
    ¬ ArgumentsInRange i → s.Ready h → Completes i s h k.code [0x05] s

/-- R26, R46, R74, R108, R141, R163: the queries answer OK with their results and change nothing. R192: what the results
are, field by field. The layouts that R192 leaves to be read are the model's (log 19): among them DIRQ's entries stand
behind a one-byte count, the 40 entries of the pool behind none, and CLIPQ's stream slot is 255 for none. -/
def Obligations.QueriesOnlyReply : Prop :=
  (∀ (h : Header) (s : State), s.Ready h →
    (∀ (leg : Byte) (l : LegId), leg.toNat = l.val →
      Completes (.legq h leg) s h 0x13 (0x00 :: legqBytes l (s.leg l)) s) ∧
    (∀ first count : Byte, 1 ≤ count.toNat → count.toNat ≤ 8 → first.toNat + count.toNat ≤ 32 →
      Completes (.dirq h 0 first count) s h 0x25
        (0x00 :: count :: (List.range count.toNat).flatMap fun k => s.agencyBytes (Fin.ofNat 32 (first.toNat + k))) s) ∧
    (∀ first count : Byte, 1 ≤ count.toNat → count.toNat ≤ 8 → first.toNat + count.toNat ≤ 256 →
      Completes (.dirq h 1 first count) s h 0x25
        (0x00 :: count :: (List.range count.toNat).flatMap fun k => s.planBytes (Fin.ofNat 256 (first.toNat + k))) s) ∧
    (∀ (patch : Byte) (p : PatchId), patch.toNat = p.val + 1 →
      Completes (.patchq h patch) s h 0x36 (0x00 :: s.patchqBytes p) s ∧
      Completes (.floorq h patch) s h 0x43 (0x00 :: (s.patch p).floor.bytes) s ∧
      Completes (.routeq h patch) s h 0x44 (0x00 :: s.chainBytes p) s) ∧
    Completes (.routeq h 0) s h 0x44 (0x00 :: s.poolBytes) s ∧
    Completes (.clipq h) s h 0x54 (0x00 :: s.clipqBytes) s) ∧
  ∀ (s : State) (l : LegId) (a : AgencyId) (i : PlanId) (p : PatchId),
    let yes (b : Bool) : Byte := if b then 1 else 0
    let one (n : Nat) : Byte := BitVec.ofNat 8 n
    let two (n : Nat) : List Byte := bytes16 (BitVec.ofNat 16 n)
    let four (n : Nat) : List Byte := bytes32 (BitVec.ofNat 32 n)
    let legField (x : Option LegId) : Byte := match x with | some m => one m.val | none => 255
    let partyField (x : Option Party) : Byte := match x with
      | some (.leg m) => one m.val | some .clip => 254 | none => 255
    let patchField (x : Option PatchId) : Byte := match x with | some q => one (q.val + 1) | none => 0
    let entryField (x : Option EntryId) : Byte := match x with | some e => one e.val | none => 255
    let rxField (x : RxState) : Byte := match x with
      | .idle => 0 | .rising => 1 | .active => 2 | .falling => 3 | .barred => 4
    let patchState (x : PatchState) : Byte := match x with | .free => 0 | .active => 1 | .disbanding => 2
    let entryState (x : EntryState) : Byte := match x with | .free => 0 | .reserved => 1 | .active => 2 | .purging => 3
    let entryKind (x : Option EntryKind) : Byte := match x with
      | some .member => 0 | some .monitor => 1 | some .overlay => 2 | none => 255
    let legsOf (f : LegId → Bool) : List Byte := (List.range 3).map fun b => one (((List.range 8).map fun j =>
      if h : 8 * b + j < 20 then (if f ⟨8 * b + j, h⟩ then 2 ^ j else 0) else 0).sum)
    let entryOf (k : EntryKind) (m : LegId) : Byte := entryField ((s.patch p).chain.find? fun e =>
      (s.entry e).kind = some k && (s.entry e).dest = some m && (s.entry e).state != .purging)
    let x := s.leg l
    let g := s.agency a
    let n := s.planEntry i
    let y := s.patch p
    let f := y.floor
    let c := s.context
    let count (st : EntryState) : Byte := one ((List.finRange 40).filter fun e => (s.entry e).state = st).length
    legqBytes l x =
      [one l.val, if l.val < 16 then 0 else 1,
        (match x.config.inputMode with | .line => 0 | .vox => 1 | .both => 2), yes x.config.carrierLow] ++
      two x.config.rise ++ two x.config.drop ++
      [BitVec.ofInt 8 x.config.vox, (match x.config.auxFunction with | .off => 0 | .emergency => 1 | .confirm => 2),
        yes x.config.auxLow] ++ two x.config.window ++
      [one ((if x.config.mask.carrier then 1 else 0) + (if x.config.mask.aux then 2 else 0) +
          if x.config.mask.transmit then 4 else 0),
        rxField x.rx.state, yes x.talk,
        (match x.tx.state with | .off => 0 | .lead => 1 | .on => 2 | .tail => 3 | .lockout => 4 | .fault => 5),
        yes x.demand] ++ two x.tx.keyLead ++ two x.tx.timeLimit ++ [one x.tx.lockout] ++
      four (x.tx.keyed.getD 0) ++ four (x.tx.lockoutTimer.getD 0) ++
      [yes x.aux.active, yes (x.aux.riseTimer.isSome || x.aux.dropTimer.isSome),
        yes (decide (l.val < 16) && x.inputs.auxHigh != x.config.auxLow),
        yes x.park.parked, rxField x.park.rx, yes x.park.aux,
        yes x.flags.rose, yes x.flags.fell, yes x.flags.aux, yes x.flags.transmit] ++
      (match x.binding with
        | some b =>
          [1, one b.agency.val, one b.channel, one b.planIndex, b.generation, one b.authority.val, one b.priority,
            one b.ceiling, one b.defaultPriority, yes b.duplex] ++ two b.keyLead ++ two b.timeLimit ++
            [one b.lockout, one b.gain]
        | none => List.replicate 16 0) ++
      [patchField x.membership, yes x.emergency.isSome,
        (match x.emergency with | none => 0 | some .aux => 1 | some .declare => 2)] ∧
    s.agencyBytes a = [one a.val, yes g.valid] ++ g.code.toList ++ [g.generation, one g.base, one g.count] ++
      legsOf (fun m => (s.leg m).binding.any fun b => b.agency = a) ++
      legsOf (fun m => (s.leg m).binding.any fun b => b.agency = a && b.generation != g.generation) ∧
    s.planBytes i =
      [one i.val, yes n.valid, one n.agency.val, one n.authority.val, one n.ceiling, one n.defaultPriority] ++
      two n.keyLead ++ two n.timeLimit ++ [one n.lockout, yes n.duplex, one n.gain] ∧
    f.bytes = [(match f.state with | .idle => 0 | .held => 1 | .hang => 2), partyField f.owner, yes f.seized] ++
      bytes32 f.grantTime ++ four (f.talkTimer.getD 0) ++ [legField f.lastOwner] ++ four (f.hangTimer.getD 0) ++
      one f.queue.length :: (f.queue.flatMap fun d => [partyField (some d.party), one d.priority] ++
        bytes32 d.time.stamp ++ [yes d.marker.isSome] ++
        bytes32 (match d.marker with | some m => m.stamp | none => 0)) ∧
    s.patchqBytes p = [patchState y.state] ++ y.label.toList ++
      (match y.access with | .all => 1 :: bytes64 0 | .set indices => 0 :: bytes64 indices) ++
      [one y.margin] ++ two y.hang ++ two y.talkLimit ++ [yes y.floorNotices, one y.members.length] ++
      (y.members.flatMap fun m => [one m.val, one ((s.leg m).binding.elim 0 Binding.priority),
        yes (s.leg m).emergency.isSome, entryOf .member m]) ++
      [one y.monitors.length] ++
      (y.monitors.flatMap fun m => [one m.1.val, one m.2, entryOf .monitor m.1]) ++ f.bytes ++ [one y.chain.length] ∧
    s.chainBytes p = patchState y.state :: one y.chain.length :: y.chain.flatMap (fun e =>
      let z := s.entry e
      [one e.val, entryState z.state, entryKind z.kind, legField z.dest, partyField z.source,
        partyField z.pendingSource, one z.gain]) ∧
    s.poolBytes = ((List.finRange 40).flatMap fun e =>
      let z := s.entry e
      [entryState z.state, patchField z.tag, entryKind z.kind, legField z.dest, partyField z.source]) ++
      [count .free, count .reserved, count .active, count .purging, yes s.routes.frame.isSome,
        one s.routes.purges.length] ∧
    s.clipqBytes = ((List.finRange 8).flatMap fun k =>
      let z := s.slot k
      [(match z.state with | .empty => 0 | .ready => 1 | .stream => 2 | .playing => 3 | .waiting => 4 : Byte),
        (match z.mode with | some .stored => 0 | some .stream => 1 | none => 255)] ++
      four z.length ++ [one z.level] ++ two z.blocks.length) ++
      two s.freeBlocks.length ++
      [(match (List.finRange 8).find? fun k => (s.slot k).mode = some .stream with
        | some k => one k.val | none => 255)] ++ two s.clips.ring.length ++ four s.clips.accepted ++
      [(match c.phase with | .none => 0 | .waiting => 1 | .playing => 2 | .tone => 3 | .ending => 4 : Byte),
        one c.slot.val, patchField c.patch, (match c.mode with | .take => 0 | .overlay => 1), one c.priority, one c.repeats] ++
      four c.position ++ bytes32 c.played ++ two c.tone ++
      [(match c.reason with
        | none => 0 | some .complete => 1 | some .underrun => 2 | some .halted => 3 | some .preempted => 4
        | some .disbanded => 5 | some .reset => 6 : Byte)]

/-- R172 step 5, R177, R199: STATUS is taken, or served beside a request in progress, changes nothing, and its reply is
laid out as R199 says. R186: FETCH, taken or served so, with max out of range is refused with RANGE, and otherwise
returns the oldest notices and the gap flag, removes those notices, and clears the flag. R200: a notice record is 13
bytes, laid out so. -/
def Obligations.StatusAndFetchAreServed : Prop :=
  (∀ (h : Header) (s : State), s.Serves h → Completes (.status h) s h 0x01 (0x00 :: s.statusBytes) s) ∧
  (∀ s : State, (0x00 :: s.statusBytes : List Byte) =
     [0x00, s.link.address.setWidth 8, s.link.rate.setWidth 8] ++ bytes32 s.link.stamp ++
       [(match s.link.inProgress with | some r => r.kind.code | none => 0x00),
         (match s.link.inProgress with | some r => if r.header.broadcast then 1 else 0 | none => 0),
         BitVec.ofNat 8 s.link.notices.length, if s.link.gap then 1 else 0,
         BitVec.ofNat 8 ((List.finRange 40).filter fun e => (s.entry e).state = .free).length] ++
       bytes16 (BitVec.ofNat 16 s.freeBlocks.length) ++
       (List.finRange 12).map (fun p => (match (s.patch p).state with
         | .free => 0 | .active => 1 | .disbanding => 2 : Byte)) ++
       (List.finRange 16).map (fun r => (match (s.leg ⟨r.val, by omega⟩).tx.state with
         | .off => 0 | .lead => 1 | .on => 2 | .tail => 3 | .lockout => 4 | .fault => 5 : Byte)) ++
       (List.range 3).map (fun b => BitVec.ofNat 8 (((List.range 8).map fun j =>
         if h : 8 * b + j < 20 then (if (s.leg ⟨8 * b + j, h⟩).emergency.isSome then 2 ^ j else 0) else 0).sum)) ∧
     (0x00 :: s.statusBytes : List Byte).length = 45) ∧
  (∀ (h : Header) (max : Byte) (s : State), s.Serves h →
     (¬ (1 ≤ max.toNat ∧ max.toNat ≤ 8) → Completes (.fetch h max) s h 0x02 [0x05] s) ∧
     (1 ≤ max.toNat → max.toNat ≤ 8 →
       Completes (.fetch h max) s h 0x02
         ([0x00, BitVec.ofNat 8 (min max.toNat s.link.notices.length)] ++
           (s.link.notices.take max.toNat).flatMap Notice.bytes ++ [if s.link.gap then 1 else 0])
         { s with link := { s.link with notices := s.link.notices.drop max.toNat, gap := false } })) ∧
  ∀ n : Notice, n.bytes.length = 13 ∧ n.bytes =
    [(match n.detail with
      | .carrier _ => 1 | .aux _ _ => 2 | .transmit _ => 3 | .floor _ _ => 4 | .emergency _ _ => 5 | .revoked _ => 6
      | .clip _ _ _ => 7 : Byte)] ++ bytes32 n.stamp ++
    [(match n.leg with | some l => BitVec.ofNat 8 l.val | none => 255),
      (match n.patch with | some p => BitVec.ofNat 8 (p.val + 1) | none => 0)] ++
    (match n.detail with
      | .carrier .rose => [0, 0]
      | .carrier .fell => [1, 0]
      | .aux .rose live => [0, if live then 1 else 0]
      | .aux .fell live => [1, if live then 1 else 0]
      | .transmit .timeout => [1, 0]
      | .transmit .lockoutEnd => [2, 0]
      | .transmit .fault => [3, 0]
      | .floor event clip =>
        [(match event with | .queued => 1 | .preempted => 2 | .granted => 3 | .talkLimit => 4 | .idle => 5),
          if clip then 1 else 0]
      | .emergency set source => [if set then 0 else 1, match source with | .aux => 1 | .declare => 2]
      | .revoked a => [BitVec.ofNat 8 a.val, 0]
      | .clip slot reason _ => [BitVec.ofNat 8 slot.val,
          match reason with
          | .complete => 1 | .underrun => 2 | .halted => 3 | .preempted => 4 | .disbanded => 5 | .reset => 6]) ++
    bytes32 (match n.detail with | .clip _ _ played => played | _ => 0)

/-- R27: EVENTS returns the lowest-numbered leg with a flag set, with its flags, and clears them; with no flag set
anywhere it returns leg 255. -/
def Obligations.EventsTakesTheLowestFlaggedLeg : Prop :=
  ∀ (h : Header) (s : State), s.Ready h →
    (∀ l : LegId, (s.leg l).flags.any = true → (∀ m, m < l → (s.leg m).flags.any = false) →
      Completes (.events h) s h 0x04
        [0x00, BitVec.ofNat 8 l.val, flagByte (s.leg l).flags.rose, flagByte (s.leg l).flags.fell,
          flagByte (s.leg l).flags.aux, flagByte (s.leg l).flags.transmit]
        (s.modLeg l fun x => { x with flags := { rose := false, fell := false, aux := false, transmit := false } })) ∧
    ((∀ l : LegId, (s.leg l).flags.any = false) →
      Completes (.events h) s h 0x04 [0x00, 255, 0, 0, 0, 0] s)

/-! ## The receiver -/

/-- R170: what the receiver does with every byte but a delimiter that closes a frame, and with a line error. R171: at a
closing delimiter a content of fewer than 5 bytes, one whose check word fails, and one for another address are
discarded; the delimiter has opened the next frame. R172 steps 2 and 3: a good addressed frame whose kind code names no
request is answered UNKNOWN, and one whose body length does not agree with its kind LENGTH. R190, R191: one whose choice
or form byte is out of range is answered RANGE, and BUSY behind a request in progress. R173: a broadcast frame of no
known kind, or of a wrong length, is ignored. -/
def Obligations.ReceiverTakesEachByte : Prop :=
  (∀ (s : State) (b : Byte) (content : List Byte), s.Settled →
     (s.link.receiver = .hunt →
       exec (.byteReceived (.byte b)) s = .next (s.setReceiver (if b = 0xE7 then .inFrame [] false else .hunt))) ∧
     (s.link.receiver = .inFrame content false → b ≠ 0xE7 →
       exec (.byteReceived (.byte b)) s = .next (s.setReceiver
         (if b = 0xE6 then .inFrame content true
         else if content.length < 257 then .inFrame (content ++ [b]) false else .hunt))) ∧
     (s.link.receiver = .inFrame content true →
       exec (.byteReceived (.byte b)) s = .next (s.setReceiver
         (if (b = 0xF7 ∨ b = 0xF6) ∧ content.length < 257 then
           .inFrame (content ++ [if b = 0xF7 then 0xE7 else 0xE6]) false
         else .hunt))) ∧
     exec (.byteReceived .lineError) s = .next (s.setReceiver .hunt)) ∧
  (∀ (s : State) (content : List Byte), s.Settled → s.link.receiver = .inFrame content false →
     (content.length < 5 ∨
       content.drop (content.length - 2) ≠ bytes16 (checkWord (content.take (content.length - 2))) ∨
       (∀ address, content.head? = some address → address ≠ 63 ∧ (s.hasStation = true →
         address.toNat ≠ s.link.address.toNat))) →
     exec .frameReceived s = .next (s.setReceiver (.inFrame [] false)) ∧
     exec (.byteReceived (.byte 0xE7)) s = .next (s.setReceiver (.inFrame [] false))) ∧
  (∀ (s : State) (code tag : Byte) (body : List Byte), s.Settled → s.Admits → s.discardsReplies = false →
     s.link.receiver = .inFrame (withCheckWord ([s.link.address.setWidth 8, code, tag] ++ body)) false →
     (Kind.ofCode code = none → Completes .frameReceived s ⟨tag, false⟩ code [0x03]
       (s.setReceiver (.inFrame [] false))) ∧
     (∀ k, Kind.ofCode code = some k → readBody ⟨tag, false⟩ k body = .wrongLength →
       Completes .frameReceived s ⟨tag, false⟩ code [0x04]
         (s.setReceiver (.inFrame [] false)))) ∧
  (∀ (s : State) (k : Kind) (tag : Byte) (body : List Byte), s.Settled → s.Admits → s.discardsReplies = false →
     s.link.receiver = .inFrame (withCheckWord ([s.link.address.setWidth 8, k.code, tag] ++ body)) false →
     ((∃ form, 1 < form.toNat ∧ ((k = .reset ∧ body = [form]) ∨
         ((k = .talk ∨ k = .declare) ∧ ∃ leg, body = [leg, form]) ∨
         (k = .monitor ∧ ∃ leg patch gain, body = [leg, patch, form, gain]) ∨
         (k = .stream ∧ ∃ rest, body = form :: rest))) ∨
       (k = .load ∧ ∃ form rest, body = form :: rest ∧ 2 < form.toNat)) →
     Completes .frameReceived s ⟨tag, false⟩ k.code [if s.link.inProgress.isSome then 0x02 else 0x05]
       (s.setReceiver (.inFrame [] false))) ∧
  (∀ (s : State) (code tag : Byte) (body : List Byte), s.Settled →
     s.link.receiver = .inFrame (withCheckWord ([63, code, tag] ++ body)) false →
     (Kind.ofCode code = none ∨ ∃ k, Kind.ofCode code = some k ∧ readBody ⟨tag, true⟩ k body = .wrongLength) →
     exec .frameReceived s = .next (s.setReceiver (.inFrame [] false)))

/-- R171, R191, R195: a good frame that carries a request is that request, handed on with the receiver in the next
frame. -/
def Obligations.GoodFrameIsItsRequest : Prop :=
  ∀ (s : State) (i : Instr) (h : Header) (k : Kind) (body : List Byte) (address : Byte), s.Settled →
    i.wellFormed = true → i.asRequest = some (h, k, body) →
    ((h.broadcast = true ∧ address = 63) ∨
      (h.broadcast = false ∧ s.hasStation = true ∧ address.toNat = s.link.address.toNat)) →
    s.link.receiver = .inFrame (withCheckWord ([address, k.code, h.tag] ++ body)) false →
    ∃ t, exec i (s.setReceiver (.inFrame [] false)) = .next t ∧ exec .frameReceived s = .next t ∧
      exec (.byteReceived (.byte 0xE7)) s = .next t

/-- R168, R170, R193, R195: reading the body written for a request gives the request back, for every request row; and
the bytes of a frame, taken from HUNT, leave its content in the receiver before the closing delimiter, whatever bytes it
holds. -/
def Obligations.FramesReadAsTheyAreWritten : Prop :=
  (∀ (i : Instr) (h : Header) (k : Kind) (body : List Byte), i.wellFormed = true → i.asRequest = some (h, k, body) →
     Kind.ofCode k.code = some k ∧ readBody h k body = .request i) ∧
  (∀ content : List Byte, (withCheckWord content).length ≤ 257 →
     (frameBytes content).dropLast.foldl Receiver.take .hunt = .inFrame (withCheckWord content) false ∧
     (frameBytes content).getLast? = some delimiter)

/-! ## Legs -/

/-- R24, R25, R11, R17, R19, R1: SETLEG, where it does not take a leg out of TX_FAULT: the whole configuration written
(a console's radio-only fields keep their reset values), the condition and the aux input of a leg that is not parked
taken as they stand under it, and nothing else; a change of input mode on a member leg is refused with MEMBER. That a
running confirm window keeps its length (log 28), and that a new VOX threshold is compared with the peak kept from the
last frame (log 8), are the model's readings. -/
def Obligations.SetLegWritesTheConfiguration : Prop :=
  (∀ (h : Header) (a : SetLegArgs) (l : LegId) (s : State), s.Ready h → a.leg.toNat = l.val →
     ArgumentsInRange (.setLeg h a) →
     ((s.leg l).membership = none ∨ inputModeOf a.inputMode = (s.leg l).config.inputMode) →
     ((s.leg l).tx.state ≠ .fault ∨ hasOption a.options 0 = false) →
     Completes (.setLeg h a) s h 0x10 [0x00] (s.modLeg l fun x =>
       let c : LegConfig :=
         if l.val < 16 then
           { inputMode := if a.inputMode = 0 then .line else if a.inputMode = 1 then .vox else .both
             carrierLow := a.carrierPolarity = 1, rise := a.rise.toNat, drop := a.drop.toNat, vox := a.vox.toInt
             auxFunction := if a.auxFunction = 0 then .off else if a.auxFunction = 1 then .emergency else .confirm
             auxLow := a.auxPolarity = 1, window := a.window.toNat
             mask := { carrier := a.mask.getLsbD 0, aux := a.mask.getLsbD 1, transmit := a.mask.getLsbD 2 } }
         else
           { inputMode := .line, carrierLow := a.carrierPolarity = 1, rise := a.rise.toNat, drop := a.drop.toNat
             vox := -30, auxFunction := .off, auxLow := false, window := 250
             mask := { carrier := a.mask.getLsbD 0, aux := a.mask.getLsbD 1, transmit := a.mask.getLsbD 2 } }
       let y : Leg := { x with config := c }
       let y : Leg := if c.auxFunction = .confirm then y else { y with tx := { y.tx with confirm := .off } }
       let z := if y.park.parked || y.masked l then y else y.follow (y.condition l)
       if l.val < 16 ∧ z.park.parked = false then z.followAux else z)) ∧
  (∀ (h : Header) (a : SetLegArgs) (l : LegId) (s : State), s.Ready h → a.leg.toNat = l.val →
     ArgumentsInRange (.setLeg h a) → (s.leg l).membership.isSome = true →
     inputModeOf a.inputMode ≠ (s.leg l).config.inputMode → Completes (.setLeg h a) s h 0x10 [0x08] s)

/-- R18, R24: SETLEG with CLEAR_FAULT takes a radio leg out of TX_FAULT, to TX_OFF with the key demand off and into
TX_LEAD with it on, or through TX_LEAD into TX_ON where the key lead is 0. -/
def Obligations.ClearFaultLeavesTheFault : Prop :=
  ∀ (h : Header) (a : SetLegArgs) (l : LegId) (s : State), s.Ready h → a.leg.toNat = l.val → l.val < 16 →
    ArgumentsInRange (.setLeg h a) →
    ((s.leg l).membership = none ∨ inputModeOf a.inputMode = (s.leg l).config.inputMode) →
    (s.leg l).tx.state = .fault → hasOption a.options 0 = true →
    ∃ t, exec (.setLeg h a) s = .next t ∧ t.replies = s.replies ++ replyTo h 0x10 [0x00] ∧
      (t.leg l).config = configOf l a ∧ (t.leg l).binding = (s.leg l).binding ∧
      (t.leg l).membership = (s.leg l).membership ∧ (t.leg l).demand = (s.leg l).demand ∧
      (t.leg l).tx.state =
        (if (s.leg l).demand = false then .off
         else if (s.leg l).binding.elim 0 Binding.keyLead = 0 then .on else .lead) ∧
      (∀ m, m ≠ l → t.leg m = s.leg m) ∧ t.directory = s.directory ∧ t.routes = s.routes ∧ t.clips = s.clips ∧
      ∀ p, (t.patch p).fixed = (s.patch p).fixed ∧ (t.patch p).chain = (s.patch p).chain

/-- R22: PARK of a leg that is a member is refused with MEMBER, of a leg already parked changes nothing, and otherwise
latches the receive and aux states, forces the transmit machine off except from TX_FAULT, and reports a lockout it ends.
R23: UNPARK of a leg that is not parked changes nothing; of a leg as PARK left it, each live input that differs from its
latched state begins its qualification, and nothing else changes. -/
def Obligations.ParkLatchesAndUnparkCompares : Prop :=
  (∀ (h : Header) (leg : Byte) (l : LegId) (s : State), s.Ready h → leg.toNat = l.val →
     ((s.leg l).membership.isSome = true → Completes (.park h leg) s h 0x11 [0x08] s) ∧
     ((s.leg l).membership = none → (s.leg l).park.parked = true → Completes (.park h leg) s h 0x11 [0x00] s) ∧
     ((s.leg l).membership = none → (s.leg l).park.parked = false →
       ∃ u : State, Completes (.park h leg) s h 0x11 [0x00]
           (if (s.leg l).tx.state = .lockout ∧ (s.leg l).config.mask.transmit = true then
             u.offer (.transmit .lockoutEnd) (some l) none else u) ∧
         u = s.modLeg l fun x =>
           let held : RxState := match x.rx.state with
             | .idle | .rising => .idle
             | .active | .falling => .active
             | .barred => .barred
           { x with
             rx := { state := held, riseTimer := none, dropTimer := none, barTimer := none, barDropDone := false }
             aux := { active := x.aux.active, riseTimer := none, dropTimer := none }
             tx := { x.tx with
               state := if x.tx.state = .fault then .fault else .off
               leadTimer := none, tailTimer := none, lockoutTimer := none, keyed := none, confirm := .off
               line := List.replicate x.tx.line.length 0 }
             park := { parked := true, rx := held, aux := x.aux.active }
             flags := { x.flags with transmit := x.flags.transmit || x.tx.state = .lockout } })) ∧
  (∀ (h : Header) (leg : Byte) (l : LegId) (s : State), s.Ready h → leg.toNat = l.val →
     ((s.leg l).park.parked = false → Completes (.unpark h leg) s h 0x12 [0x00] s) ∧
     ∀ (st : RxState) (a : Bool), (s.leg l).park.parked = true → st ≠ .rising → st ≠ .falling →
       (s.leg l).rx = { state := st } → (s.leg l).aux = { active := a } →
       ((s.leg l).tx.state = .off ∨ (s.leg l).tx.state = .fault) →
       Completes (.unpark h leg) s h 0x12 [0x00] (s.modLeg l fun x =>
         { x with
           park := { x.park with parked := false }
           rx := match st, x.condition l with
             | .idle, true => { state := .rising, riseTimer := some x.config.rise }
             | .active, false => { state := .falling, dropTimer := some x.config.drop }
             | .barred, false => { state := .barred, barTimer := some x.config.drop }
             | _, _ => { state := st }
           aux :=
             if l.val < 16 ∧ x.auxLive ≠ a then
               if x.auxLive then { active := a, riseTimer := some x.config.rise }
               else { active := a, dropTimer := some x.config.drop }
             else { active := a } }))

/-- R5, R6, R7, R9, R10, R22: the carrier input or switch of a leg that is neither parked nor masked, by the receive
state it finds, but for a rise or drop of 0 that qualifies at once: only the input, the receive state and its timer
change. The barred arm is the model's reading: the note that a drop has qualified is void when the condition returns and
keeps the timer stopped otherwise (log 11), and a drop of 0 there still waits for its expiry (log 4). The input of a
parked or masked leg is kept and not evaluated. -/
def Obligations.CarrierChangeMovesTheReceiveMachine : Prop :=
  (∀ (l : LegId) (high : Bool) (s : State), s.Settled → (s.leg l).park.parked = false → (s.leg l).masked l = false →
     let present : Bool :=
       ({ s.leg l with inputs := { (s.leg l).inputs with carrierHigh := high } } : Leg).condition l
     ((s.leg l).rx.state = .idle → present = true → (s.leg l).config.rise ≠ 0) →
     ((s.leg l).rx.state = .active → present = false → (s.leg l).config.drop ≠ 0) →
     exec (.carrierConditionChange l high) s = .next (s.modLeg l fun x =>
       let y : Leg := { x with inputs := { x.inputs with carrierHigh := high } }
       { y with rx := match x.rx.state, y.condition l with
           | .idle, true => { x.rx with state := .rising, riseTimer := some x.config.rise }
           | .rising, false => { x.rx with state := .idle, riseTimer := none }
           | .active, false => { x.rx with state := .falling, dropTimer := some x.config.drop }
           | .falling, true => { x.rx with state := .active, dropTimer := none }
           | .barred, true => { x.rx with barTimer := none, barDropDone := false }
           | .barred, false =>
             if x.rx.barTimer = none ∧ x.rx.barDropDone = false then { x.rx with barTimer := some x.config.drop }
             else x.rx
           | _, _ => x.rx })) ∧
  (∀ (l : LegId) (high : Bool) (s : State), s.Settled → ((s.leg l).park.parked = true ∨ (s.leg l).masked l = true) →
     exec (.carrierConditionChange l high) s =
       .next (s.modLeg l fun x => { x with inputs := { x.inputs with carrierHigh := high } }))

/-- R6, R8: the rise qualifies: RX_ACTIVE, the flag, the CARRIER notice under the mask, and then, for a member whose
claim did not stand already, the claim offered to its floor. With a rise qualify of 0 the same happens as the condition
appears. -/
def Obligations.RiseQualifiesIntoAClaim : Prop :=
  ∀ (l : LegId) (s : State), s.Settled →
    let qualified (s : State) : State :=
      let u := s.modLeg l fun x =>
        { x with rx := { state := .active }, flags := { x.flags with rose := true } }
      let u := if (s.leg l).config.mask.carrier then
          u.offer (.carrier .rose) (some l) (s.leg l).membership else u
      match (s.leg l).membership with
      | some p => if 16 ≤ l.val ∧ (s.leg l).talk = true then u else u.claimArrives p (.leg l)
      | none => u
    ((s.leg l).rx.state = .rising → (s.leg l).rx.riseTimer = some 0 →
      exec (.riseQualifyExpiry l) s = .next (qualified s)) ∧
    ∀ high, (s.leg l).park.parked = false → (s.leg l).masked l = false → (s.leg l).rx.state = .idle →
      (s.leg l).config.rise = 0 →
      ({ s.leg l with inputs := { (s.leg l).inputs with carrierHigh := high } } : Leg).condition l = true →
      exec (.carrierConditionChange l high) s =
        .next (qualified (s.modLeg l fun x => { x with inputs := { x.inputs with carrierHigh := high } }))

/-- R7, R8: the drop qualifies: RX_IDLE, the flag, the CARRIER notice under the mask, and then, for a member whose claim
does not go on standing by its TALK latch, the withdrawal offered to its floor. With a drop qualify of 0 the same
happens as the condition disappears. R9: the barred drop expires: RX_IDLE, the flag and the notice, and no withdrawal; a
console whose TALK latch is pressed stays barred, with a note that its drop has qualified and neither flag nor notice
(the model's reading, log 11). -/
def Obligations.DropQualifiesIntoAWithdrawal : Prop :=
  (∀ (l : LegId) (s : State), s.Settled → (s.leg l).rx.state = .falling → (s.leg l).rx.dropTimer = some 0 →
     let u := s.modLeg l fun x => { x with rx := { state := .idle }, flags := { x.flags with fell := true } }
     let u := if (s.leg l).config.mask.carrier then
         u.offer (.carrier .fell) (some l) (s.leg l).membership else u
     exec (.dropQualifyExpiry l) s = .next (match (s.leg l).membership with
       | some p => if 16 ≤ l.val ∧ (s.leg l).talk = true then u else u.withdraws p (.leg l)
       | none => u)) ∧
  (∀ (l : LegId) (high : Bool) (s : State), s.Settled → (s.leg l).park.parked = false → (s.leg l).masked l = false →
     (s.leg l).rx.state = .active → (s.leg l).config.drop = 0 →
     ({ s.leg l with inputs := { (s.leg l).inputs with carrierHigh := high } } : Leg).condition l = false →
     let u := s.modLeg l fun x =>
       { x with inputs := { x.inputs with carrierHigh := high }, rx := { state := .idle },
                flags := { x.flags with fell := true } }
     let u := if (s.leg l).config.mask.carrier then
         u.offer (.carrier .fell) (some l) (s.leg l).membership else u
     exec (.carrierConditionChange l high) s = .next (match (s.leg l).membership with
       | some p => if 16 ≤ l.val ∧ (s.leg l).talk = true then u else u.withdraws p (.leg l)
       | none => u)) ∧
  (∀ (l : LegId) (s : State), s.Settled → (s.leg l).rx.state = .barred → (s.leg l).rx.barTimer = some 0 →
     ((l.val < 16 ∨ (s.leg l).talk = false) →
       let u := s.modLeg l fun x => { x with rx := { state := .idle }, flags := { x.flags with fell := true } }
       exec (.barredDropExpiry l) s = .next (if (s.leg l).config.mask.carrier then
         u.offer (.carrier .fell) (some l) (s.leg l).membership else u)) ∧
     (16 ≤ l.val → (s.leg l).talk = true →
       exec (.barredDropExpiry l) s =
         .next (s.modLeg l fun x => { x with rx := { state := .barred, barDropDone := true } })))

/-- R19, R20, R115, R17: the aux input of a radio leg that is not parked: a difference from the qualified state starts
its phase, where none runs, and an agreement cancels it. When a phase has run out, or is begun with a time of 0 (like
the carrier's; log 4), the input qualifies. Under OFF nothing else; under EMERGENCY and CONFIRM the aux-edge flag and
the AUX notice with the live level under the mask. A rise under EMERGENCY with the flag clear then sets the emergency
flag with source AUX, with the EMERGENCY notice and what that causes on the floor. A fall keeps the emergency flag, and
fails a leg in TX_ON that has passed its confirm window, behind its AUX notice (the model's order, log 34). R22: a
parked leg's input is kept and not evaluated. -/
def Obligations.AuxInputIsQualified : Prop :=
  let edge (s : State) (l : LegId) (e : Edge) : State :=
    let u := s.modLeg l fun x =>
      { x with
        aux := { active := e = .rose }
        flags := if x.config.auxFunction = .off then x.flags else { x.flags with aux := true } }
    if (s.leg l).config.auxFunction ≠ .off ∧ (s.leg l).config.mask.aux = true then
      u.offer (.aux e ((s.leg l).inputs.auxHigh != (s.leg l).config.auxLow)) (some l) (s.leg l).membership else u
  let rose (s : State) (l : LegId) : State :=
    if (s.leg l).config.auxFunction = .emergency ∧ (s.leg l).emergency = none then
      (((edge s l .rose).modLeg l fun x => { x with emergency := some .aux }).offer (.emergency true .aux) (some l)
        (s.leg l).membership).emergencyChange l
    else edge s l .rose
  let fell (s : State) (l : LegId) : State :=
    if (s.leg l).tx.state = .on ∧ (s.leg l).tx.confirm = .passed then (edge s l .fell).confirmFailure l
    else edge s l .fell
  (∀ (r : RadioId) (high : Bool) (s : State), s.Settled → (s.leg (radioLeg r)).park.parked = false →
     let l := radioLeg r
     let x := s.leg l
     let live : Bool := high != x.config.auxLow
     let u := s.modLeg l fun x => { x with inputs := { x.inputs with auxHigh := high } }
     let risesAtOnce : Prop := live = true ∧ x.aux.active = false ∧ x.aux.riseTimer = none ∧ x.config.rise = 0
     let fallsAtOnce : Prop := live = false ∧ x.aux.active = true ∧ x.aux.dropTimer = none ∧ x.config.drop = 0
     (risesAtOnce → exec (.auxInputChange r high) s = .next (rose u l)) ∧
     (fallsAtOnce → exec (.auxInputChange r high) s = .next (fell u l)) ∧
     (¬ risesAtOnce → ¬ fallsAtOnce → exec (.auxInputChange r high) s = .next (u.modLeg l fun x =>
       { x with
         aux :=
           if live = x.aux.active then { active := x.aux.active }
           else if x.aux.active then
             { active := true, riseTimer := none, dropTimer := some (x.aux.dropTimer.getD x.config.drop) }
           else { active := false, riseTimer := some (x.aux.riseTimer.getD x.config.rise), dropTimer := none } }))) ∧
  (∀ (r : RadioId) (high : Bool) (s : State), s.Settled → (s.leg (radioLeg r)).park.parked = true →
     exec (.auxInputChange r high) s =
       .next (s.modLeg (radioLeg r) fun x => { x with inputs := { x.inputs with auxHigh := high } })) ∧
  (∀ (r : RadioId) (s : State), s.Settled → (s.leg (radioLeg r)).aux.riseTimer = some 0 →
     exec (.auxRiseQualifyExpiry r) s = .next (rose s (radioLeg r))) ∧
  (∀ (r : RadioId) (s : State), s.Settled → (s.leg (radioLeg r)).aux.dropTimer = some 0 →
     exec (.auxDropQualifyExpiry r) s = .next (fell s (radioLeg r)))

/-- R10: the start of masking, by the receive state it finds; RX_ACTIVE and RX_FALLING end with the flag, the notice
under the mask and a withdrawal, which takes a queued claim away (log 10). R12, R13, R16, R18: what a radio leg's key
demand does. On, in TX_OFF: TX_LEAD with the working values of the binding, or through it TX_ON where the key lead is 0,
and masking unless the leg is duplex; in TX_TAIL: TX_ON, with the key never released. Off, in TX_LEAD and TX_ON: TX_TAIL
for the working key lead. In every other state, and unchanged, the demand alone is written. -/
def Obligations.KeyDemandMovesTheTransmitMachine : Prop :=
  (∀ (l : LegId) (s : State),
    s.startMasking l = match (s.leg l).rx.state with
      | .idle => s
      | .rising => s.modLeg l fun x => { x with rx := { state := .idle } }
      | .active | .falling =>
        let u := s.modLeg l fun x => { x with rx := { state := .idle }, flags := { x.flags with fell := true } }
        let u := if (s.leg l).config.mask.carrier then
            u.offer (.carrier .fell) (some l) (s.leg l).membership else u
        match (s.leg l).membership with
        | some p => u.modPatch p fun x => { x with floor := { x.floor with
            queue := x.floor.queue.filter fun c => c.party ≠ .leg l } }
        | none => u
      | .barred => s.modLeg l fun x => { x with rx := { x.rx with barTimer := none } }) ∧
  ∀ (l : LegId) (s : State), l.val < 16 →
    let x := s.leg l
    let lead := x.binding.elim 0 Binding.keyLead
    let limit := x.binding.elim 0 Binding.timeLimit
    let window : Confirm := if x.config.auxFunction = .confirm then .window x.config.window else .off
    let demanded (on : Bool) (tx : Tx) : State := s.modLeg l fun x => { x with demand := on, tx := tx }
    (∀ on, x.demand = on → s.setDemand l on = s) ∧
    (x.demand = false → s.setDemand l true = match x.tx.state with
      | .off =>
        let u := demanded true
          { state := if lead = 0 then .on else .lead, keyLead := lead, timeLimit := limit
            lockout := x.binding.elim 0 Binding.lockout, leadTimer := if lead = 0 then none else some lead
            tailTimer := none, lockoutTimer := none, keyed := if limit = 0 then none else some 0
            confirm := if lead = 0 then window else .off, line := List.replicate (8 * lead) 0 }
        if x.binding.any Binding.duplex then u else u.startMasking l
      | .tail => demanded true { x.tx with state := .on, leadTimer := none, tailTimer := none, confirm := window }
      | .lead | .on | .lockout | .fault => demanded true x.tx) ∧
    (x.demand = true → s.setDemand l false = match x.tx.state with
      | .lead | .on =>
        demanded false
          { x.tx with state := .tail, leadTimer := none, tailTimer := some x.tx.keyLead, confirm := .off }
      | .off | .tail | .lockout | .fault => demanded false x.tx)

/-- R12, R13, R17: the lead timer expires: TX_ON with the confirm window under CONFIRM, and nothing else. R10, R13–R17:
what ends keying: the tail's expiry (TX_OFF), the time limit (TX_LOCKOUT on the working lockout time, the flag and
TIMEOUT) and an unconfirmed window (TX_FAULT, the flag and FAULT). Each releases the key with the delay line cleared and
the measurement stopped, and then the condition of a leg that was masked is evaluated afresh. -/
def Obligations.KeyingOpensAndEnds : Prop :=
  (∀ (r : RadioId) (s : State), s.Settled → (s.leg (radioLeg r)).tx.state = .lead →
     (s.leg (radioLeg r)).tx.leadTimer = some 0 →
     ∃ t, exec (.leadTimerExpiry r) s = .next t ∧ (t.leg (radioLeg r)).tx.state.gateOpen = true ∧
       t.keyOutput (radioLeg r) = true ∧
       t = s.modLeg (radioLeg r) fun x => { x with tx := { x.tx with
         state := .on, leadTimer := none, tailTimer := none,
         confirm := if x.config.auxFunction = .confirm then .window x.config.window else .off } }) ∧
  (∀ (r : RadioId) (s : State), s.Settled →
     let l := radioLeg r
     let released (st : TxState) (timer : Option Nat) (flag : Bool) : State :=
       s.modLeg l fun x =>
         let y : Leg := { x with
           tx := { x.tx with
             state := st, leadTimer := none, tailTimer := none, lockoutTimer := timer, keyed := none, confirm := .off,
             line := List.replicate x.tx.line.length 0 } }
         let z := if x.masked l && !x.park.parked then y.follow (y.condition l) else y
         { z with flags := { z.flags with transmit := z.flags.transmit || flag } }
     let noticed (u : State) (e : TransmitEvent) : State :=
       if (s.leg l).config.mask.transmit then u.offer (.transmit e) (some l) (s.leg l).membership else u
     ((s.leg l).tx.state = .tail → (s.leg l).tx.tailTimer = some 0 →
       exec (.tailTimerExpiry r) s = .next (released .off none false)) ∧
     ((s.leg l).tx.state.keyAsserted = true → (s.leg l).tx.timeLimit ≠ 0 →
       (s.leg l).tx.keyed = some (1000 * (s.leg l).tx.timeLimit) →
       let u := noticed (released .lockout (some (1000 * (s.leg l).tx.lockout)) true) .timeout
       exec (.transmitTimeLimit r) s = .next (if (s.leg l).tx.lockout = 0 then u.endLockout l else u)) ∧
     ((s.leg l).tx.state = .on → (s.leg l).tx.confirm = .window 0 → (s.leg l).aux.active = false →
       exec (.confirmWindowExpiry r) s = .next (noticed (released .fault none true) .fault)) ∧
     ((s.leg l).tx.state = .on → (s.leg l).tx.confirm = .window 0 → (s.leg l).aux.active = true →
       exec (.confirmWindowExpiry r) s =
         .next (s.modLeg l fun x => { x with tx := { x.tx with confirm := .passed } })))

/-- R16, R12: the lockout's end: the flag and LOCKOUT_END under the mask, then TX_OFF with the key demand off, and with
it on TX_LEAD, with the working values copied anew, the delay line reset and the measurement started. -/
def Obligations.LockoutEndsByTheDemand : Prop :=
  ∀ (r : RadioId) (s : State), s.Settled → (s.leg (radioLeg r)).tx.state = .lockout →
    (s.leg (radioLeg r)).tx.lockoutTimer = some 0 →
    let l := radioLeg r
    let lead := (s.leg l).binding.elim 0 Binding.keyLead
    let limit := (s.leg l).binding.elim 0 Binding.timeLimit
    ∃ t, exec (.lockoutExpiry r) s = .next t ∧ (t.leg l).flags.transmit = true ∧
      ((s.leg l).config.mask.transmit = true → s.link.notices.length < 32 →
        (⟨.transmit .lockoutEnd, s.link.stamp, some l, (s.leg l).membership⟩ : Notice) ∈ t.link.notices) ∧
      ((s.leg l).demand = false → (t.leg l).tx.state = .off ∧ (t.leg l).tx.keyLead = (s.leg l).tx.keyLead) ∧
      ((s.leg l).demand = true → (t.leg l).tx.state = (if lead = 0 then .on else .lead) ∧
        (t.leg l).tx.keyLead = lead ∧ (t.leg l).tx.timeLimit = limit ∧
        (t.leg l).tx.lockout = (s.leg l).binding.elim 0 Binding.lockout ∧
        (t.leg l).tx.line = List.replicate (8 * lead) 0 ∧
        (t.leg l).tx.keyed = if limit = 0 then none else some 0) ∧
      (t.leg l).fixed = (s.leg l).fixed ∧ (∀ m, m ≠ l → t.leg m = s.leg m) ∧ t.directory = s.directory ∧
      t.routes = s.routes ∧ t.clips = s.clips ∧ t.link.quiet = s.link.quiet

/-! ## The directory and bindings -/

/-- R36, R32: AGENCY refuses any value out of range with nothing written, and otherwise writes the entry, increments its
generation, answers with it, and touches nothing else. -/
def Obligations.AgencyWritesAndCounts : Prop :=
  ∀ (h : Header) (a : AgencyArgs) (s : State), s.Ready h →
    (¬ ArgumentsInRange (.agency h a) → Completes (.agency h a) s h 0x20 [0x05] s) ∧
    (ArgumentsInRange (.agency h a) → ∀ n : AgencyId, a.agency.toNat = n.val →
      Completes (.agency h a) s h 0x20 [0x00, (s.agency n).generation + 1] (s.modAgency n fun x =>
        { valid := a.valid = 1, code := a.code, generation := x.generation + 1, base := a.base.toNat,
          count := a.count.toNat }))

/-- R37, R38: PLAN refuses any value out of range with nothing written; otherwise it writes its entries from the first
index on, increments once the generation of each agency that an entry overwritten or an entry written names, and touches
no binding. -/
def Obligations.PlanWritesAndCounts : Prop :=
  ∀ (h : Header) (first : Byte) (entries : List PlanArgs) (s : State), s.Ready h →
    (¬ ArgumentsInRange (.plan h first entries) → Completes (.plan h first entries) s h 0x21 [0x05] s) ∧
    (ArgumentsInRange (.plan h first entries) → ∃ u : State,
      Completes (.plan h first entries) s h 0x21 [0x00] u ∧ u = { s with directory := u.directory } ∧
      (∀ i : PlanId, (i.val < first.toNat ∨ first.toNat + entries.length ≤ i.val) →
        u.planEntry i = s.planEntry i) ∧
      (∀ (i : PlanId) (k : Nat) (e : PlanArgs), i.val = first.toNat + k → entries[k]? = some e →
        (u.planEntry i).valid = decide (e.valid = 1) ∧ (u.planEntry i).agency.val = e.agency.toNat ∧
        (u.planEntry i).authority.val = e.authority.toNat ∧ (u.planEntry i).ceiling = e.ceiling.toNat ∧
        (u.planEntry i).defaultPriority = e.defaultPriority.toNat ∧ (u.planEntry i).keyLead = e.keyLead.toNat ∧
        (u.planEntry i).timeLimit = e.timeLimit.toNat ∧ (u.planEntry i).lockout = e.lockout.toNat ∧
        (u.planEntry i).duplex = decide (e.duplex = 1) ∧ (u.planEntry i).gain = e.gain.toNat) ∧
      (∀ a : AgencyId,
        ((∃ i : PlanId, first.toNat ≤ i.val ∧ i.val < first.toNat + entries.length ∧
            ((s.planEntry i).agency = a ∨ (u.planEntry i).agency = a)) →
          u.agency a = { s.agency a with generation := (s.agency a).generation + 1 }) ∧
        ((∀ i : PlanId, first.toNat ≤ i.val → i.val < first.toNat + entries.length →
            (s.planEntry i).agency ≠ a ∧ (u.planEntry i).agency ≠ a) → u.agency a = s.agency a)))

/-- R34: the checks of a translation, in order. -/
def Obligations.TranslationChecksInOrder : Prop :=
  ∀ (s : State) (a : AgencyId) (channel : Nat) (expected : Option Byte) (priority : Option Nat) (i : PlanId),
    channel < 64 →
    let x := s.agency a
    let e := s.planEntry i
    (x.valid = false → s.translate a channel expected priority = .refused .agencyInvalid) ∧
    (x.valid = true → (∃ g, expected = some g ∧ g ≠ x.generation) →
      s.translate a channel expected priority = .refused .stale) ∧
    (x.valid = true → (∀ g, expected = some g → g = x.generation) →
      (x.count ≤ channel → s.translate a channel expected priority = .refused .channelRange) ∧
      (channel < x.count → x.base + channel = i.val →
        (e.valid = false → s.translate a channel expected priority = .refused .planInvalid) ∧
        (e.valid = true → e.agency ≠ a → s.translate a channel expected priority = .refused .planMismatch) ∧
        (e.valid = true → e.agency = a →
          ((∃ n, priority = some n ∧ e.ceiling < n) → s.translate a channel expected priority = .refused .priority) ∧
          ((∀ n, priority = some n → n ≤ e.ceiling) → s.translate a channel expected priority = .found e))))

/-- R39, R40: BIND of a member is refused with MEMBER; on the fast path, taken without FORCE when the binding names the
agency and channel under the current generation, only the priority is checked, against the cached ceiling, and written.
R41, R35: on the full path a failed translation refuses with its result and changes nothing; a successful one writes the
binding over whatever the leg had, keeps the transmit state, and reaches no other leg. R35, R10: where the write does
not change the masking of a keyed radio, nothing but the binding changes, and no notice is offered; where it begins it,
R10's start of masking follows, and where it ends it, the condition of a leg that is not parked is evaluated afresh. -/
def Obligations.BindTakesOneOfTwoPaths : Prop :=
  (∀ (h : Header) (a : BindArgs) (l : LegId) (s : State), s.Ready h → a.leg.toNat = l.val →
     ArgumentsInRange (.bind h a) →
     ((s.leg l).membership.isSome = true → Completes (.bind h a) s h 0x23 [0x08] s) ∧
     ∀ b : Binding, (s.leg l).membership = none → (s.leg l).binding = some b → b.agency.val = a.agency.toNat →
       b.channel = a.channel.toNat → b.generation = (s.agency b.agency).generation → a.options.getLsbD 0 = false →
       ((a.priority ≠ 255 ∧ b.ceiling < a.priority.toNat) → Completes (.bind h a) s h 0x23 [0x15] s) ∧
       ((a.priority = 255 ∨ a.priority.toNat ≤ b.ceiling) →
         Completes (.bind h a) s h 0x23 [0x00] (s.modLeg l fun x => { x with binding := some { b with
           priority := if a.priority = 255 then b.defaultPriority else a.priority.toNat } }))) ∧
  (∀ (h : Header) (a : BindArgs) (l : LegId) (n : AgencyId) (s : State), s.Ready h → a.leg.toNat = l.val →
     a.agency.toNat = n.val → ArgumentsInRange (.bind h a) → (s.leg l).membership = none →
     (a.options.getLsbD 0 = true ∨ ∀ b, (s.leg l).binding = some b →
       b.agency ≠ n ∨ b.channel ≠ a.channel.toNat ∨ b.generation ≠ (s.agency n).generation) →
     let found := s.translate n a.channel.toNat (if a.options.getLsbD 1 then none else some a.expected)
       (if a.priority = 255 then none else some a.priority.toNat)
     (∀ r, found = .refused r → Completes (.bind h a) s h 0x23 [r.code] s) ∧
     ∀ e, found = .found e → ∃ t, exec (.bind h a) s = .next t ∧ t.replies = s.replies ++ replyTo h 0x23 [0x00] ∧
       (t.leg l).binding = some
         { agency := n, channel := a.channel.toNat, planIndex := (s.agency n).base + a.channel.toNat,
           generation := (s.agency n).generation, authority := e.authority,
           priority := if a.priority = 255 then e.defaultPriority else a.priority.toNat, ceiling := e.ceiling,
           defaultPriority := e.defaultPriority, duplex := e.duplex, keyLead := e.keyLead, timeLimit := e.timeLimit,
           lockout := e.lockout, gain := e.gain } ∧
       (t.leg l).tx = (s.leg l).tx ∧
       { (t.leg l) with binding := none, rx := {}, flags := {} } =
         { (s.leg l) with binding := none, rx := {}, flags := {} } ∧
       (∀ m, m ≠ l → t.leg m = s.leg m) ∧ t.directory = s.directory ∧ t.patches = s.patches ∧ t.routes = s.routes ∧
       t.clips = s.clips ∧
       let u := s.modLeg l fun x => { x with binding := (t.leg l).binding }
       let keyed : Prop := l.val < 16 ∧ (s.leg l).tx.state.keyAsserted = true
       let was : Bool := (s.leg l).binding.any Binding.duplex
       (¬ keyed ∨ was = e.duplex → Completes (.bind h a) s h 0x23 [0x00] u) ∧
       (keyed → was = true → e.duplex = false → Completes (.bind h a) s h 0x23 [0x00] (u.startMasking l)) ∧
       (keyed → was = false → e.duplex = true → Completes (.bind h a) s h 0x23 [0x00]
         (u.modLeg l fun x => if x.park.parked then x else x.follow (x.condition l))))

/-- R42, R18: UNBIND of a member is refused with MEMBER; otherwise the leg is unbound, leaves TX_FAULT for TX_OFF, and a
leg that is not keyed as a duplex radio changes in nothing else. One that is so keyed becomes masked, with R10's flag
and notice (the model's reading, log 35). -/
def Obligations.UnbindClearsTheBinding : Prop :=
  ∀ (h : Header) (leg : Byte) (l : LegId) (s : State), s.Ready h → leg.toNat = l.val →
    ((s.leg l).membership.isSome = true → Completes (.unbind h leg) s h 0x24 [0x08] s) ∧
    ((s.leg l).membership = none → ∃ t, exec (.unbind h leg) s = .next t ∧
      t.replies = s.replies ++ replyTo h 0x24 [0x00] ∧ (t.leg l).binding = none ∧
      (t.leg l).tx.state = (if (s.leg l).tx.state = .fault then .off else (s.leg l).tx.state) ∧
      ((s.leg l).tx.state ≠ .fault → (t.leg l).tx = (s.leg l).tx) ∧
      (t.leg l).config = (s.leg l).config ∧ (t.leg l).park = (s.leg l).park ∧ (t.leg l).aux = (s.leg l).aux ∧
      (t.leg l).emergency = (s.leg l).emergency ∧
      (∀ m, m ≠ l → t.leg m = s.leg m) ∧ t.directory = s.directory ∧ t.patches = s.patches ∧ t.routes = s.routes ∧
      t.clips = s.clips) ∧
    ((s.leg l).membership = none → (s.leg l).tx.state ≠ .fault →
      let u := s.modLeg l fun x => { x with binding := none }
      let keyedDuplex : Prop := l.val < 16 ∧ (s.leg l).tx.state.keyAsserted = true ∧
        ((s.leg l).binding.any Binding.duplex) = true
      (¬ keyedDuplex → Completes (.unbind h leg) s h 0x24 [0x00] u) ∧
      (keyedDuplex → Completes (.unbind h leg) s h 0x24 [0x00] (u.startMasking l)))

/-- R43–R45: REVOKE with no frame in progress, and no tick that falls into its walk, withdraws the agency, takes every leg
bound through it out of its patch and unbinds it with a REVOKED notice that names the patch it left, and answers with
their number; every other leg keeps its binding and membership. While a frame is in progress, the listed legs up to the
first that is a member with entries to purge are unbound; that one is out of its patch, still bound, its entries are
PURGING, and nothing is answered. The frame done frees them, the other listed legs follow before the next tick, and the
request is answered. R139: with a tick that comes after n further purges (log 7), the first n + 1 listed members are
unbound between frames, and the next one waits for the tick and leaves its patch in that frame. -/
def Obligations.RevokeUnbindsEveryLegOfTheAgency : Prop :=
  let joined (s : State) (a : AgencyId) : List LegId :=
    (List.finRange 20).filter fun l => ((s.leg l).binding.any fun b => b.agency = a) && (s.leg l).membership.isSome
  (∀ (h : Header) (agency : Byte) (a : AgencyId) (s : State), s.Ready h → agency.toNat = a.val →
    s.routes.frame = none → s.Paced (joined s a).length →
    ∃ t, exec (.revoke h agency) s = .next t ∧ t.link.inProgress = none ∧
      t.replies = s.replies ++ replyTo h 0x22
        [0x00, BitVec.ofNat 8 ((List.finRange 20).filter fun l =>
          (s.leg l).binding.any fun b => b.agency = a).length] ∧
      t.agency a = { s.agency a with valid := false, generation := (s.agency a).generation + 1 } ∧
      (∀ b, b ≠ a → t.agency b = s.agency b) ∧ t.directory.plans = s.directory.plans ∧
      ∀ l, (t.leg l).emergency = (s.leg l).emergency ∧ (t.leg l).park = (s.leg l).park ∧
        (t.leg l).config = (s.leg l).config ∧
        (((s.leg l).binding.any fun b => b.agency = a) = true →
          (t.leg l).binding = none ∧ (t.leg l).membership = none ∧ (t.leg l).tx.state ≠ .fault ∧
          (t.link.gap = true ∨
            (⟨.revoked a, s.link.stamp, some l, (s.leg l).membership⟩ : Notice) ∈ t.link.notices)) ∧
        (((s.leg l).binding.any fun b => b.agency = a) = false →
          (t.leg l).binding = (s.leg l).binding ∧ (t.leg l).membership = (s.leg l).membership)) ∧
  (∀ (h : Header) (agency : Byte) (a : AgencyId) (l : LegId) (p : PatchId) (s : State), s.Ready h →
    agency.toNat = a.val → s.routes.frame.isSome = true →
    ((s.leg l).binding.any fun b => b.agency = a) = true →
    (∀ m, m < l → ((s.leg m).binding.any fun b => b.agency = a) = true → (s.leg m).membership = none) →
    (s.leg l).membership = some p → s.purged (.dest p l) ≠ [] →
    ∃ t, exec (.revoke h agency) s = .next t ∧ t.replies = s.replies ∧
      t.link.inProgress.map InProgress.kind = some .revoke ∧
      t.agency a = { s.agency a with valid := false, generation := (s.agency a).generation + 1 } ∧
      (t.leg l).membership = none ∧ (t.leg l).demand = false ∧
      (∀ m, (t.leg m).binding =
        if m < l ∧ ((s.leg m).binding.any fun b => b.agency = a) = true then none else (s.leg m).binding) ∧
      (∀ m, m ≠ l → (t.leg m).membership = (s.leg m).membership) ∧
      t.routes.purges = s.routes.purges ++ [⟨.revoke, s.purged (.dest p l)⟩] ∧
      (∀ e ∈ s.purged (.dest p l), (t.entry e).state = .purging) ∧
      (s.routes.purges = [] → ∀ before : Option Nat, (∀ n ∈ before, (joined s a).length ≤ n + 1) →
        ∃ u, exec (.frameDone before) t = .next u ∧ u.routes.frame = none ∧
          u.routes.purges = [] ∧ (∀ e ∈ s.purged (.dest p l), u.entry e = {}) ∧ u.link.inProgress = none ∧
          u.replies = s.replies ++ replyTo h 0x22 [0x00, BitVec.ofNat 8 ((List.finRange 20).filter fun l =>
            (s.leg l).binding.any fun b => b.agency = a).length] ∧
          ∀ m, if ((s.leg m).binding.any fun b => b.agency = a) = true then
              (u.leg m).binding = none ∧ (u.leg m).membership = none
            else (u.leg m).binding = (s.leg m).binding ∧ (u.leg m).membership = (s.leg m).membership)) ∧
  (∀ (h : Header) (agency : Byte) (a : AgencyId) (n : Nat) (s : State), s.Ready h → agency.toNat = a.val →
    s.routes.frame = none → s.walk.beforeTick = some n → n + 1 < (joined s a).length →
    ∃ t, exec (.revoke h agency) s = .next t ∧ t.replies = s.replies ∧
      t.link.inProgress.map InProgress.kind = some .revoke ∧ t.walk.due = true ∧
      t.agency a = { s.agency a with valid := false, generation := (s.agency a).generation + 1 } ∧
      (∀ l ∈ (joined s a).take (n + 1), (t.leg l).binding = none ∧ (t.leg l).membership = none) ∧
      (∀ l ∈ (joined s a).drop (n + 1),
        (t.leg l).binding = (s.leg l).binding ∧ (t.leg l).membership = (s.leg l).membership) ∧
      ∀ l ∈ (joined s a)[n + 1]?, ∀ inbound order, ∃ v, exec (.frameStart inbound order) t = .next v ∧
        v.walk.due = false ∧ (v.leg l).membership = none)

/-! ## Patches -/

/-- R56: OPEN opens the patch named, or with number 0 the lowest-numbered FREE one, with the settings given, and nothing
else changes; a patch that is not FREE is refused with PATCH_STATE. R70: ACCESS replaces an ACTIVE patch's access list
and changes nothing else; any other patch is refused with PATCH_STATE. -/
def Obligations.OpenAndAccessWriteTheSettings : Prop :=
  (∀ (h : Header) (a : OpenArgs) (p : PatchId) (s : State), s.Ready h → ArgumentsInRange (.openPatch h a) →
     ((a.patch.toNat = p.val + 1 ∨ (a.patch = 0 ∧ ∀ q, q < p → (s.patch q).state ≠ .free)) →
       (s.patch p).state = .free →
       Completes (.openPatch h a) s h 0x30 [0x00, BitVec.ofNat 8 (p.val + 1)] (s.modPatch p fun _ =>
         { state := .active, label := a.label, access := if a.access.all = 1 then .all else .set a.access.indices,
           margin := a.margin.toNat, hang := a.hang.toNat, talkLimit := a.talkLimit.toNat,
           floorNotices := a.floorNotices = 1, members := [], monitors := [],
           floor := { state := .idle, owner := none, lastOwner := none, seized := false, hangTimer := none,
                      talkTimer := none, queue := [] },
           chain := [] })) ∧
     ((a.patch.toNat = p.val + 1 ∧ (s.patch p).state ≠ .free) → Completes (.openPatch h a) s h 0x30 [0x0A] s) ∧
     ((a.patch = 0 ∧ ∀ q, (s.patch q).state ≠ .free) → Completes (.openPatch h a) s h 0x30 [0x0A] s)) ∧
  (∀ (h : Header) (patch : Byte) (list : AccessArgs) (s : State), s.Ready h →
     ¬ ArgumentsInRange (.access h patch list) → Completes (.access h patch list) s h 0x34 [0x05] s) ∧
  (∀ (h : Header) (patch : Byte) (list : AccessArgs) (p : PatchId) (s : State), s.Ready h →
     patch.toNat = p.val + 1 → list.all.toNat ≤ 1 →
     ((s.patch p).state ≠ .active → Completes (.access h patch list) s h 0x34 [0x0A] s) ∧
     ((s.patch p).state = .active → Completes (.access h patch list) s h 0x34 [0x00]
       (s.modPatch p fun x => { x with access := if list.all = 1 then .all else .set list.indices })))

/-- R57, R58: the nine checks of JOIN in order; the first that fails is answered, and the part stays as it was. -/
def Obligations.JoinChecksInOrder : Prop :=
  ∀ (h : Header) (patch leg options : Byte) (p : PatchId) (l : LegId) (s : State), s.Ready h →
    patch.toNat = p.val + 1 → leg.toNat = l.val →
    let x := s.leg l
    let y := s.patch p
    let refused (r : Result) : Prop := Completes (.join h patch leg options) s h 0x31 [r.code] s
    (y.state ≠ .active → refused .patchState) ∧
    (y.state = .active → x.binding = none → refused .notBound) ∧
    ∀ b, y.state = .active → x.binding = some b →
      (x.park.parked = true → refused .parked) ∧
      (x.park.parked = false → x.membership.isSome = true → refused .member) ∧
      (x.park.parked = false → x.membership = none →
        ((∃ g, (l, g) ∈ y.monitors) → refused .monitoring) ∧
        ((∀ g, (l, g) ∉ y.monitors) →
          (8 ≤ y.members.length → refused .patchFull) ∧
          (y.members.length < 8 →
            let renew := options.getLsbD 0 = true ∨ b.generation ≠ (s.agency b.agency).generation
            let override := options.getLsbD 1 = true
            (∀ r, renew → s.translate b.agency b.channel none none = .refused r → refused r) ∧
            ∀ authority : Fin 64,
              ((¬ renew ∧ authority = b.authority) ∨
                (renew ∧ ∃ e, s.translate b.agency b.channel none none = .found e ∧ authority = e.authority)) →
              ((¬ override ∧ y.access.admits authority = false) → refused .denied) ∧
              ((override ∨ y.access.admits authority = true) → (∀ e, (s.entry e).state ≠ .free) →
                refused .routeFull))))

/-- R48, R58, R59: a JOIN that passes its checks appends the leg to the member list, makes it a member with the binding
step 7 leaves, and takes the lowest-numbered FREE entry for it, kind MEMBER, at the end of the patch's chain. -/
def Obligations.JoinAdmitsTheLeg : Prop :=
  ∀ (h : Header) (patch leg options : Byte) (p : PatchId) (l : LegId) (b c : Binding) (e : EntryId) (s : State),
    s.Ready h → patch.toNat = p.val + 1 → leg.toNat = l.val → (s.patch p).state = .active →
    (s.leg l).binding = some b → (s.leg l).park.parked = false → (s.leg l).membership = none →
    (∀ g, (l, g) ∉ (s.patch p).monitors) → (s.patch p).members.length < 8 →
    let renew : Bool := options.getLsbD 0 || b.generation != (s.agency b.agency).generation
    ((renew = false ∧ c = b) ∨ (renew = true ∧ ∃ x, s.translate b.agency b.channel none none = .found x ∧
      c = { b with
        planIndex := (s.agency b.agency).base + b.channel, generation := (s.agency b.agency).generation,
        authority := x.authority, priority := if b.priority ≤ x.ceiling then b.priority else x.defaultPriority,
        ceiling := x.ceiling, defaultPriority := x.defaultPriority, duplex := x.duplex, keyLead := x.keyLead,
        timeLimit := x.timeLimit, lockout := x.lockout, gain := x.gain })) →
    (options.getLsbD 1 = true ∨ (s.patch p).access.admits c.authority = true) →
    (s.entry e).state = .free → (∀ f, f < e → (s.entry f).state ≠ .free) →
    ∃ t, exec (.join h patch leg options) s = .next t ∧
      t.replies = s.replies ++ replyTo h 0x31
        [0x00, if renew then 1 else 0, BitVec.ofNat 8 c.priority, BitVec.ofNat 8 e.val] ∧
      (t.patch p).members = (s.patch p).members ++ [l] ∧ (t.leg l).membership = some p ∧
      (t.leg l).binding = some c ∧ (t.patch p).chain = (s.patch p).chain ++ [e] ∧
      (t.entry e).fixed =
        { state := .reserved, tag := some p, kind := some .member, dest := some l, source := none,
          pendingSource := none, gain := if l.val < 16 then c.gain else 0 } ∧
      (∀ f, f ≠ e → (t.entry f).fixed = (s.entry f).fixed) ∧
      (∀ m, m ≠ l → (t.leg m).fixed = (s.leg m).fixed) ∧
      (∀ q, q ≠ p → (t.patch q).fixed = (s.patch q).fixed ∧ (t.patch q).chain = (s.patch q).chain) ∧
      t.directory = s.directory ∧ t.routes.frame = s.routes.frame ∧ t.routes.purges = s.routes.purges

/-- R59–R61: the state a JOIN that passes its checks leaves, in order: the re-translated binding, with the masking that
its duplex flag begins or ends (R10); the leg at the end of the member list, its membership, and its MEMBER entry; its
standing claim offered to the floor; then, unless it owns the floor or the floor is IDLE, its key demand on if it is a
radio, and in HELD its entry to carry the owner. So a leg whose claim stands joins an IDLE or HANG floor as its owner,
and one on a HELD floor first preempts or waits by R82 and R83; a leg without a standing claim joins a HELD or HANG
floor as a destination, and an IDLE one with no change of the floor. -/
def Obligations.JoinHandsADestinationToTheFloor : Prop :=
  ∀ (h : Header) (patch leg options : Byte) (p : PatchId) (l : LegId) (b c : Binding) (e : EntryId) (s : State),
    s.Ready h → patch.toNat = p.val + 1 → leg.toNat = l.val → (s.patch p).state = .active →
    (s.leg l).binding = some b → (s.leg l).park.parked = false → (s.leg l).membership = none →
    (∀ g, (l, g) ∉ (s.patch p).monitors) → (s.patch p).members.length < 8 →
    let renew : Bool := options.getLsbD 0 || b.generation != (s.agency b.agency).generation
    ((renew = false ∧ c = b) ∨ (renew = true ∧ ∃ x, s.translate b.agency b.channel none none = .found x ∧
      c = { b with
        planIndex := (s.agency b.agency).base + b.channel, generation := (s.agency b.agency).generation,
        authority := x.authority, priority := if b.priority ≤ x.ceiling then b.priority else x.defaultPriority,
        ceiling := x.ceiling, defaultPriority := x.defaultPriority, duplex := x.duplex, keyLead := x.keyLead,
        timeLimit := x.timeLimit, lockout := x.lockout, gain := x.gain })) →
    (options.getLsbD 1 = true ∨ (s.patch p).access.admits c.authority = true) →
    (s.entry e).state = .free → (∀ f, f < e → (s.entry f).state ≠ .free) →
    let written := s.modLeg l fun x => { x with binding := some c }
    let bound :=
      if l.val < 16 ∧ (s.leg l).tx.state.keyAsserted = true ∧ b.duplex = true ∧ c.duplex = false then
        written.startMasking l
      else if l.val < 16 ∧ (s.leg l).tx.state.keyAsserted = true ∧ b.duplex = false ∧ c.duplex = true then
        written.modLeg l fun x => x.follow (x.condition l)
      else written
    let member := ((bound.modPatch p fun x =>
        { x with members := x.members ++ [l], chain := x.chain ++ [e] }).modLeg l fun x =>
        { x with membership := some p }).modEntry e fun _ =>
      { state := .reserved, tag := some p, kind := some .member, dest := some l, source := none, pendingSource := none,
        gain := if l.val < 16 then c.gain else 0 }
    let stands : Bool := match (member.leg l).rx.state with
      | .active | .falling => true
      | .barred => false
      | .idle | .rising => decide (16 ≤ l.val) && (member.leg l).talk
    let claimed := if stands then member.claimArrives p (.leg l) else member
    let f := (claimed.patch p).floor
    let destination : Prop := f.state ≠ .idle ∧ f.owner ≠ some (.leg l)
    let keyed := if destination ∧ l.val < 16 then claimed.setDemand l true else claimed
    let u := if destination ∧ f.state = .held then
        keyed.modEntry e fun x => { x with pendingSource := f.owner }
      else keyed
    Completes (.join h patch leg options) s h 0x31
      [0x00, if renew then 1 else 0, BitVec.ofNat 8 c.priority, BitVec.ofNat 8 e.val] u ∧
    (stands = true → (s.patch p).floor.state ≠ .held → (s.patch p).floor.queue = [] →
      (u.patch p).floor.state = .held ∧ (u.patch p).floor.owner = some (.leg l)) ∧
    (stands = false → (s.patch p).floor.owner ≠ some (.leg l) →
      ((s.patch p).floor.state = .idle → u = member) ∧
      ((s.patch p).floor.state ≠ .idle →
        (u.leg l).demand = (if l.val < 16 then true else (s.leg l).demand) ∧
        (u.entry e).pendingSource = (if (s.patch p).floor.state = .held then (s.patch p).floor.owner else none) ∧
        (u.patch p).floor.state = (s.patch p).floor.state ∧ (u.patch p).floor.owner = (s.patch p).floor.owner))

/-- R62, R64: LEAVE with no frame in progress, or with no entry to purge, takes the leg out of the list, the floor and
membership, releases its TALK latch, turns its key demand off, frees its MEMBER and OVERLAY entries, and is answered at
once. R137–R139: while a frame is in progress that may hold the leg's entries they are PURGING and nothing is answered;
the frame done frees them and answers. A leg that is no member is refused with NOT_MEMBER. -/
def Obligations.LeaveTakesTheLegOut : Prop :=
  (∀ (h : Header) (leg : Byte) (l : LegId) (p : PatchId) (s : State), s.Ready h → leg.toNat = l.val →
     (s.leg l).membership = some p → (s.routes.frame = none ∨ s.purged (.dest p l) = []) → FloorLaw s →
     ∃ t, exec (.leave h leg) s = .next t ∧ t.replies = s.replies ++ replyTo h 0x32 [0x00] ∧
       t.link.inProgress = none ∧ (t.patch p).members = (s.patch p).members.filter (· ≠ l) ∧
       (t.leg l).membership = none ∧ (t.leg l).talk = false ∧ (t.leg l).demand = false ∧
       (t.leg l).binding = (s.leg l).binding ∧ (t.leg l).emergency = (s.leg l).emergency ∧
       (t.patch p).floor.owner ≠ some (.leg l) ∧ (∀ c ∈ (t.patch p).floor.queue, c.party ≠ .leg l) ∧
       (∀ e ∈ s.purged (.dest p l), t.entry e = {}) ∧
       (∀ e, e ∉ s.purged (.dest p l) → (t.entry e).fixed = (s.entry e).fixed) ∧
       (∀ m, m ≠ l → (t.leg m).fixed = (s.leg m).fixed) ∧ t.directory = s.directory) ∧
  (∀ (h : Header) (leg : Byte) (l : LegId) (s : State), s.Ready h → leg.toNat = l.val →
     ((s.leg l).membership = none → Completes (.leave h leg) s h 0x32 [0x09] s) ∧
     ∀ p, (s.leg l).membership = some p → s.routes.frame.isSome = true → s.purged (.dest p l) ≠ [] →
       ∃ t, exec (.leave h leg) s = .next t ∧ t.replies = s.replies ∧
         t.link.inProgress = some ⟨.leave, h, .leave⟩ ∧
         (t.patch p).members = (s.patch p).members.filter (· ≠ l) ∧ (t.leg l).membership = none ∧
         (t.leg l).talk = false ∧ (t.leg l).demand = false ∧
         (∀ e ∈ s.purged (.dest p l), (t.entry e).state = .purging) ∧
         t.routes.purges = s.routes.purges ++ [⟨.leave, s.purged (.dest p l)⟩] ∧ t.routes.frame = s.routes.frame ∧
         (s.routes.purges = [] → ∀ before, ∃ u, exec (.frameDone before) t = .next u ∧ u.routes.frame = none ∧
           u.routes.purges = [] ∧ (∀ e ∈ s.purged (.dest p l), u.entry e = {}) ∧ u.link.inProgress = none ∧
           u.replies = s.replies ++ replyTo h 0x32 [0x00]))

/-- R65–R68: DISBAND with no frame in progress and no tick that falls into its walk, with FORCE or with no member in emergency, leaves every patch of its
range with no member, ACTIVE in no case, tears down no other, and answers done equal to count and next 0. Without FORCE
it stops at the first ACTIVE patch that holds a member in emergency, with that patch and those after it untouched and
the ones before it torn down; a range of FREE patches is done at once. While a frame is in progress that may hold the
first patch's entries, that patch is DISBANDING without members, monitors or floor, its entries are PURGING, the patches
after it are untouched, and nothing is answered. R139: the frame done frees that patch; the range's other patches follow
at once, and the request is answered, or with a tick that falls first (log 7) the next ACTIVE patch waits for it and is
torn down in that frame. Between frames, with a tick that comes after n further purges (log 7), the first n + 1 ACTIVE
patches are torn down, and the next one waits for the tick and is torn down in its frame. A patch reached with a member
in emergency halts the walk before any tick (the model's reading of R66, log 7). -/
def Obligations.DisbandFreesTheRangeOrHalts : Prop :=
  let reached (s : State) (lo hi : Nat) : List PatchId :=
    (List.finRange 12).filter fun q => lo ≤ q.val + 1 ∧ q.val + 1 < hi ∧ (s.patch q).state = .active
  (∀ (h : Header) (first count options : Byte) (s : State), s.Ready h → 1 ≤ first.toNat → 1 ≤ count.toNat →
     first.toNat + count.toNat ≤ 13 → s.routes.frame = none → PatchLaw s →
     s.Paced (reached s first.toNat (first.toNat + count.toNat)).length →
     (options.getLsbD 0 = true ∨ ∀ p : PatchId, first.toNat ≤ p.val + 1 → p.val + 1 < first.toNat + count.toNat →
       (s.patch p).state = .active → ∀ l ∈ (s.patch p).members, (s.leg l).emergency = none) →
     ∃ t, exec (.disband h first count options) s = .next t ∧
       t.replies = s.replies ++ replyTo h 0x33 [0x00, count, 0] ∧ t.link.inProgress = none ∧
       (∀ p : PatchId, first.toNat ≤ p.val + 1 → p.val + 1 < first.toNat + count.toNat →
         (t.patch p).state ≠ .active ∧ (t.patch p).members = [] ∧
         ((s.patch p).state = .active → (t.patch p).fixed = {})) ∧
       (∀ p : PatchId, (p.val + 1 < first.toNat ∨ first.toNat + count.toNat ≤ p.val + 1) →
         (t.patch p).fixed = (s.patch p).fixed ∧ (t.patch p).floor = (s.patch p).floor) ∧
       (∀ l, (t.leg l).binding = (s.leg l).binding ∧ (t.leg l).emergency = (s.leg l).emergency ∧
         (t.leg l).membership = (match (s.leg l).membership with
           | some p => if first.toNat ≤ p.val + 1 ∧ p.val + 1 < first.toNat + count.toNat then none else some p
           | none => none)) ∧
       t.directory = s.directory) ∧
  (∀ (h : Header) (first count options : Byte) (s : State), s.Ready h → 1 ≤ first.toNat → 1 ≤ count.toNat →
     first.toNat + count.toNat ≤ 13 →
     ((∀ p : PatchId, first.toNat ≤ p.val + 1 → p.val + 1 < first.toNat + count.toNat → (s.patch p).state = .free) →
       Completes (.disband h first count options) s h 0x33 [0x00, count, 0] s) ∧
     ∀ p : PatchId, options.getLsbD 0 = false → first.toNat ≤ p.val + 1 → p.val + 1 < first.toNat + count.toNat →
       (s.patch p).state = .active → (∃ l ∈ (s.patch p).members, (s.leg l).emergency.isSome = true) →
       ((∀ q, q < p → first.toNat ≤ q.val + 1 → (s.patch q).state = .free) →
         Completes (.disband h first count options) s h 0x33
           [0x01, BitVec.ofNat 8 (p.val + 1 - first.toNat), BitVec.ofNat 8 (p.val + 1)] s) ∧
       (s.routes.frame = none → PatchLaw s → s.Paced (reached s first.toNat (p.val + 1)).length →
         (∀ q, q < p → first.toNat ≤ q.val + 1 → (s.patch q).state = .active → ∀ l ∈ (s.patch q).members,
           (s.leg l).emergency = none) →
         ∃ t, exec (.disband h first count options) s = .next t ∧ t.link.inProgress = none ∧
           t.replies = s.replies ++ replyTo h 0x33
             [0x01, BitVec.ofNat 8 (p.val + 1 - first.toNat), BitVec.ofNat 8 (p.val + 1)] ∧
           (∀ q, q < p → first.toNat ≤ q.val + 1 → (t.patch q).state ≠ .active ∧ (t.patch q).members = [] ∧
             ((s.patch q).state = .active → (t.patch q).fixed = {})) ∧
           (∀ q, (p ≤ q ∨ q.val + 1 < first.toNat) →
             (t.patch q).fixed = (s.patch q).fixed ∧ (t.patch q).floor = (s.patch q).floor) ∧
           ∀ l, (t.leg l).membership = (match (s.leg l).membership with
             | some q => if first.toNat ≤ q.val + 1 ∧ q < p then none else some q
             | none => none))) ∧
  (∀ (h : Header) (first count options : Byte) (p : PatchId) (s : State), s.Ready h → 1 ≤ first.toNat →
     1 ≤ count.toNat → first.toNat + count.toNat ≤ 13 → s.routes.frame.isSome = true → s.context.phase = .none →
     PatchLaw s → first.toNat ≤ p.val + 1 → p.val + 1 < first.toNat + count.toNat →
     (options.getLsbD 0 = true ∨ ∀ q : PatchId, first.toNat ≤ q.val + 1 → q.val + 1 < first.toNat + count.toNat →
       (s.patch q).state = .active → ∀ l ∈ (s.patch q).members, (s.leg l).emergency = none) →
     (∀ q, q < p → first.toNat ≤ q.val + 1 → (s.patch q).state = .free) → (s.patch p).state = .active →
     s.purged (.tag p) ≠ [] →
     ∃ t, exec (.disband h first count options) s = .next t ∧ t.replies = s.replies ∧
       t.link.inProgress.map InProgress.kind = some .disband ∧ (t.patch p).state = .disbanding ∧
       (t.patch p).members = [] ∧ (t.patch p).monitors = [] ∧ (t.patch p).floor = {} ∧
       (∀ l ∈ (s.patch p).members, (t.leg l).membership = none ∧ (t.leg l).talk = false) ∧
       (∀ q, q ≠ p → t.patch q = s.patch q) ∧
       t.routes.purges = s.routes.purges ++ [⟨.disband, s.purged (.tag p)⟩] ∧
       (∀ e ∈ s.purged (.tag p), (t.entry e).state = .purging) ∧
       (s.routes.purges = [] →
         (∀ before : Option Nat,
           (∀ n ∈ before, (reached s first.toNat (first.toNat + count.toNat)).length ≤ n + 1) →
           ∃ u, exec (.frameDone before) t = .next u ∧ u.routes.frame = none ∧ u.routes.purges = [] ∧
             (∀ e ∈ s.purged (.tag p), u.entry e = {}) ∧ u.link.inProgress = none ∧
             u.replies = s.replies ++ replyTo h 0x33 [0x00, count, 0] ∧
             ∀ q ∈ reached s first.toNat (first.toNat + count.toNat), u.patch q = {}) ∧
         ∀ q : PatchId, p < q → q.val + 1 < first.toNat + count.toNat → (s.patch q).state = .active →
           (∀ r, p < r → r < q → (s.patch r).state = .free) →
           ∃ u, exec (.frameDone (some 0)) t = .next u ∧ u.routes.frame = none ∧ u.routes.purges = [] ∧
             u.patch p = {} ∧ (u.patch q).fixed = (s.patch q).fixed ∧ u.replies = s.replies ∧ u.walk.due = true ∧
             u.link.inProgress.map InProgress.kind = some .disband ∧
             ∀ inbound order, ∃ v, exec (.frameStart inbound order) u = .next v ∧ v.walk.due = false ∧
               (v.patch q).state ≠ .active ∧ (v.patch q).members = [])) ∧
  (∀ (h : Header) (first count options : Byte) (n : Nat) (s : State), s.Ready h → 1 ≤ first.toNat → 1 ≤ count.toNat →
     first.toNat + count.toNat ≤ 13 → s.routes.frame = none → PatchLaw s → s.walk.beforeTick = some n →
     (options.getLsbD 0 = true ∨ ∀ q ∈ reached s first.toNat (first.toNat + count.toNat), ∀ l ∈ (s.patch q).members,
       (s.leg l).emergency = none) →
     n + 1 < (reached s first.toNat (first.toNat + count.toNat)).length →
     ∃ t, exec (.disband h first count options) s = .next t ∧ t.replies = s.replies ∧
       t.link.inProgress.map InProgress.kind = some .disband ∧ t.walk.due = true ∧
       (∀ q ∈ (reached s first.toNat (first.toNat + count.toNat)).take (n + 1), (t.patch q).fixed = {} ∧
         ∀ l ∈ (s.patch q).members, (t.leg l).membership = none) ∧
       (∀ q ∈ (reached s first.toNat (first.toNat + count.toNat)).drop (n + 1),
         (t.patch q).fixed = (s.patch q).fixed ∧ (t.patch q).floor = (s.patch q).floor) ∧
       ∀ q ∈ (reached s first.toNat (first.toNat + count.toNat))[n + 1]?, ∀ inbound order,
         ∃ v, exec (.frameStart inbound order) t = .next v ∧ v.walk.due = false ∧ (v.patch q).state ≠ .active ∧
           (v.patch q).members = [] ∧ ∀ l ∈ (s.patch q).members, (v.leg l).membership = none)

/-- R71, R72: MONITOR on: the checks in order; a console already on the list changes its gain alone, in the list and in
its entry, and the reply carries the number of that entry, its one MONITOR entry of the patch; a new one takes the lowest-numbered FREE entry, linked at the end of the chain, that is to carry the owner of
a HELD floor. R73: MONITOR off of a console not on the list changes nothing; of one on it, with no frame in progress,
removes the pair, frees its MONITOR entry, and is answered at once; while a frame is in progress that may hold the
entry, the entry is PURGING and nothing is answered; the frame done frees it and answers (R138, R139). -/
def Obligations.MonitorStartsAdjustsAndStops : Prop :=
  (∀ (h : Header) (leg patch gain : Byte) (l : LegId) (p : PatchId) (s : State), s.Ready h → leg.toNat = l.val →
     16 ≤ l.val → patch.toNat = p.val + 1 → gain.toNat ≤ 15 →
     let i := Instr.monitorOn h leg patch gain
     ((s.patch p).state ≠ .active → Completes i s h 0x35 [0x0A] s) ∧
     ((s.patch p).state = .active → (s.leg l).membership = some p → Completes i s h 0x35 [0x08] s) ∧
     ((s.patch p).state = .active → (s.leg l).membership ≠ some p →
       ((∃ g, (l, g) ∈ (s.patch p).monitors) → ∃ u : State, ∃ n : Byte, Completes i s h 0x35 [0x00, n] u ∧
         (RouteLaw s → ∃ e, s.feeding p .monitor l = [e] ∧ n = BitVec.ofNat 8 e.val) ∧
         (u.patch p).monitors =
           ((s.patch p).monitors.map fun m => if m.1 = l then (l, gain.toNat) else m) ∧
         (∀ e, (s.entry e).live = true → (s.entry e).tag = some p → (s.entry e).dest = some l →
           (s.entry e).kind = some .monitor → u.entry e = { s.entry e with gain := gain.toNat }) ∧
         (∀ e, ¬((s.entry e).live = true ∧ (s.entry e).tag = some p ∧ (s.entry e).dest = some l ∧
           (s.entry e).kind = some .monitor) → u.entry e = s.entry e) ∧
         u.legs = s.legs ∧ (∀ q, q ≠ p → u.patch q = s.patch q) ∧
         u.patch p = { s.patch p with monitors := (u.patch p).monitors } ∧ u.directory = s.directory ∧
         u.clips = s.clips ∧ u.link = s.link) ∧
       ((∀ g, (l, g) ∉ (s.patch p).monitors) →
         (4 ≤ ((List.finRange 12).filter fun q => (s.patch q).monitors.any fun m => m.1 = l).length →
           Completes i s h 0x35 [0x0B] s) ∧
         (((List.finRange 12).filter fun q => (s.patch q).monitors.any fun m => m.1 = l).length < 4 →
           ((∀ e, (s.entry e).state ≠ .free) → Completes i s h 0x35 [0x0D] s) ∧
           ∀ e, (s.entry e).state = .free → (∀ f, f < e → (s.entry f).state ≠ .free) →
             Completes i s h 0x35 [0x00, BitVec.ofNat 8 e.val]
               ((s.modEntry e fun _ =>
                 { state := .reserved, tag := some p, kind := some .monitor, dest := some l, source := none,
                   pendingSource := if (s.patch p).floor.state = .held then (s.patch p).floor.owner else none,
                   gain := gain.toNat }).modPatch p fun x =>
                 { x with chain := x.chain ++ [e], monitors := x.monitors ++ [(l, gain.toNat)] }))))) ∧
  (∀ (h : Header) (leg patch gain : Byte) (l : LegId) (p : PatchId) (s : State), s.Ready h → leg.toNat = l.val →
     16 ≤ l.val → patch.toNat = p.val + 1 → gain.toNat ≤ 15 →
     let i := Instr.monitorOff h leg patch gain
     ((∀ g, (l, g) ∉ (s.patch p).monitors) → Completes i s h 0x35 [0x00] s) ∧
     ((∃ g, (l, g) ∈ (s.patch p).monitors) → s.routes.frame.isSome = true → s.purged (.monitor p l) ≠ [] →
       ∃ t, exec i s = .next t ∧ t.replies = s.replies ∧ t.link.inProgress = some ⟨.monitor, h, .monitorOff⟩ ∧
         (t.patch p).monitors = (s.patch p).monitors.filter (fun m => m.1 ≠ l) ∧ t.legs = s.legs ∧
         t.routes.purges = s.routes.purges ++ [⟨.monitorOff, s.purged (.monitor p l)⟩] ∧
         (∀ e ∈ s.purged (.monitor p l), (t.entry e).state = .purging) ∧
         (s.routes.purges = [] → ∀ before, ∃ u, exec (.frameDone before) t = .next u ∧ u.routes.frame = none ∧
           u.routes.purges = [] ∧ (∀ e ∈ s.purged (.monitor p l), u.entry e = {} ∧ e ∉ (u.patch p).chain) ∧
           u.link.inProgress = none ∧ u.replies = s.replies ++ replyTo h 0x35 [0x00])) ∧
     ((∃ g, (l, g) ∈ (s.patch p).monitors) → (s.routes.frame = none ∨ s.purged (.monitor p l) = []) →
       ∃ t, exec i s = .next t ∧ t.replies = s.replies ++ replyTo h 0x35 [0x00] ∧ t.link.inProgress = none ∧
         (t.patch p).monitors = (s.patch p).monitors.filter (fun m => m.1 ≠ l) ∧
         (∀ e, (s.entry e).live = true → (s.entry e).tag = some p → (s.entry e).dest = some l →
           (s.entry e).kind = some .monitor → t.entry e = {} ∧ e ∉ (t.patch p).chain) ∧
         (∀ e, ¬((s.entry e).live = true ∧ (s.entry e).tag = some p ∧ (s.entry e).dest = some l ∧
           (s.entry e).kind = some .monitor) → t.entry e = s.entry e) ∧
         t.legs = s.legs ∧ (∀ q, (t.patch q).floor = (s.patch q).floor) ∧
         (∀ q, q ≠ p → (t.patch q).fixed = (s.patch q).fixed) ∧ t.directory = s.directory ∧ t.clips = s.clips))

/-! ## Floors -/

/-- R81, R85: a claim that arrives on an IDLE or HANG floor is granted at once, whatever its priority: HELD by it, with
the hang timer stopped, the last owner and the seized flag clear, the grant time now, and the claimant not queued. -/
def Obligations.ClaimOnAFreeFloorIsGranted : Prop :=
  ∀ (p : PatchId) (party : Party) (s : State), (s.patch p).floor.state ≠ .held → (s.patch p).floor.queue = [] →
    let f := ((s.claimArrives p party).patch p).floor
    f.state = .held ∧ f.owner = some party ∧ f.hangTimer = none ∧ f.lastOwner = none ∧ f.seized = false ∧
      f.grantTime = s.link.stamp ∧ f.queue = []

/-- R85, R97, R86, R87: what a grant does: the floor fields, with the rest of the queue in its order: every claim
but the new owner's and those of the members that the key demands of the grant mask in RX_ACTIVE or RX_FALLING, which
leave it (R10, R94), while CLIP, consoles and every other leg stay; on a patch whose members are named once, key demand off for the new
owner's leg, on for every other radio member, with what that does to the leg (R12, R13), and no change of any other leg;
the new owner as pending source of the RESERVED and ACTIVE MEMBER and MONITOR entries of the patch and of no other; and
R88: the GRANTED notice, the last, when floor notices are on, and no other but CARRIER (FELL) notices of legs that the
grant masks. -/
def Obligations.GrantMovesTheFloor : Prop :=
  (∀ (p : PatchId) (party : Party) (seized : Bool) (time : ClaimTime) (s : State),
     let f := ((s.grant p party seized time).patch p).floor
     let masks : Party → Bool := fun
       | .clip => false
       | .leg l =>
         l ∈ (s.patch p).members ∧ l.val < 16 ∧ party ≠ .leg l ∧ (s.leg l).demand = false ∧ (s.leg l).tx.state = .off ∧
           (s.leg l).binding.any Binding.duplex = false ∧
           ((s.leg l).rx.state = .active ∨ (s.leg l).rx.state = .falling) ∧ (s.leg l).membership = some p
     f.state = .held ∧ f.owner = some party ∧ f.grantTime = s.link.stamp ∧ f.lastOwner = none ∧ f.hangTimer = none ∧
       f.seized = seized ∧
       f.talkTimer = (match party with
         | .leg _ => if seized ∨ (s.patch p).talkLimit = 0 then none else some (1000 * (s.patch p).talkLimit)
         | .clip => none) ∧
       f.queue = (s.patch p).floor.queue.filter fun c => c.party ≠ party ∧ masks c.party = false) ∧
  (∀ (p : PatchId) (party : Party) (seized : Bool) (time : ClaimTime) (s : State) (l : LegId),
     (s.patch p).members.Nodup →
     ((s.grant p party seized time).leg l).demand =
       (if l ∈ (s.patch p).members ∧ l.val < 16 then decide (party ≠ .leg l) else (s.leg l).demand) ∧
     (s.grant p party seized time).leg l =
       if l ∈ (s.patch p).members ∧ l.val < 16 then (s.setDemand l (decide (party ≠ .leg l))).leg l else s.leg l) ∧
  (∀ (p : PatchId) (party : Party) (seized : Bool) (time : ClaimTime) (s : State),
     let t := s.grant p party seized time
     let granted : Notice := match party with
       | .leg l => ⟨.floor .granted false, s.link.stamp, some l, some p⟩
       | .clip => ⟨.floor .granted true, s.link.stamp, none, some p⟩
     s.link.notices <+: t.link.notices ∧
     ((s.patch p).floorNotices = true → t.link.gap = true ∨ t.link.notices.getLast? = some granted) ∧
     ∀ n ∈ t.link.notices.drop s.link.notices.length,
       n.detail = .carrier .fell ∨ ((s.patch p).floorNotices = true ∧ n = granted)) ∧
  (∀ (p : PatchId) (party : Party) (seized : Bool) (time : ClaimTime) (s : State) (e : EntryId),
     (s.grant p party seized time).entry e =
       if ((s.entry e).state = .reserved ∨ (s.entry e).state = .active) ∧ (s.entry e).tag = some p ∧
           ((s.entry e).kind = some .member ∨ (s.entry e).kind = some .monitor) then
         { s.entry e with pendingSource := some party }
       else s.entry e)

/-- R80: the owner's claim leaves a HELD floor as it is, but for the time kept of it (log 27). R82, R83: a claim on a
HELD floor that is not the owner's. With condition 1 or 2 of R82 the claimant becomes owner, and the owner it displaces
is treated as R89 and R90 say (`Displaced`: put back with its claim time, its effective priority and the preempted
marker if its claim stands, the PREEMPTED notice, and for CLIP the end with reason PREEMPTED and its CLIP notice behind
the FLOOR notices); with neither it is queued with its effective priority and no marker, the QUEUED notice is offered
when floor notices are on, and nothing else changes. -/
def Obligations.ClaimOnAHeldFloorIsJudged : Prop :=
  (∀ (p : PatchId) (party : Party) (s : State), (s.patch p).floor.state = .held →
    (s.patch p).floor.owner = some party →
    s.claimArrives p party = { s with order := s.order + 1 }.modPatch p fun x =>
      { x with floor := { x.floor with ownerClaim := ⟨s.link.stamp, s.order⟩ } }) ∧
  ∀ (p : PatchId) (party owner : Party) (s : State), (s.patch p).floor.state = .held →
    (s.patch p).floor.owner = some owner → party ≠ owner →
    let emergency (q : Party) : Prop := ∃ l, q = .leg l ∧ (s.leg l).emergency.isSome = true
    let priority (q : Party) : Nat := match q with
      | .leg l => if (s.leg l).emergency.isSome then 15 else (s.leg l).boundPriority
      | .clip => s.context.priority
    let preempts : Prop := (emergency party ∧ ¬ emergency owner) ∨
      ((s.patch p).floor.seized = false ∧ (s.patch p).margin ≠ 0 ∧ priority owner + (s.patch p).margin ≤ priority party)
    let t := s.claimArrives p party
    (preempts → (t.patch p).floor.owner = some party ∧ (t.patch p).floor.state = .held ∧
      (t.patch p).floor.seized = false ∧
      Displaced { s with order := s.order + 1 } p party false ⟨s.link.stamp, s.order⟩ t) ∧
    (¬ preempts →
      let u := { s with order := s.order + 1 }.modPatch p fun x => { x with floor := { x.floor with
        queue := insertClaim ⟨party, priority party, ⟨s.link.stamp, s.order⟩, none⟩
          (x.floor.queue.filter fun c => c.party ≠ party) } }
      t = if (s.patch p).floorNotices then
          (match party with
            | .leg l => u.offer (.floor .queued false) (some l) (some p)
            | .clip => u.offer (.floor .queued true) none (some p))
        else u)

/-- R78: the queue's order. A claim stands ahead of another by its higher priority; at the same priority a marked one
ahead of an unmarked, among marked ones the later preemption, among unmarked ones the earlier claim ("later" and
"earlier" by the order in which the model takes events, log 20). A claim is inserted behind every claim that stands
ahead of it and before every other, and the queue stays in order. -/
def Obligations.QueueKeepsItsOrder : Prop :=
  (∀ a b : Claim, a.ahead b = true ↔ b.priority < a.priority ∨ (a.priority = b.priority ∧
    ((a.marker.isSome = true ∧ b.marker = none) ∨
      (∃ m ∈ a.marker, ∃ n ∈ b.marker, n.order < m.order) ∨
      (a.marker = none ∧ b.marker = none ∧ a.time.order < b.time.order)))) ∧
  ∀ (c : Claim) (q : List Claim), q.Pairwise (fun a b => b.ahead a = false) →
    (insertClaim c q).Pairwise (fun a b => b.ahead a = false) ∧ (insertClaim c q).Perm (c :: q) ∧
    ∃ front back, q = front ++ back ∧ insertClaim c q = front ++ c :: back ∧
      (∀ d ∈ front, c.ahead d = false) ∧ ∀ d ∈ back, c.ahead d = true

/-- R91, R94, R106: a withdrawal. The owner's, not seized: the head of the queue is granted, or with an empty queue the
floor enters HANG, with nothing for its MEMBER and MONITOR entries to carry (R95), or IDLE with a hang time of 0. A
seized owner's changes nothing. A queued party's removes its claim and nothing else; any other's changes nothing. A
claim, a withdrawal, a pass and a change of an emergency flag leave alone all but machines, key demands, event flags,
floor fields, pending sources, the playback granted or preempted, and notices: with CLIP's hold on the floors unchanged,
the ring, the accepted count and the playback context stay too (`FloorWork`). -/
def Obligations.WithdrawalsAreTakenByPlace : Prop :=
  (∀ (p : PatchId) (party : Party) (s : State),
     let f := (s.patch p).floor
     let t := s.withdraws p party
     (f.owner = some party → f.seized = true → t = s) ∧
     (f.owner = some party → f.seized = false →
       (∀ c q, f.queue = c :: q → t = s.grant p c.party false c.time ∧ (t.patch p).floor.owner = some c.party) ∧
       (f.queue = [] → (s.patch p).hang ≠ 0 →
         (t.patch p).floor.state = .hang ∧ (t.patch p).floor.owner = none ∧
         (t.patch p).floor.hangTimer = some (s.patch p).hang ∧ t.legs = s.legs ∧ t.link = s.link ∧
         (∀ e, t.entry e =
           if ((s.entry e).state = .reserved ∨ (s.entry e).state = .active) ∧ (s.entry e).tag = some p ∧
               ((s.entry e).kind = some .member ∨ (s.entry e).kind = some .monitor) then
             { s.entry e with pendingSource := none }
           else s.entry e) ∧
         ∀ l, party = .leg l → (t.patch p).floor.lastOwner = some l) ∧
       (f.queue = [] → (s.patch p).hang = 0 → (t.patch p).floor.state = .idle ∧ (t.patch p).floor.owner = none)) ∧
     (f.owner ≠ some party →
       t = s.modPatch p fun x => { x with floor := { x.floor with
         queue := x.floor.queue.filter fun c => c.party ≠ party } })) ∧
  (∀ (p : PatchId) (party : Party) (l : LegId) (s : State),
     FloorWork s (s.claimArrives p party) ∧ FloorWork s (s.withdraws p party) ∧ FloorWork s (s.pass p) ∧
       FloorWork s (s.emergencyChange l))

/-- R104, R8: TALK of a console that is no member is refused with NOT_MEMBER; a press or a release that finds the latch
so already changes nothing; a press makes a claim when none stands and the console is not barred; a release withdraws
when the switch is not qualified, and ends the bar of a console whose switch's drop has qualified (with the flag and
notice, log 11); otherwise the latch alone changes. -/
def Obligations.TalkPressesAndReleases : Prop :=
  ∀ (h : Header) (leg : Byte) (l : LegId) (s : State), s.Ready h → leg.toNat = l.val → 16 ≤ l.val →
    let latched (b : Bool) : State := s.modLeg l fun x => { x with talk := b }
    let qualified : Prop := (s.leg l).rx.state = .active ∨ (s.leg l).rx.state = .falling
    ((s.leg l).membership = none →
      Completes (.talkPress h leg) s h 0x40 [0x09] s ∧ Completes (.talkRelease h leg) s h 0x40 [0x09] s) ∧
    ∀ p, (s.leg l).membership = some p →
      (((s.leg l).talk = true ∨ qualified ∨ (s.leg l).rx.state = .barred) →
        Completes (.talkPress h leg) s h 0x40 [0x00] (latched true)) ∧
      ((s.leg l).talk = false → ¬ qualified → (s.leg l).rx.state ≠ .barred →
        Completes (.talkPress h leg) s h 0x40 [0x00] ((latched true).claimArrives p (.leg l))) ∧
      (((s.leg l).talk = false ∨ qualified ∨ ((s.leg l).rx.state = .barred ∧ (s.leg l).rx.barDropDone = false)) →
        Completes (.talkRelease h leg) s h 0x40 [0x00] (latched false)) ∧
      ((s.leg l).talk = true → (s.leg l).rx.state = .barred → (s.leg l).rx.barDropDone = true →
        let u := s.modLeg l fun x =>
          { x with talk := false, rx := { state := .idle }, flags := { x.flags with fell := true } }
        Completes (.talkRelease h leg) s h 0x40 [0x00]
          (if (s.leg l).config.mask.carrier then u.offer (.carrier .fell) (some l) (some p) else u)) ∧
      ((s.leg l).talk = true → ¬ qualified → (s.leg l).rx.state ≠ .barred →
        Completes (.talkRelease h leg) s h 0x40 [0x00] ((latched false).withdraws p (.leg l)))

/-- R105: SEIZE on a patch that is not ACTIVE is refused with PATCH_STATE and of a leg that is no member with
NOT_MEMBER; of the owner it sets the seized flag and stops the talk-limit timer; of any other member it makes that leg
the seized owner, whatever held the floor, the owner displaced as R89 and R90 say (`Displaced`), with the time of its
queued claim or else now as its claim's (log 27), and the rest is the floor's work. R107: SEIZE CLEAR on a clear flag
changes nothing; on a set one it clears the flag, and the owner whose claim stands keeps the floor with the talk-limit
timer at its full talk limit, while a silent one's withdrawal is taken as R91 takes it. -/
def Obligations.SeizeTakesTheFloor : Prop :=
  (∀ (h : Header) (patch leg : Byte) (p : PatchId) (l : LegId) (s : State), s.Ready h → patch.toNat = p.val + 1 →
     leg.toNat = l.val →
     let i := Instr.seize h patch leg
     ((s.patch p).state ≠ .active → Completes i s h 0x41 [0x0A] s) ∧
     ((s.patch p).state = .active → (s.leg l).membership ≠ some p → Completes i s h 0x41 [0x09] s) ∧
     ((s.patch p).state = .active → (s.leg l).membership = some p →
       ((s.patch p).floor.owner = some (.leg l) → Completes i s h 0x41 [0x00] (s.modPatch p fun x =>
         { x with floor := { x.floor with seized := true, talkTimer := none } })) ∧
       ((s.patch p).floor.owner ≠ some (.leg l) → ∃ u : State, Completes i s h 0x41 [0x00] u ∧ FloorWork s u ∧
         (u.patch p).floor.state = .held ∧ (u.patch p).floor.owner = some (.leg l) ∧
         (u.patch p).floor.seized = true ∧ (u.patch p).floor.talkTimer = none ∧
         (u.patch p).floor.grantTime = s.link.stamp ∧
         Displaced { s with order := s.order + 1 } p (.leg l) true
           (((s.patch p).floor.queue.find? fun c => c.party = .leg l).elim ⟨s.link.stamp, s.order⟩ Claim.time) u))) ∧
  (∀ (h : Header) (patch : Byte) (p : PatchId) (l : LegId) (s : State), s.Ready h → patch.toNat = p.val + 1 →
     (s.patch p).state = .active →
     let i := Instr.seizeClear h patch
     ((s.patch p).floor.seized = false → Completes i s h 0x41 [0x00] s) ∧
     ((s.patch p).floor.seized = true → (s.patch p).floor.owner = some (.leg l) →
       let u := s.modPatch p fun x => { x with floor := { x.floor with seized := false } }
       ((s.leg l).stands l = true → Completes i s h 0x41 [0x00] (s.modPatch p fun x => { x with floor :=
         { x.floor with
           seized := false, talkTimer := if x.talkLimit = 0 then none else some (1000 * x.talkLimit) } })) ∧
       ((s.leg l).stands l = false → Completes i s h 0x41 [0x00] (u.withdraws p (.leg l)))))

/-- R96, R93: at hang expiry the floor enters IDLE: the fields cleared, and on a patch whose members are named once the
key demand of every radio member off, with what that does to the leg (R13), and no other leg changed, the RESERVED and
ACTIVE MEMBER and MONITOR entries to carry nothing, and the IDLE notice when floor notices are on. R98, R9, R92: the
talk limit expires: the TALK_LIMIT notice when floor notices are on; the owner barred, a radio from RX_ACTIVE or
RX_FALLING and a console from any state, with its drop timing started when its condition is absent; then the floor
passed without hang. -/
def Obligations.FloorTimersExpire : Prop :=
  (∀ (p : PatchId) (s : State), s.Settled → (s.patch p).floor.state = .hang → (s.patch p).floor.hangTimer = some 0 →
     exec (.hangExpiry p) s = .next (s.enterIdle p)) ∧
  (∀ (p : PatchId) (s : State), (s.patch p).members.Nodup → (s.patch p).floor.queue = [] →
     let t := s.enterIdle p
     (t.patch p).floor.state = .idle ∧ (t.patch p).floor.owner = none ∧ (t.patch p).floor.lastOwner = none ∧
       (t.patch p).floor.seized = false ∧ (t.patch p).floor.grantTime = 0 ∧ (t.patch p).floor.hangTimer = none ∧
       (t.patch p).floor.talkTimer = none ∧ (t.patch p).floor.queue = [] ∧
       (∀ l, (t.leg l).demand = (if l ∈ (s.patch p).members ∧ l.val < 16 then false else (s.leg l).demand) ∧
         t.leg l = if l ∈ (s.patch p).members ∧ l.val < 16 then (s.setDemand l false).leg l else s.leg l) ∧
       (∀ e, t.entry e =
         if ((s.entry e).state = .reserved ∨ (s.entry e).state = .active) ∧ (s.entry e).tag = some p ∧
             ((s.entry e).kind = some .member ∨ (s.entry e).kind = some .monitor) then
           { s.entry e with pendingSource := none }
         else s.entry e) ∧
       t.link = (if (s.patch p).floorNotices then s.offer (.floor .idle false) none (some p) else s).link) ∧
  (∀ (p : PatchId) (o : LegId) (s : State), s.Settled → (s.patch p).floor.state = .held →
     (s.patch p).floor.owner = some (.leg o) → (s.patch p).floor.talkTimer = some 0 →
     let u := if (s.patch p).floorNotices then s.offer (.floor .talkLimit false) (some o) (some p) else s
     let u := if 16 ≤ o.val ∨ (s.leg o).rx.state = .active ∨ (s.leg o).rx.state = .falling then
         u.modLeg o fun x =>
           { x with
             rx :=
               { state := .barred, riseTimer := none, dropTimer := none
                 barTimer := if x.condition o ∨ x.masked o ∨ x.park.parked then none else some x.config.drop
                 barDropDone := false } }
       else u
     exec (.talkLimitExpiry p) s = .next (match (s.patch p).floor.queue with
       | c :: _ => u.grant p c.party false c.time
       | [] => u.enterIdle p))

/-! ## Emergency -/

/-- R112, R115: DECLARE of a leg above 19 is refused with RANGE. DECLARE on sets a clear flag with source DECLARE,
offers the EMERGENCY notice whatever the mask, hands a member's change to its floor, and carries the flag and source; a
flag set already is left as it is. R113: DECLARE off clears a set flag, offers the EMERGENCY notice with the source the
flag had, and hands a member's change to its floor; a clear flag is left, with no notice. R192:
the reply bytes are the flag, and for DECLARE on its source, 1 for AUX and 2 for DECLARE; that DECLARE off carries the
flag alone is the model's reading (log 19). -/
def Obligations.DeclareSetsAndClearsTheFlag : Prop :=
  (∀ (h : Header) (leg : Byte) (s : State), s.Ready h → 19 < leg.toNat →
     Completes (.declareOn h leg) s h 0x42 [0x05] s ∧ Completes (.declareOff h leg) s h 0x42 [0x05] s) ∧
  (∀ (h : Header) (leg : Byte) (l : LegId) (s : State), s.Ready h → leg.toNat = l.val →
     (∀ source, (s.leg l).emergency = some source → Completes (.declareOn h leg) s h 0x42
       [0x00, 1, match source with | .aux => 1 | .declare => 2] s) ∧
     ((s.leg l).emergency = none → Completes (.declareOn h leg) s h 0x42 [0x00, 1, 2]
       (((s.modLeg l fun x => { x with emergency := some .declare }).offer (.emergency true .declare) (some l)
         (s.leg l).membership).emergencyChange l))) ∧
  (∀ (h : Header) (leg : Byte) (l : LegId) (s : State), s.Ready h → leg.toNat = l.val →
     ((s.leg l).emergency = none → Completes (.declareOff h leg) s h 0x42 [0x00, 0] s) ∧
     ∀ source, (s.leg l).emergency = some source → Completes (.declareOff h leg) s h 0x42 [0x00, 0]
       (((s.modLeg l fun x => { x with emergency := none }).offer (.emergency false source) (some l)
         (s.leg l).membership).emergencyChange l))

/-- R100, R101, R115: what a change of the flag does on the floor: nothing for a non-member and for a member not queued;
a queued claim is re-placed at its effective priority, with its time and marker, and a caller in emergency then becomes
owner where the owner is not in emergency, which is displaced as R89 and R90 say, and with an owner in emergency nothing
else changes. -/
def Obligations.EmergencyChangeReplacesAQueuedClaim : Prop :=
  ∀ (l : LegId) (s : State),
    ((s.leg l).membership = none → s.emergencyChange l = s) ∧
    ∀ p, (s.leg l).membership = some p →
      ((∀ c ∈ (s.patch p).floor.queue, c.party ≠ .leg l) → s.emergencyChange l = s) ∧
      ∀ (c : Claim) (o : Party), c ∈ (s.patch p).floor.queue → c.party = .leg l →
        ((s.patch p).floor.queue.map Claim.party).Nodup → (s.patch p).floor.owner = some o →
        let emergency : Prop := ∃ m, o = .leg m ∧ (s.leg m).emergency.isSome = true
        ((s.leg l).emergency = none → s.emergencyChange l = s.modPatch p fun x => { x with floor := { x.floor with
          queue := insertClaim { c with priority := (s.leg l).boundPriority }
            (x.floor.queue.filter fun d => d.party ≠ .leg l) } }) ∧
        ((s.leg l).emergency.isSome = true → ¬ emergency →
          ((s.emergencyChange l).patch p).floor.owner = some (.leg l) ∧
          Displaced
            (s.modPatch p fun x => { x with floor := { x.floor with
              queue := insertClaim { c with priority := 15 } (x.floor.queue.filter fun d => d.party ≠ .leg l) } })
            p (.leg l) false c.time (s.emergencyChange l)) ∧
        ((s.leg l).emergency.isSome = true → emergency → s.emergencyChange l = s.modPatch p fun x =>
          { x with floor := { x.floor with
              queue := insertClaim { c with priority := 15 } (x.floor.queue.filter fun d => d.party ≠ .leg l) } })

/-! ## Frames -/

/-- R130, R132, R176: a frame start with no frame in progress advances the time stamp, applies the pending source of
every RESERVED and ACTIVE entry, and takes, chain by chain, the ACTIVE entries with their source blocks; the Clip Player
supplies its block. It counts one millisecond off every running timer of the legs and floors, the confirm window of R17
included, and onto every keying measurement, and moves no machine by that (the model's placing of the count, log 3). On
a part with no leg that listens to its level that is all, and a playback's end is left to its own step. R5: legs that
listen to their level are then taken one after another, those that the command names first and the others ascending (log
8), each as a change of its condition with the peak of its samples; so a qualify time of 0 qualifies at once (log 4).
With one such leg, neither parked nor masked, with qualify times above 0, the comparison with its threshold is written
out. An end that the block has made due is taken before the comparison. That the stamp advances first, then the set is
taken, then the end, then the comparison, is the model's order (log 25). -/
def Obligations.FrameStartTakesTheActiveEntries : Prop :=
  let applied (s : State) (e : EntryId) : Entry := match (s.entry e).state, (s.entry e).pendingSource with
    | .free, _ | .purging, _ => s.entry e
    | _, none => { s.entry e with state := .reserved, source := none }
    | _, some x =>
      if some x = (s.entry e).dest.map Party.leg then { s.entry e with state := .reserved, source := none }
      else { s.entry e with state := .active, source := some x }
  let taken (s : State) (inbound : Vector Block 20) : List Taken :=
    ((List.finRange 12).flatMap fun p => (s.patch p).chain).filterMap fun e =>
      match (applied s e).state, (applied s e).source, (applied s e).dest with
      | .active, some x, some l => some ⟨x, l, (applied s e).gain, match x with
        | .leg m => inbound.get m
        | .clip => s.supplyClip.1⟩
      | _, _, _ => none
  let peak (b : Block) : Nat := (b.toList.map fun y => y.toInt.natAbs).foldl max 0
  let ticked (s : State) (inbound : Vector Block 20) (l : LegId) : Leg :=
    let x := s.leg l
    { x with
      rx := { x.rx with
        riseTimer := x.rx.riseTimer.map (· - 1), dropTimer := x.rx.dropTimer.map (· - 1)
        barTimer := x.rx.barTimer.map (· - 1) }
      tx := { x.tx with
        leadTimer := x.tx.leadTimer.map (· - 1), tailTimer := x.tx.tailTimer.map (· - 1)
        lockoutTimer := x.tx.lockoutTimer.map (· - 1), keyed := x.tx.keyed.map (· + 1)
        confirm := match x.tx.confirm with
          | .off => .off
          | .window n => .window (n - 1)
          | .passed => .passed }
      aux := { x.aux with riseTimer := x.aux.riseTimer.map (· - 1), dropTimer := x.aux.dropTimer.map (· - 1) }
      inputs := { x.inputs with peak := peak (inbound.get l) } }
  (∀ (inbound : Vector Block 20) (order : List LegId) (s : State), s.Settled → s.routes.frame = none →
     s.walk.due = false →
     ∃ t, exec (.frameStart inbound order) s = .next t ∧ t.link.stamp = s.link.stamp + 1 ∧
       ((s.supplyClip.2.context.endDue = none ∨ ∀ l : LegId, l.val < 16 → (s.leg l).config.inputMode = .line) →
         (∀ e, (t.entry e).fixed = (applied s e).fixed) ∧ t.routes.purges = s.routes.purges) ∧
       t.routes.frame = some (taken s inbound) ∧ t.directory = s.directory ∧
       (∀ p, (t.patch p).fixed = (s.patch p).fixed ∧ (t.patch p).chain = (s.patch p).chain) ∧
       ∀ l, (t.leg l).config = (s.leg l).config ∧ (t.leg l).binding = (s.leg l).binding ∧
         (t.leg l).membership = (s.leg l).membership ∧ (t.leg l).out = (s.leg l).out) ∧
  (∀ (inbound : Vector Block 20) (order : List LegId) (s : State), s.Settled → s.routes.frame = none →
     s.walk.due = false →
     let begun : State := { s with
       legs := Vector.ofFn (ticked s inbound)
       patches := Vector.ofFn fun p => { s.patch p with floor := { (s.patch p).floor with
         hangTimer := (s.patch p).floor.hangTimer.map (· - 1), talkTimer := (s.patch p).floor.talkTimer.map (· - 1) } }
       routes := { s.routes with entries := Vector.ofFn (applied s), frame := some (taken s inbound) }
       clips := s.supplyClip.2.clips
       link := { s.link with stamp := s.link.stamp + 1 }
       freeCount := s.supplyClip.2.freeCount }
     ((∀ l : LegId, l.val < 16 → (s.leg l).config.inputMode = .line) →
       exec (.frameStart inbound order) s = .next begun) ∧
     (s.supplyClip.2.context.endDue = none →
       exec (.frameStart inbound order) s = .next
         ((order ++ (List.finRange 20).filter (· ∉ order)).foldl (fun u l =>
           if l.val < 16 ∧ (u.leg l).config.inputMode ≠ .line then u.conditionEvent l else u) begun))) ∧
  (∀ (l : LegId) (u : State), u.Settled →
     exec (.carrierConditionChange l (u.leg l).inputs.carrierHigh) u = .next (u.conditionEvent l)) ∧
  (∀ (inbound : Vector Block 20) (order : List LegId) (v : LegId) (s : State), s.Settled → s.routes.frame = none →
     s.walk.due = false → v.val < 16 → (s.leg v).config.inputMode ≠ .line →
     (∀ l : LegId, l ≠ v → l.val < 16 → (s.leg l).config.inputMode = .line) → (s.leg v).park.parked = false →
     (s.leg v).masked v = false → (s.leg v).config.rise ≠ 0 → (s.leg v).config.drop ≠ 0 →
     s.supplyClip.2.context.endDue = none →
     let x := s.leg v
     let above : Bool := 32768 ^ 20 < peak (inbound.get v) ^ 20 * 10 ^ (-x.config.vox).toNat
     let present : Bool := above &&
       (x.config.inputMode = .vox || x.inputs.carrierHigh != x.config.carrierLow)
     let ticked : Rx := (ticked s inbound v).rx
     ∃ t, exec (.frameStart inbound order) s = .next t ∧
       (t.leg v).rx = (match x.rx.state, present with
         | .idle, true => { ticked with state := .rising, riseTimer := some x.config.rise }
         | .rising, false => { ticked with state := .idle, riseTimer := none }
         | .active, false => { ticked with state := .falling, dropTimer := some x.config.drop }
         | .falling, true => { ticked with state := .active, dropTimer := none }
         | .barred, true => { ticked with barTimer := none, barDropDone := false }
         | .barred, false =>
           if x.rx.barTimer = none ∧ x.rx.barDropDone = false then { ticked with barTimer := some x.config.drop }
           else ticked
         | _, _ => ticked) ∧
       (∀ l, l ≠ v → (t.leg l).rx.state = (s.leg l).rx.state) ∧
       t.link = { s.link with stamp := s.link.stamp + 1 } ∧ t.clips = s.supplyClip.2.clips) ∧
  (∀ (inbound : Vector Block 20) (order : List LegId) (p : PatchId) (r : EndReason) (s : State), s.Settled →
     s.routes.frame = none → s.walk.due = false → (∃ v : LegId, v.val < 16 ∧ (s.leg v).config.inputMode ≠ .line) →
     s.context.patch = some p → s.supplyClip.2.context.endDue = some r →
     ∃ t, exec (.frameStart inbound order) s = .next t ∧
       (s.context.mode = .take → t.context = {} ∧ (t.link.gap = true ∨
         ∃ n ∈ t.link.notices, n.detail = .clip s.context.slot r s.supplyClip.2.context.played)) ∧
       (s.context.mode = .overlay → (∃ e ∈ (s.patch p).chain, (s.entry e).live = true ∧ (s.entry e).tag = some p ∧
           (s.entry e).kind = some .overlay) →
         (∀ q, (s.patch q).floor.owner ≠ some .clip ∧ ∀ c ∈ (s.patch q).floor.queue, c.party ≠ .clip) →
         t.context = { s.supplyClip.2.context with phase := .ending, tone := 0, reason := some r, endDue := none }))

/-- R14, R132, R135: the frame done hands every leg its outbound frame: a console's goes out at once; a radio's enters
the delay line, whose 8 oldest samples leave it, for the radio with the gate open and as silence with it closed. With no
purge outstanding nothing else changes but the note of where the next tick falls (log 7). R138, R139: with purges outstanding all complete: their entries become FREE and
leave their chains, and none is outstanding. -/
def Obligations.FrameDoneHandsOutTheFrames : Prop :=
  (∀ (before : Option Nat) (taken : List Taken) (s : State), s.Settled → s.routes.frame = some taken →
    s.routes.purges = [] →
    ∃ t, exec (.frameDone before) s = .next t ∧
      t = { s with
        legs := t.legs, routes := { s.routes with frame := none }, walk := { s.walk with beforeTick := before } } ∧
      ∀ l, (16 ≤ l.val → t.leg l = { s.leg l with out := mix taken l }) ∧
        (l.val < 16 →
          let line := (s.leg l).tx.line ++ (mix taken l).toList
          t.leg l = { s.leg l with
            tx := { (s.leg l).tx with line := line.drop 8 }
            out := if (s.leg l).tx.state = .on ∨ (s.leg l).tx.state = .tail then
                Vector.ofFn fun i => line.getD i.val 0
              else Vector.replicate 8 0 })) ∧
  ∀ (before : Option Nat) (taken : List Taken) (s : State), s.Settled → s.routes.frame = some taken →
    ∃ t, exec (.frameDone before) s = .next t ∧ t.routes.frame = none ∧ t.routes.purges = [] ∧
      (∀ r ∈ s.routes.purges, ∀ e ∈ r.entries, t.entry e = {} ∧ ∀ p, e ∉ (t.patch p).chain) ∧
      ∀ l, (t.leg l).out =
        if 16 ≤ l.val then mix taken l
        else if (s.leg l).tx.state = .on ∨ (s.leg l).tx.state = .tail then
          Vector.ofFn fun i => ((s.leg l).tx.line ++ (mix taken l).toList).getD i.val 0
        else Vector.replicate 8 0

/-- R134: attenuation by a gain step: the factor's product rounded to the nearest integer, halves away from zero. R135:
a destination's sample is the exact sum of its attenuated samples, limited once; silence with no entry. -/
def Obligations.MixingIsExact : Prop :=
  ((∀ (step factor : Nat) (x : Int),
     (step, factor) ∈ [(0, 10000), (1, 7943), (2, 6310), (3, 5012), (4, 3981), (5, 3162), (6, 2512), (7, 1995),
       (8, 1585), (9, 1259), (10, 1000), (11, 794), (12, 631), (13, 501), (14, 398), (15, 316)] →
     |10000 * attenuate step x - x * factor| ≤ 5000 ∧
     (|10000 * attenuate step x - x * factor| = 5000 → |x| * factor < 10000 * |attenuate step x|)) ∧
   (∀ x, attenuate 0 x = x) ∧ attenuate 15 32767 = 1035 ∧ attenuate 3 32767 = 16423 ∧
   ∀ (src : Party) (l : LegId) (step : Nat) (b : Block) (i : Fin 8), step ≤ 15 →
     ((mix [⟨src, l, step, b⟩] l).get i).toInt = attenuate step (b.get i).toInt) ∧
  (∀ (taken : List Taken) (l : LegId) (i : Fin 8),
     let sum := ((taken.filter fun t => t.dest = l).map fun t => attenuate t.gain (t.block.get i).toInt).sum
     ((-32768 ≤ sum ∧ sum ≤ 32767) → ((mix taken l).get i).toInt = sum) ∧
     (32767 < sum → ((mix taken l).get i).toInt = 32767) ∧
     (sum < -32768 → ((mix taken l).get i).toInt = -32768) ∧
     ((∀ t ∈ taken, t.dest ≠ l) → (mix taken l).get i = 0))

/-! ## Clips -/

/-- R148, R149, R150: the three forms of LOAD on a slot. DEFINE frees the slot's blocks, and takes the lowest free ones
it needs, zeroed, or is refused with MEMORY_FULL, the slot left EMPTY; WRITE writes its samples from the offset on and
no other sample; RELEASE empties the slot, with the ring of a stream slot; a value out of range is refused with RANGE,
and a slot in the wrong state with SLOT_STATE. That an offset above 131,071 is out of range before the slot is looked at
is the model's reading (log 18), and so is the level 0 of a slot that MEMORY_FULL leaves EMPTY (log 33). -/
def Obligations.LoadWritesTheSlots : Prop :=
  (∀ (h : Header) (slot : Byte) (length offset : Word32) (level : Byte) (samples : List Sample) (s : State), s.Ready h →
    (¬ ArgumentsInRange (.loadDefine h slot length level) →
      Completes (.loadDefine h slot length level) s h 0x50 [0x05] s) ∧
    (¬ ArgumentsInRange (.loadWrite h slot offset samples) →
      Completes (.loadWrite h slot offset samples) s h 0x50 [0x05] s) ∧
    (¬ ArgumentsInRange (.loadRelease h slot) → Completes (.loadRelease h slot) s h 0x50 [0x05] s)) ∧
  ∀ (h : Header) (slot : Byte) (n : SlotId) (s : State), s.Ready h → slot.toNat = n.val →
    (∀ (length : Word32) (level : Byte), 1 ≤ length.toNat → length.toNat ≤ 131072 → level.toNat ≤ 15 →
      let i := Instr.loadDefine h slot length level
      let free : List BlockId := (List.finRange 256).filter fun b => decide (∀ m, m ≠ n → b ∉ (s.slot m).blocks)
      let need := (length.toNat + 511) / 512
      ((s.slot n).state ≠ .empty → (s.slot n).state ≠ .ready → Completes i s h 0x50 [0x16] s) ∧
      (((s.slot n).state = .empty ∨ (s.slot n).state = .ready) →
        (free.length < need → Completes i s h 0x50 [0x17]
          (s.modSlot n fun _ => { state := .empty, mode := none, length := 0, blocks := [], level := 0 })) ∧
        (need ≤ free.length → ∃ u : State,
          Completes i s h 0x50 (0x00 :: bytes16 (BitVec.ofNat 16 (free.length - need))) u ∧
          u = { s with clips := { s.clips with slots := u.clips.slots, memory := u.clips.memory } } ∧
          u.slot n = { state := .ready, mode := some .stored, length := length.toNat, blocks := free.take need,
                       level := level.toNat } ∧
          (∀ m, m ≠ n → u.slot m = s.slot m) ∧
          ∀ b k : Nat, k < 512 → u.clips.memory.read (512 * b + k) =
            if ((free.take need).any fun x => x.val = b) then 0 else s.clips.memory.read (512 * b + k)))) ∧
    (∀ (offset : Word32) (samples : List Sample), offset.toNat ≤ 131071 → 1 ≤ samples.length →
      samples.length ≤ 120 →
      let i := Instr.loadWrite h slot offset samples
      ((s.slot n).state ≠ .ready → Completes i s h 0x50 [0x16] s) ∧
      ((s.slot n).state = .ready → (s.slot n).length < offset.toNat + samples.length →
        Completes i s h 0x50 [0x05] s) ∧
      ((s.slot n).state = .ready → offset.toNat + samples.length ≤ (s.slot n).length →
        (s.slot n).length ≤ 512 * (s.slot n).blocks.length → (s.slot n).blocks.Nodup → s.clips.memory.wf →
        ∃ u : State, Completes i s h 0x50 [0x00] u ∧
          u = { s with clips := { s.clips with memory := u.clips.memory } } ∧
          (∀ k, k < samples.length →
            u.clips.memory.read ((s.slot n).address (offset.toNat + k)) = samples.getD k 0) ∧
          ∀ a, (∀ k, k < samples.length → a ≠ (s.slot n).address (offset.toNat + k)) →
            u.clips.memory.read a = s.clips.memory.read a)) ∧
    let i := Instr.loadRelease h slot
    ((s.slot n).state = .empty → Completes i s h 0x50 [0x00] s) ∧
    ((s.slot n).state = .ready → Completes i s h 0x50 [0x00] (s.modSlot n fun _ => {})) ∧
    ((s.slot n).state = .stream → Completes i s h 0x50 [0x00]
      ({ s with clips := { s.clips with ring := [], accepted := 0 } }.modSlot n fun _ => {})) ∧
    (((s.slot n).state = .playing ∨ (s.slot n).state = .waiting) → Completes i s h 0x50 [0x16] s)

/-- R151, R152: STREAM DEFINE makes an EMPTY slot the stream slot, with the ring emptied, while no slot is in STREAM
mode; STREAM DATA, its checks passed in order, appends to the ring and answers with its fill; a value out of range is
refused with RANGE. -/
def Obligations.StreamFillsTheRing : Prop :=
  (∀ (h : Header) (slot : Byte) (length : Word32) (level : Byte) (samples : List Sample) (s : State), s.Ready h →
    (¬ ArgumentsInRange (.streamDefine h slot length level) →
      Completes (.streamDefine h slot length level) s h 0x51 [0x05] s) ∧
    (¬ ArgumentsInRange (.streamData h slot samples) →
      Completes (.streamData h slot samples) s h 0x51 [0x05] s)) ∧
  ∀ (h : Header) (slot : Byte) (n : SlotId) (s : State), s.Ready h → slot.toNat = n.val →
    (∀ (length : Word32) (level : Byte), 1 ≤ length.toNat → level.toNat ≤ 15 →
      let i := Instr.streamDefine h slot length level
      (((s.slot n).state ≠ .empty ∨ ∃ m, (s.slot m).mode = some .stream) → Completes i s h 0x51 [0x16] s) ∧
      ((s.slot n).state = .empty → (∀ m, (s.slot m).mode ≠ some .stream) → Completes i s h 0x51 [0x00]
        ({ s with clips := { s.clips with ring := [], accepted := 0 } }.modSlot n fun _ =>
          { state := .stream, mode := some .stream, length := length.toNat, blocks := [], level := level.toNat }))) ∧
    ∀ samples : List Sample, 1 ≤ samples.length → samples.length ≤ 120 →
      let i := Instr.streamData h slot samples
      let accepts : Prop := (s.slot n).mode = some .stream ∧
        ((s.slot n).state = .stream ∨ (s.slot n).state = .waiting ∨
          ((s.slot n).state = .playing ∧ (s.context.phase = .playing ∨ s.context.phase = .tone)))
      (¬ accepts → Completes i s h 0x51 [0x16] s) ∧
      (accepts → (s.slot n).length < s.clips.accepted + samples.length → Completes i s h 0x51 [0x05] s) ∧
      (accepts → s.clips.accepted + samples.length ≤ (s.slot n).length →
        1024 - s.clips.ring.length < samples.length → Completes i s h 0x51 [0x18] s) ∧
      (accepts → s.clips.accepted + samples.length ≤ (s.slot n).length →
        s.clips.ring.length + samples.length ≤ 1024 →
        Completes i s h 0x51 (0x00 :: bytes16 (BitVec.ofNat 16 (s.clips.ring.length + samples.length)))
          { s with clips := { s.clips with
              ring := s.clips.ring ++ samples, accepted := s.clips.accepted + samples.length } })

/-- R153: the checks of PLAY in order. R154, R102: in TAKE mode the clip waits and claims the floor, and so owns an IDLE
or HANG floor at once and plays, and waits in the queue of a HELD one whose owner it does not preempt. R127, R155: in
OVERLAY mode the lowest FREE entries feed the members and then the monitoring consoles, and the clip plays with the
floor untouched. -/
def Obligations.PlayStartsByItsMode : Prop :=
  ∀ (h : Header) (slot patch mode priority repeats : Byte) (n : SlotId) (p : PatchId) (s : State), s.Ready h →
    slot.toNat = n.val → patch.toNat = p.val + 1 → mode.toNat ≤ 1 → priority.toNat ≤ 14 →
    let i := Instr.play h slot patch mode priority repeats
    let legs : List LegId := (s.patch p).members ++ (s.patch p).monitors.map fun m => m.1
    let free : List EntryId := (List.finRange 40).filter fun e => (s.entry e).state = .free
    let refused (b : Byte) : Prop := Completes i s h 0x52 [b] s
    let playing (phase : Phase) (m : PlayMode) : Context :=
      { phase := phase, slot := n, patch := some p, mode := m, priority := priority.toNat, repeats := repeats.toNat,
        position := 0, played := 0, tone := 0, reason := none }
    (s.context.phase ≠ .none → refused 0x19) ∧
    (s.context.phase = .none → (s.slot n).state ≠ .ready → (s.slot n).state ≠ .stream → refused 0x16) ∧
    (s.context.phase = .none → (s.slot n).state = .stream → repeats ≠ 1 → refused 0x05) ∧
    (s.context.phase = .none → ((s.slot n).state = .ready ∨ ((s.slot n).state = .stream ∧ repeats = 1)) →
      ((s.patch p).state ≠ .active → refused 0x0A) ∧
      ((s.patch p).state = .active → mode = 1 → free.length < legs.length → refused 0x0D) ∧
      ((s.patch p).state = .active → mode = 1 → legs.length ≤ free.length → ∃ u : State,
        Completes i s h 0x52 [0x00, 1, BitVec.ofNat 8 legs.length] u ∧ u.context = playing .playing .overlay ∧
        u.slot n = { s.slot n with state := .playing } ∧ (∀ m, m ≠ n → u.slot m = s.slot m) ∧
        u.patch p = { s.patch p with chain := (s.patch p).chain ++ free.take legs.length } ∧
        (∀ q, q ≠ p → u.patch q = s.patch q) ∧
        (∀ (k : Nat) (l : LegId) (e : EntryId), legs[k]? = some l → free[k]? = some e → u.entry e =
          { state := .reserved, tag := some p, kind := some .overlay, dest := some l, source := none,
            pendingSource := some .clip, gain := (s.slot n).level }) ∧
        (∀ e, e ∉ free.take legs.length → u.entry e = s.entry e) ∧ u.legs = s.legs ∧ u.link = s.link ∧
        u.directory = s.directory ∧ u.clips.memory = s.clips.memory ∧ u.clips.ring = s.clips.ring) ∧
      ((s.patch p).state = .active → mode = 0 →
        let w := (s.modContext fun _ => playing .waiting .take).modSlot n fun x => { x with state := .waiting }
        let u := w.claimArrives p .clip
        Completes i s h 0x52 [0x00, if u.context.phase = .playing then 1 else 0, 0] u) ∧
      ((s.patch p).state = .active → mode = 0 → (s.patch p).floor.state ≠ .held → (s.patch p).floor.queue = [] →
        ∃ u : State, Completes i s h 0x52 [0x00, 1, 0] u ∧ u.context = playing .playing .take ∧
          u.slot n = { s.slot n with state := .playing } ∧ (u.patch p).floor.state = .held ∧
          (u.patch p).floor.owner = some .clip ∧ (u.patch p).floor.talkTimer = none ∧
          (∀ l, (u.leg l).fixed = (s.leg l).fixed) ∧ u.link.quiet = s.link.quiet) ∧
      ((s.patch p).state = .active → mode = 0 → (s.patch p).floor.state = .held →
        (∃ o, (s.patch p).floor.owner = some (.leg o)) → (s.patch p).margin = 0 →
        ∃ u : State, Completes i s h 0x52 [0x00, 0, 0] u ∧ u.context = playing .waiting .take ∧
          u.slot n = { s.slot n with state := .waiting } ∧ (u.patch p).floor.owner = (s.patch p).floor.owner ∧
          (u.patch p).floor.queue = insertClaim ⟨.clip, priority.toNat, ⟨s.link.stamp, s.order⟩, none⟩
            ((s.patch p).floor.queue.filter fun c => c.party ≠ .clip) ∧
          u.legs = s.legs ∧ u.routes = s.routes ∧ u.link.quiet = s.link.quiet))

/-- R133, R156–R158: what the Clip Player supplies to a frame: silence outside PLAYING and TONE; the stored samples from
the position on, within a pass, at its end and across it; the oldest of the ring; at a short ring the underrun with its
cut tone; and the cut tone to its 1,600th sample. In TAKE mode each sample is attenuated by the slot's level. -/
def Obligations.ClipPlayerSuppliesItsBlock : Prop :=
  (∀ s : State, s.context.endDue = none →
    let c := s.context
    let x := s.slot c.slot
    let t := s.supplyClip.2
    let sample (k : Nat) : Sample := s.clips.memory.read (x.address k)
    let level (v : Sample) : Sample := match c.mode with
      | .take => BitVec.ofInt 16 (attenuate x.level v.toInt)
      | .overlay => v
    let supplies (f : Nat → Sample) : Prop := s.supplyClip.1 = Vector.ofFn fun i => level (f i.val)
    ((c.phase = .none ∨ c.phase = .waiting ∨ c.phase = .ending) → s.supplyClip = (silence, s)) ∧
    (c.phase = .playing → x.mode = some .stored → c.position + 8 < x.length →
      supplies (fun i => sample (c.position + i)) ∧
      t.context = { c with position := c.position + 8, played := c.played + 8 }) ∧
    (c.phase = .playing → x.mode = some .stored → c.position < x.length → x.length ≤ c.position + 8 →
      (c.repeats = 0 → supplies (fun i => sample ((c.position + i) % x.length)) ∧
        t.context = { c with position := (c.position + 8) % x.length, played := c.played + 8 }) ∧
      (c.repeats = 1 → supplies (fun i => if c.position + i < x.length then sample (c.position + i) else 0) ∧
        t.context.endDue = some .complete ∧ t.context.position < x.length ∧
        t.context.played = c.played + BitVec.ofNat 32 (x.length - c.position)) ∧
      (2 ≤ c.repeats → 8 ≤ x.length → supplies (fun i => sample ((c.position + i) % x.length)) ∧
        t.context = { c with
          position := (c.position + 8) % x.length, repeats := c.repeats - 1, played := c.played + 8 })) ∧
    (c.phase = .playing → x.mode = some .stream →
      let need := min 8 (x.length - c.played.toNat)
      (need ≤ s.clips.ring.length →
        supplies (fun i => if i < need then s.clips.ring.getD i 0 else 0) ∧
        t.clips.ring = s.clips.ring.drop need ∧ t.context =
          { c with
            played := c.played + BitVec.ofNat 32 need
            endDue := if (c.played + BitVec.ofNat 32 need).toNat = x.length then some .complete else none }) ∧
      (s.clips.ring.length < need → c.tone = 0 →
        supplies (fun i => s.clips.ring.getD i (toneSample (i - s.clips.ring.length))) ∧
        t.clips.ring = [] ∧ t.context =
          { c with
            phase := .tone, tone := 8 - s.clips.ring.length
            played := c.played + BitVec.ofNat 32 s.clips.ring.length })) ∧
    (c.phase = .tone → c.tone ≤ 1600 →
      supplies (fun i => if c.tone + i < 1600 then toneSample (c.tone + i) else 0) ∧ t.context =
        { c with
          tone := min 1600 (c.tone + 8), endDue := if 1600 ≤ c.tone + 8 then some .underrun else none })) ∧
  (List.range 9).map (fun k => (toneSample k).toInt) = [0, 11585, 16384, 11585, 0, -11585, -16384, -11585, 0]

/-- R156–R161, R103: HALT, and the ends a block has made due. R146, R159: the end of a playback clears the context and
restores its slot; of a stream slot it empties the ring and sets the accepted count to 0. With no playback HALT carries reason none. A TAKE end
clears the playback, passes the floor the clip owned without hang, or takes the waiting clip out of the queue, and then
offers the CLIP notice. An OVERLAY end with no frame in progress frees the overlays of the patch and offers the CLIP
notice; in a frame it stands in ENDING with its reason, the overlays PURGING, and a HALT waits; a HALT in ENDING waits
too, for the end already recorded. The frame done completes the end: context and slot, the CLIP notice, and the waiting
HALT's answer. The bytes of the HALT reply are the model's reading (log 15), and so is that CLIP_COMPLETE and
CUT_TONE_END each take any end that is due (logs 5, 6). -/
def Obligations.PlaybacksEnd : Prop :=
  ∀ (h : Header) (p : PatchId) (s : State), s.context.patch = some p →
    let c := s.context
    let cleared := s.clearPlayback
    let notice (r : EndReason) (u : State) : State := u.offer (.clip c.slot r c.played) none (some p)
    let overlay (e : EntryId) : Prop :=
      (s.entry e).live = true ∧ (s.entry e).tag = some p ∧ (s.entry e).kind = some .overlay
    let ending (r : EndReason) : Context := { c with phase := .ending, tone := 0, reason := some r, endDue := none }
    (cleared.context = {} ∧ cleared.slot c.slot = { s.slot c.slot with state := match (s.slot c.slot).mode with
      | some .stored => .ready
      | some .stream => .stream
      | none => (s.slot c.slot).state } ∧ (∀ n, n ≠ c.slot → cleared.slot n = s.slot n) ∧
      ((s.slot c.slot).mode = some .stream → cleared.clips.ring = [] ∧ cleared.clips.accepted = 0) ∧
      ((s.slot c.slot).mode ≠ some .stream →
        cleared.clips.ring = s.clips.ring ∧ cleared.clips.accepted = s.clips.accepted) ∧
      cleared.clips.memory = s.clips.memory ∧ cleared.legs = s.legs ∧ cleared.patches = s.patches ∧
      cleared.routes = s.routes ∧ cleared.link = s.link) ∧
    (∀ u : State, u.Ready h → u.context.phase = .none → Completes (.halt h) u h 0x53 [0x00, 0, 0, 0, 0, 0] u) ∧
    (s.Ready h → c.phase = .waiting → (s.patch p).floor.owner ≠ some .clip → c.mode = .take →
      Completes (.halt h) s h 0x53 ([0x00, 3] ++ bytes32 c.played) (notice .halted (cleared.modPatch p fun x =>
        { x with floor := { x.floor with queue := x.floor.queue.filter fun d => d.party ≠ .clip } }))) ∧
    (s.Ready h → (c.phase = .playing ∨ c.phase = .tone) → c.mode = .take → (s.patch p).floor.owner = some .clip →
      Completes (.halt h) s h 0x53 ([0x00, 3] ++ bytes32 c.played) (notice .halted (cleared.pass p))) ∧
    (s.Ready h → (c.phase = .playing ∨ c.phase = .tone) → c.mode = .overlay → s.routes.frame = none →
      ∃ t, exec (.halt h) s = .next t ∧ t.replies = s.replies ++ replyTo h 0x53 ([0x00, 3] ++ bytes32 c.played) ∧
        t.clips = cleared.clips ∧ t.link.inProgress = none ∧ (∀ e, overlay e → t.entry e = {}) ∧
        t.link.notices = (notice .halted s).link.notices ∧ t.legs = s.legs) ∧
    (s.Ready h → (c.phase = .playing ∨ c.phase = .tone) → c.mode = .overlay → s.routes.frame.isSome = true →
      (∃ e, overlay e) →
      ∃ t, exec (.halt h) s = .next t ∧ t.replies = s.replies ∧ t.link.inProgress = some ⟨.halt, h, .halt⟩ ∧
        t.context = ending .halted ∧ t.link.notices = s.link.notices ∧ (∀ e, overlay e → (t.entry e).state = .purging) ∧
        t.routes.purges = s.routes.purges ++ [⟨.overlayEnd, s.purged (.overlays p)⟩] ∧
        t.routes.frame = s.routes.frame) ∧
    (s.Ready h → c.phase = .ending → c.mode = .overlay →
      exec (.halt h) s = .next { s with link := { s.link with inProgress := some ⟨.halt, h, .halt⟩ } }) ∧
    (∀ (r : EndReason) (purge : Purge) (before : Option Nat), s.Settled → c.phase = .ending → c.reason = some r →
      purge.requester = .overlayEnd → s.routes.purges = [purge] → s.routes.frame.isSome = true →
      ∃ t, exec (.frameDone before) s = .next t ∧ t.clips = cleared.clips ∧
        t.routes.purges = [] ∧ (∀ e ∈ purge.entries, t.entry e = {}) ∧
        (∀ q, (t.patch q).floor = (s.patch q).floor) ∧
        t.link.notices = (notice r s).link.notices ∧
        (s.work ≠ some .halt → t.link.inProgress = s.link.inProgress ∧ t.replies = s.replies) ∧
        (∀ k, s.link.inProgress = some ⟨.halt, k, .halt⟩ → t.link.inProgress = none ∧
          t.replies = s.replies ++ replyTo k 0x53 ([(0x00 : Byte), match r with
            | .complete => 1 | .underrun => 2 | .halted => 3 | .preempted => 4 | .disbanded => 5 | .reset => 6] ++
            bytes32 c.played))) ∧
    (s.resetIsDue = false → c.mode = .take → (s.patch p).floor.owner = some .clip →
      (c.endDue = some .complete → exec .clipComplete s = .next (notice .complete (cleared.pass p))) ∧
      (c.endDue = some .underrun → exec .cutToneEnd s = .next (notice .underrun (cleared.pass p)))) ∧
    (s.resetIsDue = false → c.mode = .overlay → s.routes.frame = none → s.work ≠ some .halt →
      ∀ r, c.endDue = some r →
        ∃ t, exec .clipComplete s = .next t ∧ exec .cutToneEnd s = .next t ∧ t.clips = cleared.clips ∧
          t.link = (notice r s).link ∧ t.legs = s.legs ∧ ∀ e, overlay e → t.entry e = {}) ∧
    (s.resetIsDue = false → c.mode = .overlay → s.routes.frame.isSome = true → (∃ e, overlay e) →
      ∀ r, c.endDue = some r →
        ∃ t, exec .clipComplete s = .next t ∧ exec .cutToneEnd s = .next t ∧ t.context = ending r ∧
          t.link = s.link ∧ t.legs = s.legs ∧ (∀ e, overlay e → (t.entry e).state = .purging) ∧
          t.routes.purges = s.routes.purges ++ [⟨.overlayEnd, s.purged (.overlays p)⟩])

/-! ## Laws of the part -/

/-- R110, R144, R146, R174, R185: every step keeps the Notice Queue, the ring and the reply path in their bounds,
priorities below 15, and every clip block held at most once. R145, R146, R147: and the law of the playback: at most one
slot PLAYING or WAITING, and the samples played of a stream clip within its declared length. Two clauses are no rule of
the manual but the model's choices: the canonical form of its list of clip samples, which `BufferLaw` holds (log 13), and
the level 0 of an EMPTY slot, which `PlaybackLaw` holds (log 33). -/
def Obligations.BoundsAreKept : Prop :=
  (∀ s t : State, step s = .next t → (BufferLaw s → BufferLaw t) ∧ (ReplyLaw s → ReplyLaw t)) ∧
  (∀ s t : State, step s = .next t → (PriorityLaw s → PriorityLaw t) ∧ (BlockLaw s → BlockLaw t)) ∧
  (∀ s t : State, step s = .next t → PlaybackLaw s → PlaybackLaw t)

/-- R53, R52, R54: every step keeps the membership fields and the member lists in agreement, and the monitor lists in
their bounds: consoles, none twice, none a member, and none on more than 4. -/
def Obligations.PatchLawIsKept : Prop :=
  ∀ s t : State, step s = .next t → PatchLaw s → PatchLaw t

/-- R77, R78: with the membership law, every step keeps the law of the floors, and every queue in its order. -/
def Obligations.FloorLawIsKept : Prop :=
  ∀ s t : State, step s = .next t → PatchLaw s → FloorLaw s → FloorLaw t

/-- R123, R126, R130, R52: with the membership law, every step keeps the chains and the route entries in agreement: one
MEMBER entry for each member and one MONITOR entry for each monitoring console, no entry of a FREE patch, none PURGING
between frames, and no ACTIVE entry that feeds its own source. -/
def Obligations.RouteLawIsKept : Prop :=
  ∀ s t : State, step s = .next t → PatchLaw s → RouteLaw s → RouteLaw t

/-- Every law of the part holds in `State.reset`, the part right after power-on strapped with address 1 and rate 0 and
with every input low, which is the model's choice (log 12). -/
def Obligations.LawsHoldAfterPowerOn : Prop :=
  BufferLaw State.reset ∧ ReplyLaw State.reset ∧ PriorityLaw State.reset ∧ BlockLaw State.reset ∧
    PlaybackLaw State.reset ∧
    PatchLaw State.reset ∧ FloorLaw State.reset ∧ RouteLaw State.reset
end

