-- ==== Sys2Proof/Laws/State.lean ====
section
/-! SUPPORT. What each plain update of the state leaves as it was, field by field, and what a reader of one record sees
after it. No proof needs to unfold a record update. -/

namespace Sys2Proof.Machine

variable (s : State)

/-! ### modLeg -/

@[simp] theorem modLeg_pending (l : LegId) (f : Leg → Leg) : (s.modLeg l f).pending = s.pending := rfl
@[simp] theorem modLeg_directory (l : LegId) (f : Leg → Leg) : (s.modLeg l f).directory = s.directory := rfl
@[simp] theorem modLeg_patches (l : LegId) (f : Leg → Leg) : (s.modLeg l f).patches = s.patches := rfl
@[simp] theorem modLeg_routes (l : LegId) (f : Leg → Leg) : (s.modLeg l f).routes = s.routes := rfl
@[simp] theorem modLeg_clips (l : LegId) (f : Leg → Leg) : (s.modLeg l f).clips = s.clips := rfl
@[simp] theorem modLeg_link (l : LegId) (f : Leg → Leg) : (s.modLeg l f).link = s.link := rfl
@[simp] theorem modLeg_order (l : LegId) (f : Leg → Leg) : (s.modLeg l f).order = s.order := rfl
@[simp] theorem modLeg_walk (l : LegId) (f : Leg → Leg) : (s.modLeg l f).walk = s.walk := rfl
@[simp] theorem modLeg_freeCount (l : LegId) (f : Leg → Leg) : (s.modLeg l f).freeCount = s.freeCount := rfl
@[simp] theorem modLeg_patch (l : LegId) (f : Leg → Leg) (p' : PatchId) : (s.modLeg l f).patch p' = s.patch p' :=
  congrArg (fun v : Vector Patch 12 => v.get p') (modLeg_patches s l f)
@[simp] theorem modLeg_entry (l : LegId) (f : Leg → Leg) (e' : EntryId) : (s.modLeg l f).entry e' = s.entry e' :=
  congrArg (fun r : Routes => r.entries.get e') (modLeg_routes s l f)
@[simp] theorem modLeg_slot (l : LegId) (f : Leg → Leg) (n' : SlotId) : (s.modLeg l f).slot n' = s.slot n' :=
  congrArg (fun c : Clips => c.slots.get n') (modLeg_clips s l f)
@[simp] theorem modLeg_context (l : LegId) (f : Leg → Leg) : (s.modLeg l f).context = s.context :=
  congrArg (Clips.context) (modLeg_clips s l f)
@[simp] theorem modLeg_agency (l : LegId) (f : Leg → Leg) (a' : AgencyId) : (s.modLeg l f).agency a' = s.agency a' :=
  congrArg (fun d : Directory => d.agencies.get a') (modLeg_directory s l f)
@[simp] theorem modLeg_planEntry (l : LegId) (f : Leg → Leg) (i' : PlanId) : (s.modLeg l f).planEntry i' = s.planEntry i' :=
  congrArg (fun d : Directory => d.plans.get i') (modLeg_directory s l f)
@[simp] theorem modLeg_now (l : LegId) (f : Leg → Leg) : (s.modLeg l f).now = s.now :=
  congrArg (Link.stamp) (modLeg_link s l f)
@[simp] theorem modLeg_work (l : LegId) (f : Leg → Leg) : (s.modLeg l f).work = s.work :=
  congrArg (fun k : Link => k.inProgress.map InProgress.work) (modLeg_link s l f)

/-! ### mapLegs -/

@[simp] theorem mapLegs_pending (f : LegId → Leg → Leg) : (s.mapLegs f).pending = s.pending := by dsimp only [State.mapLegs]
@[simp] theorem mapLegs_directory (f : LegId → Leg → Leg) : (s.mapLegs f).directory = s.directory := by dsimp only [State.mapLegs]
@[simp] theorem mapLegs_patches (f : LegId → Leg → Leg) : (s.mapLegs f).patches = s.patches := by dsimp only [State.mapLegs]
@[simp] theorem mapLegs_routes (f : LegId → Leg → Leg) : (s.mapLegs f).routes = s.routes := by dsimp only [State.mapLegs]
@[simp] theorem mapLegs_clips (f : LegId → Leg → Leg) : (s.mapLegs f).clips = s.clips := by dsimp only [State.mapLegs]
@[simp] theorem mapLegs_link (f : LegId → Leg → Leg) : (s.mapLegs f).link = s.link := by dsimp only [State.mapLegs]
@[simp] theorem mapLegs_order (f : LegId → Leg → Leg) : (s.mapLegs f).order = s.order := by dsimp only [State.mapLegs]
@[simp] theorem mapLegs_walk (f : LegId → Leg → Leg) : (s.mapLegs f).walk = s.walk := by dsimp only [State.mapLegs]
@[simp] theorem mapLegs_freeCount (f : LegId → Leg → Leg) : (s.mapLegs f).freeCount = s.freeCount := by dsimp only [State.mapLegs]
@[simp] theorem mapLegs_patch (f : LegId → Leg → Leg) (p' : PatchId) : (s.mapLegs f).patch p' = s.patch p' :=
  congrArg (fun v : Vector Patch 12 => v.get p') (mapLegs_patches s f)
@[simp] theorem mapLegs_entry (f : LegId → Leg → Leg) (e' : EntryId) : (s.mapLegs f).entry e' = s.entry e' :=
  congrArg (fun r : Routes => r.entries.get e') (mapLegs_routes s f)
@[simp] theorem mapLegs_slot (f : LegId → Leg → Leg) (n' : SlotId) : (s.mapLegs f).slot n' = s.slot n' :=
  congrArg (fun c : Clips => c.slots.get n') (mapLegs_clips s f)
@[simp] theorem mapLegs_context (f : LegId → Leg → Leg) : (s.mapLegs f).context = s.context :=
  congrArg (Clips.context) (mapLegs_clips s f)
@[simp] theorem mapLegs_agency (f : LegId → Leg → Leg) (a' : AgencyId) : (s.mapLegs f).agency a' = s.agency a' :=
  congrArg (fun d : Directory => d.agencies.get a') (mapLegs_directory s f)
@[simp] theorem mapLegs_planEntry (f : LegId → Leg → Leg) (i' : PlanId) : (s.mapLegs f).planEntry i' = s.planEntry i' :=
  congrArg (fun d : Directory => d.plans.get i') (mapLegs_directory s f)
@[simp] theorem mapLegs_now (f : LegId → Leg → Leg) : (s.mapLegs f).now = s.now :=
  congrArg (Link.stamp) (mapLegs_link s f)
@[simp] theorem mapLegs_work (f : LegId → Leg → Leg) : (s.mapLegs f).work = s.work :=
  congrArg (fun k : Link => k.inProgress.map InProgress.work) (mapLegs_link s f)

/-! ### modPatch -/

@[simp] theorem modPatch_pending (p : PatchId) (f : Patch → Patch) : (s.modPatch p f).pending = s.pending := rfl
@[simp] theorem modPatch_legs (p : PatchId) (f : Patch → Patch) : (s.modPatch p f).legs = s.legs := rfl
@[simp] theorem modPatch_directory (p : PatchId) (f : Patch → Patch) : (s.modPatch p f).directory = s.directory := rfl
@[simp] theorem modPatch_routes (p : PatchId) (f : Patch → Patch) : (s.modPatch p f).routes = s.routes := rfl
@[simp] theorem modPatch_clips (p : PatchId) (f : Patch → Patch) : (s.modPatch p f).clips = s.clips := rfl
@[simp] theorem modPatch_link (p : PatchId) (f : Patch → Patch) : (s.modPatch p f).link = s.link := rfl
@[simp] theorem modPatch_order (p : PatchId) (f : Patch → Patch) : (s.modPatch p f).order = s.order := rfl
@[simp] theorem modPatch_walk (p : PatchId) (f : Patch → Patch) : (s.modPatch p f).walk = s.walk := rfl
@[simp] theorem modPatch_freeCount (p : PatchId) (f : Patch → Patch) : (s.modPatch p f).freeCount = s.freeCount := rfl
@[simp] theorem modPatch_leg (p : PatchId) (f : Patch → Patch) (l' : LegId) : (s.modPatch p f).leg l' = s.leg l' :=
  congrArg (fun v : Vector Leg 20 => v.get l') (modPatch_legs s p f)
@[simp] theorem modPatch_entry (p : PatchId) (f : Patch → Patch) (e' : EntryId) : (s.modPatch p f).entry e' = s.entry e' :=
  congrArg (fun r : Routes => r.entries.get e') (modPatch_routes s p f)
@[simp] theorem modPatch_slot (p : PatchId) (f : Patch → Patch) (n' : SlotId) : (s.modPatch p f).slot n' = s.slot n' :=
  congrArg (fun c : Clips => c.slots.get n') (modPatch_clips s p f)
@[simp] theorem modPatch_context (p : PatchId) (f : Patch → Patch) : (s.modPatch p f).context = s.context :=
  congrArg (Clips.context) (modPatch_clips s p f)
@[simp] theorem modPatch_agency (p : PatchId) (f : Patch → Patch) (a' : AgencyId) : (s.modPatch p f).agency a' = s.agency a' :=
  congrArg (fun d : Directory => d.agencies.get a') (modPatch_directory s p f)
@[simp] theorem modPatch_planEntry (p : PatchId) (f : Patch → Patch) (i' : PlanId) : (s.modPatch p f).planEntry i' = s.planEntry i' :=
  congrArg (fun d : Directory => d.plans.get i') (modPatch_directory s p f)
@[simp] theorem modPatch_now (p : PatchId) (f : Patch → Patch) : (s.modPatch p f).now = s.now :=
  congrArg (Link.stamp) (modPatch_link s p f)
@[simp] theorem modPatch_work (p : PatchId) (f : Patch → Patch) : (s.modPatch p f).work = s.work :=
  congrArg (fun k : Link => k.inProgress.map InProgress.work) (modPatch_link s p f)

/-! ### mapPatches -/

@[simp] theorem mapPatches_pending (f : Patch → Patch) : (s.mapPatches f).pending = s.pending := by dsimp only [State.mapPatches]
@[simp] theorem mapPatches_legs (f : Patch → Patch) : (s.mapPatches f).legs = s.legs := by dsimp only [State.mapPatches]
@[simp] theorem mapPatches_directory (f : Patch → Patch) : (s.mapPatches f).directory = s.directory := by dsimp only [State.mapPatches]
@[simp] theorem mapPatches_routes (f : Patch → Patch) : (s.mapPatches f).routes = s.routes := by dsimp only [State.mapPatches]
@[simp] theorem mapPatches_clips (f : Patch → Patch) : (s.mapPatches f).clips = s.clips := by dsimp only [State.mapPatches]
@[simp] theorem mapPatches_link (f : Patch → Patch) : (s.mapPatches f).link = s.link := by dsimp only [State.mapPatches]
@[simp] theorem mapPatches_order (f : Patch → Patch) : (s.mapPatches f).order = s.order := by dsimp only [State.mapPatches]
@[simp] theorem mapPatches_walk (f : Patch → Patch) : (s.mapPatches f).walk = s.walk := by dsimp only [State.mapPatches]
@[simp] theorem mapPatches_freeCount (f : Patch → Patch) : (s.mapPatches f).freeCount = s.freeCount := by dsimp only [State.mapPatches]
@[simp] theorem mapPatches_leg (f : Patch → Patch) (l' : LegId) : (s.mapPatches f).leg l' = s.leg l' :=
  congrArg (fun v : Vector Leg 20 => v.get l') (mapPatches_legs s f)
@[simp] theorem mapPatches_entry (f : Patch → Patch) (e' : EntryId) : (s.mapPatches f).entry e' = s.entry e' :=
  congrArg (fun r : Routes => r.entries.get e') (mapPatches_routes s f)
@[simp] theorem mapPatches_slot (f : Patch → Patch) (n' : SlotId) : (s.mapPatches f).slot n' = s.slot n' :=
  congrArg (fun c : Clips => c.slots.get n') (mapPatches_clips s f)
@[simp] theorem mapPatches_context (f : Patch → Patch) : (s.mapPatches f).context = s.context :=
  congrArg (Clips.context) (mapPatches_clips s f)
@[simp] theorem mapPatches_agency (f : Patch → Patch) (a' : AgencyId) : (s.mapPatches f).agency a' = s.agency a' :=
  congrArg (fun d : Directory => d.agencies.get a') (mapPatches_directory s f)
@[simp] theorem mapPatches_planEntry (f : Patch → Patch) (i' : PlanId) : (s.mapPatches f).planEntry i' = s.planEntry i' :=
  congrArg (fun d : Directory => d.plans.get i') (mapPatches_directory s f)
@[simp] theorem mapPatches_now (f : Patch → Patch) : (s.mapPatches f).now = s.now :=
  congrArg (Link.stamp) (mapPatches_link s f)
@[simp] theorem mapPatches_work (f : Patch → Patch) : (s.mapPatches f).work = s.work :=
  congrArg (fun k : Link => k.inProgress.map InProgress.work) (mapPatches_link s f)

/-! ### modFloor -/

@[simp] theorem modFloor_pending (p : PatchId) (f : Floor → Floor) : (s.modFloor p f).pending = s.pending := rfl
@[simp] theorem modFloor_legs (p : PatchId) (f : Floor → Floor) : (s.modFloor p f).legs = s.legs := rfl
@[simp] theorem modFloor_directory (p : PatchId) (f : Floor → Floor) : (s.modFloor p f).directory = s.directory := rfl
@[simp] theorem modFloor_routes (p : PatchId) (f : Floor → Floor) : (s.modFloor p f).routes = s.routes := rfl
@[simp] theorem modFloor_clips (p : PatchId) (f : Floor → Floor) : (s.modFloor p f).clips = s.clips := rfl
@[simp] theorem modFloor_link (p : PatchId) (f : Floor → Floor) : (s.modFloor p f).link = s.link := rfl
@[simp] theorem modFloor_order (p : PatchId) (f : Floor → Floor) : (s.modFloor p f).order = s.order := rfl
@[simp] theorem modFloor_walk (p : PatchId) (f : Floor → Floor) : (s.modFloor p f).walk = s.walk := rfl
@[simp] theorem modFloor_freeCount (p : PatchId) (f : Floor → Floor) : (s.modFloor p f).freeCount = s.freeCount := rfl
@[simp] theorem modFloor_leg (p : PatchId) (f : Floor → Floor) (l' : LegId) : (s.modFloor p f).leg l' = s.leg l' :=
  congrArg (fun v : Vector Leg 20 => v.get l') (modFloor_legs s p f)
@[simp] theorem modFloor_entry (p : PatchId) (f : Floor → Floor) (e' : EntryId) : (s.modFloor p f).entry e' = s.entry e' :=
  congrArg (fun r : Routes => r.entries.get e') (modFloor_routes s p f)
@[simp] theorem modFloor_slot (p : PatchId) (f : Floor → Floor) (n' : SlotId) : (s.modFloor p f).slot n' = s.slot n' :=
  congrArg (fun c : Clips => c.slots.get n') (modFloor_clips s p f)
@[simp] theorem modFloor_context (p : PatchId) (f : Floor → Floor) : (s.modFloor p f).context = s.context :=
  congrArg (Clips.context) (modFloor_clips s p f)
@[simp] theorem modFloor_agency (p : PatchId) (f : Floor → Floor) (a' : AgencyId) : (s.modFloor p f).agency a' = s.agency a' :=
  congrArg (fun d : Directory => d.agencies.get a') (modFloor_directory s p f)
@[simp] theorem modFloor_planEntry (p : PatchId) (f : Floor → Floor) (i' : PlanId) : (s.modFloor p f).planEntry i' = s.planEntry i' :=
  congrArg (fun d : Directory => d.plans.get i') (modFloor_directory s p f)
@[simp] theorem modFloor_now (p : PatchId) (f : Floor → Floor) : (s.modFloor p f).now = s.now :=
  congrArg (Link.stamp) (modFloor_link s p f)
@[simp] theorem modFloor_work (p : PatchId) (f : Floor → Floor) : (s.modFloor p f).work = s.work :=
  congrArg (fun k : Link => k.inProgress.map InProgress.work) (modFloor_link s p f)

/-! ### modEntry -/

@[simp] theorem modEntry_pending (e : EntryId) (f : Entry → Entry) : (s.modEntry e f).pending = s.pending := rfl
@[simp] theorem modEntry_legs (e : EntryId) (f : Entry → Entry) : (s.modEntry e f).legs = s.legs := rfl
@[simp] theorem modEntry_directory (e : EntryId) (f : Entry → Entry) : (s.modEntry e f).directory = s.directory := rfl
@[simp] theorem modEntry_patches (e : EntryId) (f : Entry → Entry) : (s.modEntry e f).patches = s.patches := rfl
@[simp] theorem modEntry_clips (e : EntryId) (f : Entry → Entry) : (s.modEntry e f).clips = s.clips := rfl
@[simp] theorem modEntry_link (e : EntryId) (f : Entry → Entry) : (s.modEntry e f).link = s.link := rfl
@[simp] theorem modEntry_order (e : EntryId) (f : Entry → Entry) : (s.modEntry e f).order = s.order := rfl
@[simp] theorem modEntry_walk (e : EntryId) (f : Entry → Entry) : (s.modEntry e f).walk = s.walk := rfl
@[simp] theorem modEntry_freeCount (e : EntryId) (f : Entry → Entry) : (s.modEntry e f).freeCount = s.freeCount := rfl
@[simp] theorem modEntry_leg (e : EntryId) (f : Entry → Entry) (l' : LegId) : (s.modEntry e f).leg l' = s.leg l' :=
  congrArg (fun v : Vector Leg 20 => v.get l') (modEntry_legs s e f)
@[simp] theorem modEntry_patch (e : EntryId) (f : Entry → Entry) (p' : PatchId) : (s.modEntry e f).patch p' = s.patch p' :=
  congrArg (fun v : Vector Patch 12 => v.get p') (modEntry_patches s e f)
@[simp] theorem modEntry_slot (e : EntryId) (f : Entry → Entry) (n' : SlotId) : (s.modEntry e f).slot n' = s.slot n' :=
  congrArg (fun c : Clips => c.slots.get n') (modEntry_clips s e f)
@[simp] theorem modEntry_context (e : EntryId) (f : Entry → Entry) : (s.modEntry e f).context = s.context :=
  congrArg (Clips.context) (modEntry_clips s e f)
@[simp] theorem modEntry_agency (e : EntryId) (f : Entry → Entry) (a' : AgencyId) : (s.modEntry e f).agency a' = s.agency a' :=
  congrArg (fun d : Directory => d.agencies.get a') (modEntry_directory s e f)
@[simp] theorem modEntry_planEntry (e : EntryId) (f : Entry → Entry) (i' : PlanId) : (s.modEntry e f).planEntry i' = s.planEntry i' :=
  congrArg (fun d : Directory => d.plans.get i') (modEntry_directory s e f)
@[simp] theorem modEntry_now (e : EntryId) (f : Entry → Entry) : (s.modEntry e f).now = s.now :=
  congrArg (Link.stamp) (modEntry_link s e f)
@[simp] theorem modEntry_work (e : EntryId) (f : Entry → Entry) : (s.modEntry e f).work = s.work :=
  congrArg (fun k : Link => k.inProgress.map InProgress.work) (modEntry_link s e f)

/-! ### mapEntries -/

@[simp] theorem mapEntries_pending (f : EntryId → Entry → Entry) : (s.mapEntries f).pending = s.pending := by dsimp only [State.mapEntries]
@[simp] theorem mapEntries_legs (f : EntryId → Entry → Entry) : (s.mapEntries f).legs = s.legs := by dsimp only [State.mapEntries]
@[simp] theorem mapEntries_directory (f : EntryId → Entry → Entry) : (s.mapEntries f).directory = s.directory := by dsimp only [State.mapEntries]
@[simp] theorem mapEntries_patches (f : EntryId → Entry → Entry) : (s.mapEntries f).patches = s.patches := by dsimp only [State.mapEntries]
@[simp] theorem mapEntries_clips (f : EntryId → Entry → Entry) : (s.mapEntries f).clips = s.clips := by dsimp only [State.mapEntries]
@[simp] theorem mapEntries_link (f : EntryId → Entry → Entry) : (s.mapEntries f).link = s.link := by dsimp only [State.mapEntries]
@[simp] theorem mapEntries_order (f : EntryId → Entry → Entry) : (s.mapEntries f).order = s.order := by dsimp only [State.mapEntries]
@[simp] theorem mapEntries_walk (f : EntryId → Entry → Entry) : (s.mapEntries f).walk = s.walk := by dsimp only [State.mapEntries]
@[simp] theorem mapEntries_freeCount (f : EntryId → Entry → Entry) : (s.mapEntries f).freeCount = s.freeCount := by dsimp only [State.mapEntries]
@[simp] theorem mapEntries_leg (f : EntryId → Entry → Entry) (l' : LegId) : (s.mapEntries f).leg l' = s.leg l' :=
  congrArg (fun v : Vector Leg 20 => v.get l') (mapEntries_legs s f)
@[simp] theorem mapEntries_patch (f : EntryId → Entry → Entry) (p' : PatchId) : (s.mapEntries f).patch p' = s.patch p' :=
  congrArg (fun v : Vector Patch 12 => v.get p') (mapEntries_patches s f)
@[simp] theorem mapEntries_slot (f : EntryId → Entry → Entry) (n' : SlotId) : (s.mapEntries f).slot n' = s.slot n' :=
  congrArg (fun c : Clips => c.slots.get n') (mapEntries_clips s f)
@[simp] theorem mapEntries_context (f : EntryId → Entry → Entry) : (s.mapEntries f).context = s.context :=
  congrArg (Clips.context) (mapEntries_clips s f)
@[simp] theorem mapEntries_agency (f : EntryId → Entry → Entry) (a' : AgencyId) : (s.mapEntries f).agency a' = s.agency a' :=
  congrArg (fun d : Directory => d.agencies.get a') (mapEntries_directory s f)
@[simp] theorem mapEntries_planEntry (f : EntryId → Entry → Entry) (i' : PlanId) : (s.mapEntries f).planEntry i' = s.planEntry i' :=
  congrArg (fun d : Directory => d.plans.get i') (mapEntries_directory s f)
@[simp] theorem mapEntries_now (f : EntryId → Entry → Entry) : (s.mapEntries f).now = s.now :=
  congrArg (Link.stamp) (mapEntries_link s f)
@[simp] theorem mapEntries_work (f : EntryId → Entry → Entry) : (s.mapEntries f).work = s.work :=
  congrArg (fun k : Link => k.inProgress.map InProgress.work) (mapEntries_link s f)

/-! ### modSlot -/

@[simp] theorem modSlot_pending (n : SlotId) (f : Slot → Slot) : (s.modSlot n f).pending = s.pending := rfl
@[simp] theorem modSlot_legs (n : SlotId) (f : Slot → Slot) : (s.modSlot n f).legs = s.legs := rfl
@[simp] theorem modSlot_directory (n : SlotId) (f : Slot → Slot) : (s.modSlot n f).directory = s.directory := rfl
@[simp] theorem modSlot_patches (n : SlotId) (f : Slot → Slot) : (s.modSlot n f).patches = s.patches := rfl
@[simp] theorem modSlot_routes (n : SlotId) (f : Slot → Slot) : (s.modSlot n f).routes = s.routes := rfl
@[simp] theorem modSlot_link (n : SlotId) (f : Slot → Slot) : (s.modSlot n f).link = s.link := rfl
@[simp] theorem modSlot_order (n : SlotId) (f : Slot → Slot) : (s.modSlot n f).order = s.order := rfl
@[simp] theorem modSlot_walk (n : SlotId) (f : Slot → Slot) : (s.modSlot n f).walk = s.walk := rfl
@[simp] theorem modSlot_freeCount (n : SlotId) (f : Slot → Slot) : (s.modSlot n f).freeCount = s.freeCount := rfl
@[simp] theorem modSlot_leg (n : SlotId) (f : Slot → Slot) (l' : LegId) : (s.modSlot n f).leg l' = s.leg l' :=
  congrArg (fun v : Vector Leg 20 => v.get l') (modSlot_legs s n f)
@[simp] theorem modSlot_patch (n : SlotId) (f : Slot → Slot) (p' : PatchId) : (s.modSlot n f).patch p' = s.patch p' :=
  congrArg (fun v : Vector Patch 12 => v.get p') (modSlot_patches s n f)
@[simp] theorem modSlot_entry (n : SlotId) (f : Slot → Slot) (e' : EntryId) : (s.modSlot n f).entry e' = s.entry e' :=
  congrArg (fun r : Routes => r.entries.get e') (modSlot_routes s n f)
@[simp] theorem modSlot_agency (n : SlotId) (f : Slot → Slot) (a' : AgencyId) : (s.modSlot n f).agency a' = s.agency a' :=
  congrArg (fun d : Directory => d.agencies.get a') (modSlot_directory s n f)
@[simp] theorem modSlot_planEntry (n : SlotId) (f : Slot → Slot) (i' : PlanId) : (s.modSlot n f).planEntry i' = s.planEntry i' :=
  congrArg (fun d : Directory => d.plans.get i') (modSlot_directory s n f)
@[simp] theorem modSlot_now (n : SlotId) (f : Slot → Slot) : (s.modSlot n f).now = s.now :=
  congrArg (Link.stamp) (modSlot_link s n f)
@[simp] theorem modSlot_work (n : SlotId) (f : Slot → Slot) : (s.modSlot n f).work = s.work :=
  congrArg (fun k : Link => k.inProgress.map InProgress.work) (modSlot_link s n f)

/-! ### modContext -/

@[simp] theorem modContext_pending (f : Context → Context) : (s.modContext f).pending = s.pending := rfl
@[simp] theorem modContext_legs (f : Context → Context) : (s.modContext f).legs = s.legs := rfl
@[simp] theorem modContext_directory (f : Context → Context) : (s.modContext f).directory = s.directory := rfl
@[simp] theorem modContext_patches (f : Context → Context) : (s.modContext f).patches = s.patches := rfl
@[simp] theorem modContext_routes (f : Context → Context) : (s.modContext f).routes = s.routes := rfl
@[simp] theorem modContext_link (f : Context → Context) : (s.modContext f).link = s.link := rfl
@[simp] theorem modContext_order (f : Context → Context) : (s.modContext f).order = s.order := rfl
@[simp] theorem modContext_walk (f : Context → Context) : (s.modContext f).walk = s.walk := rfl
@[simp] theorem modContext_freeCount (f : Context → Context) : (s.modContext f).freeCount = s.freeCount := rfl
@[simp] theorem modContext_leg (f : Context → Context) (l' : LegId) : (s.modContext f).leg l' = s.leg l' :=
  congrArg (fun v : Vector Leg 20 => v.get l') (modContext_legs s f)
@[simp] theorem modContext_patch (f : Context → Context) (p' : PatchId) : (s.modContext f).patch p' = s.patch p' :=
  congrArg (fun v : Vector Patch 12 => v.get p') (modContext_patches s f)
@[simp] theorem modContext_entry (f : Context → Context) (e' : EntryId) : (s.modContext f).entry e' = s.entry e' :=
  congrArg (fun r : Routes => r.entries.get e') (modContext_routes s f)
@[simp] theorem modContext_agency (f : Context → Context) (a' : AgencyId) : (s.modContext f).agency a' = s.agency a' :=
  congrArg (fun d : Directory => d.agencies.get a') (modContext_directory s f)
@[simp] theorem modContext_planEntry (f : Context → Context) (i' : PlanId) : (s.modContext f).planEntry i' = s.planEntry i' :=
  congrArg (fun d : Directory => d.plans.get i') (modContext_directory s f)
@[simp] theorem modContext_now (f : Context → Context) : (s.modContext f).now = s.now :=
  congrArg (Link.stamp) (modContext_link s f)
@[simp] theorem modContext_work (f : Context → Context) : (s.modContext f).work = s.work :=
  congrArg (fun k : Link => k.inProgress.map InProgress.work) (modContext_link s f)

/-! ### modAgency -/

@[simp] theorem modAgency_pending (a : AgencyId) (f : Agency → Agency) : (s.modAgency a f).pending = s.pending := rfl
@[simp] theorem modAgency_legs (a : AgencyId) (f : Agency → Agency) : (s.modAgency a f).legs = s.legs := rfl
@[simp] theorem modAgency_patches (a : AgencyId) (f : Agency → Agency) : (s.modAgency a f).patches = s.patches := rfl
@[simp] theorem modAgency_routes (a : AgencyId) (f : Agency → Agency) : (s.modAgency a f).routes = s.routes := rfl
@[simp] theorem modAgency_clips (a : AgencyId) (f : Agency → Agency) : (s.modAgency a f).clips = s.clips := rfl
@[simp] theorem modAgency_link (a : AgencyId) (f : Agency → Agency) : (s.modAgency a f).link = s.link := rfl
@[simp] theorem modAgency_order (a : AgencyId) (f : Agency → Agency) : (s.modAgency a f).order = s.order := rfl
@[simp] theorem modAgency_walk (a : AgencyId) (f : Agency → Agency) : (s.modAgency a f).walk = s.walk := rfl
@[simp] theorem modAgency_freeCount (a : AgencyId) (f : Agency → Agency) : (s.modAgency a f).freeCount = s.freeCount := rfl
@[simp] theorem modAgency_leg (a : AgencyId) (f : Agency → Agency) (l' : LegId) : (s.modAgency a f).leg l' = s.leg l' :=
  congrArg (fun v : Vector Leg 20 => v.get l') (modAgency_legs s a f)
@[simp] theorem modAgency_patch (a : AgencyId) (f : Agency → Agency) (p' : PatchId) : (s.modAgency a f).patch p' = s.patch p' :=
  congrArg (fun v : Vector Patch 12 => v.get p') (modAgency_patches s a f)
@[simp] theorem modAgency_entry (a : AgencyId) (f : Agency → Agency) (e' : EntryId) : (s.modAgency a f).entry e' = s.entry e' :=
  congrArg (fun r : Routes => r.entries.get e') (modAgency_routes s a f)
@[simp] theorem modAgency_slot (a : AgencyId) (f : Agency → Agency) (n' : SlotId) : (s.modAgency a f).slot n' = s.slot n' :=
  congrArg (fun c : Clips => c.slots.get n') (modAgency_clips s a f)
@[simp] theorem modAgency_context (a : AgencyId) (f : Agency → Agency) : (s.modAgency a f).context = s.context :=
  congrArg (Clips.context) (modAgency_clips s a f)
@[simp] theorem modAgency_now (a : AgencyId) (f : Agency → Agency) : (s.modAgency a f).now = s.now :=
  congrArg (Link.stamp) (modAgency_link s a f)
@[simp] theorem modAgency_work (a : AgencyId) (f : Agency → Agency) : (s.modAgency a f).work = s.work :=
  congrArg (fun k : Link => k.inProgress.map InProgress.work) (modAgency_link s a f)

/-! ### setPlan -/

@[simp] theorem setPlan_pending (i : PlanId) (x : PlanEntry) : (s.setPlan i x).pending = s.pending := rfl
@[simp] theorem setPlan_legs (i : PlanId) (x : PlanEntry) : (s.setPlan i x).legs = s.legs := rfl
@[simp] theorem setPlan_patches (i : PlanId) (x : PlanEntry) : (s.setPlan i x).patches = s.patches := rfl
@[simp] theorem setPlan_routes (i : PlanId) (x : PlanEntry) : (s.setPlan i x).routes = s.routes := rfl
@[simp] theorem setPlan_clips (i : PlanId) (x : PlanEntry) : (s.setPlan i x).clips = s.clips := rfl
@[simp] theorem setPlan_link (i : PlanId) (x : PlanEntry) : (s.setPlan i x).link = s.link := rfl
@[simp] theorem setPlan_order (i : PlanId) (x : PlanEntry) : (s.setPlan i x).order = s.order := rfl
@[simp] theorem setPlan_walk (i : PlanId) (x : PlanEntry) : (s.setPlan i x).walk = s.walk := rfl
@[simp] theorem setPlan_freeCount (i : PlanId) (x : PlanEntry) : (s.setPlan i x).freeCount = s.freeCount := rfl
@[simp] theorem setPlan_leg (i : PlanId) (x : PlanEntry) (l' : LegId) : (s.setPlan i x).leg l' = s.leg l' :=
  congrArg (fun v : Vector Leg 20 => v.get l') (setPlan_legs s i x)
@[simp] theorem setPlan_patch (i : PlanId) (x : PlanEntry) (p' : PatchId) : (s.setPlan i x).patch p' = s.patch p' :=
  congrArg (fun v : Vector Patch 12 => v.get p') (setPlan_patches s i x)
@[simp] theorem setPlan_entry (i : PlanId) (x : PlanEntry) (e' : EntryId) : (s.setPlan i x).entry e' = s.entry e' :=
  congrArg (fun r : Routes => r.entries.get e') (setPlan_routes s i x)
@[simp] theorem setPlan_slot (i : PlanId) (x : PlanEntry) (n' : SlotId) : (s.setPlan i x).slot n' = s.slot n' :=
  congrArg (fun c : Clips => c.slots.get n') (setPlan_clips s i x)
@[simp] theorem setPlan_context (i : PlanId) (x : PlanEntry) : (s.setPlan i x).context = s.context :=
  congrArg (Clips.context) (setPlan_clips s i x)
@[simp] theorem setPlan_now (i : PlanId) (x : PlanEntry) : (s.setPlan i x).now = s.now :=
  congrArg (Link.stamp) (setPlan_link s i x)
@[simp] theorem setPlan_work (i : PlanId) (x : PlanEntry) : (s.setPlan i x).work = s.work :=
  congrArg (fun k : Link => k.inProgress.map InProgress.work) (setPlan_link s i x)

/-! ### nextEvent -/

@[simp] theorem nextEvent_pending : (s.nextEvent).pending = s.pending := rfl
@[simp] theorem nextEvent_legs : (s.nextEvent).legs = s.legs := rfl
@[simp] theorem nextEvent_directory : (s.nextEvent).directory = s.directory := rfl
@[simp] theorem nextEvent_patches : (s.nextEvent).patches = s.patches := rfl
@[simp] theorem nextEvent_routes : (s.nextEvent).routes = s.routes := rfl
@[simp] theorem nextEvent_clips : (s.nextEvent).clips = s.clips := rfl
@[simp] theorem nextEvent_link : (s.nextEvent).link = s.link := rfl
@[simp] theorem nextEvent_walk : (s.nextEvent).walk = s.walk := rfl
@[simp] theorem nextEvent_freeCount : (s.nextEvent).freeCount = s.freeCount := rfl
@[simp] theorem nextEvent_leg (l' : LegId) : (s.nextEvent).leg l' = s.leg l' :=
  congrArg (fun v : Vector Leg 20 => v.get l') (nextEvent_legs s)
@[simp] theorem nextEvent_patch (p' : PatchId) : (s.nextEvent).patch p' = s.patch p' :=
  congrArg (fun v : Vector Patch 12 => v.get p') (nextEvent_patches s)
@[simp] theorem nextEvent_entry (e' : EntryId) : (s.nextEvent).entry e' = s.entry e' :=
  congrArg (fun r : Routes => r.entries.get e') (nextEvent_routes s)
@[simp] theorem nextEvent_slot (n' : SlotId) : (s.nextEvent).slot n' = s.slot n' :=
  congrArg (fun c : Clips => c.slots.get n') (nextEvent_clips s)
@[simp] theorem nextEvent_context : (s.nextEvent).context = s.context :=
  congrArg (Clips.context) (nextEvent_clips s)
@[simp] theorem nextEvent_agency (a' : AgencyId) : (s.nextEvent).agency a' = s.agency a' :=
  congrArg (fun d : Directory => d.agencies.get a') (nextEvent_directory s)
@[simp] theorem nextEvent_planEntry (i' : PlanId) : (s.nextEvent).planEntry i' = s.planEntry i' :=
  congrArg (fun d : Directory => d.plans.get i') (nextEvent_directory s)
@[simp] theorem nextEvent_now : (s.nextEvent).now = s.now :=
  congrArg (Link.stamp) (nextEvent_link s)
@[simp] theorem nextEvent_work : (s.nextEvent).work = s.work :=
  congrArg (fun k : Link => k.inProgress.map InProgress.work) (nextEvent_link s)

/-! ### begin -/

@[simp] theorem begin_pending (h : Header) (k : Kind) (w : Work) : (s.begin h k w).pending = s.pending := rfl
@[simp] theorem begin_legs (h : Header) (k : Kind) (w : Work) : (s.begin h k w).legs = s.legs := rfl
@[simp] theorem begin_directory (h : Header) (k : Kind) (w : Work) : (s.begin h k w).directory = s.directory := rfl
@[simp] theorem begin_patches (h : Header) (k : Kind) (w : Work) : (s.begin h k w).patches = s.patches := rfl
@[simp] theorem begin_routes (h : Header) (k : Kind) (w : Work) : (s.begin h k w).routes = s.routes := rfl
@[simp] theorem begin_clips (h : Header) (k : Kind) (w : Work) : (s.begin h k w).clips = s.clips := rfl
@[simp] theorem begin_order (h : Header) (k : Kind) (w : Work) : (s.begin h k w).order = s.order := rfl
@[simp] theorem begin_walk (h : Header) (k : Kind) (w : Work) : (s.begin h k w).walk = s.walk := rfl
@[simp] theorem begin_freeCount (h : Header) (k : Kind) (w : Work) : (s.begin h k w).freeCount = s.freeCount := rfl
@[simp] theorem begin_leg (h : Header) (k : Kind) (w : Work) (l' : LegId) : (s.begin h k w).leg l' = s.leg l' :=
  congrArg (fun v : Vector Leg 20 => v.get l') (begin_legs s h k w)
@[simp] theorem begin_patch (h : Header) (k : Kind) (w : Work) (p' : PatchId) : (s.begin h k w).patch p' = s.patch p' :=
  congrArg (fun v : Vector Patch 12 => v.get p') (begin_patches s h k w)
@[simp] theorem begin_entry (h : Header) (k : Kind) (w : Work) (e' : EntryId) : (s.begin h k w).entry e' = s.entry e' :=
  congrArg (fun r : Routes => r.entries.get e') (begin_routes s h k w)
@[simp] theorem begin_slot (h : Header) (k : Kind) (w : Work) (n' : SlotId) : (s.begin h k w).slot n' = s.slot n' :=
  congrArg (fun c : Clips => c.slots.get n') (begin_clips s h k w)
@[simp] theorem begin_context (h : Header) (k : Kind) (w : Work) : (s.begin h k w).context = s.context :=
  congrArg (Clips.context) (begin_clips s h k w)
@[simp] theorem begin_agency (h : Header) (k : Kind) (w : Work) (a' : AgencyId) : (s.begin h k w).agency a' = s.agency a' :=
  congrArg (fun d : Directory => d.agencies.get a') (begin_directory s h k w)
@[simp] theorem begin_planEntry (h : Header) (k : Kind) (w : Work) (i' : PlanId) : (s.begin h k w).planEntry i' = s.planEntry i' :=
  congrArg (fun d : Directory => d.plans.get i') (begin_directory s h k w)

/-! ### setWork -/

@[simp] theorem setWork_pending (w : Work) : (s.setWork w).pending = s.pending := rfl
@[simp] theorem setWork_legs (w : Work) : (s.setWork w).legs = s.legs := rfl
@[simp] theorem setWork_directory (w : Work) : (s.setWork w).directory = s.directory := rfl
@[simp] theorem setWork_patches (w : Work) : (s.setWork w).patches = s.patches := rfl
@[simp] theorem setWork_routes (w : Work) : (s.setWork w).routes = s.routes := rfl
@[simp] theorem setWork_clips (w : Work) : (s.setWork w).clips = s.clips := rfl
@[simp] theorem setWork_order (w : Work) : (s.setWork w).order = s.order := rfl
@[simp] theorem setWork_walk (w : Work) : (s.setWork w).walk = s.walk := rfl
@[simp] theorem setWork_freeCount (w : Work) : (s.setWork w).freeCount = s.freeCount := rfl
@[simp] theorem setWork_leg (w : Work) (l' : LegId) : (s.setWork w).leg l' = s.leg l' :=
  congrArg (fun v : Vector Leg 20 => v.get l') (setWork_legs s w)
@[simp] theorem setWork_patch (w : Work) (p' : PatchId) : (s.setWork w).patch p' = s.patch p' :=
  congrArg (fun v : Vector Patch 12 => v.get p') (setWork_patches s w)
@[simp] theorem setWork_entry (w : Work) (e' : EntryId) : (s.setWork w).entry e' = s.entry e' :=
  congrArg (fun r : Routes => r.entries.get e') (setWork_routes s w)
@[simp] theorem setWork_slot (w : Work) (n' : SlotId) : (s.setWork w).slot n' = s.slot n' :=
  congrArg (fun c : Clips => c.slots.get n') (setWork_clips s w)
@[simp] theorem setWork_context (w : Work) : (s.setWork w).context = s.context :=
  congrArg (Clips.context) (setWork_clips s w)
@[simp] theorem setWork_agency (w : Work) (a' : AgencyId) : (s.setWork w).agency a' = s.agency a' :=
  congrArg (fun d : Directory => d.agencies.get a') (setWork_directory s w)
@[simp] theorem setWork_planEntry (w : Work) (i' : PlanId) : (s.setWork w).planEntry i' = s.planEntry i' :=
  congrArg (fun d : Directory => d.plans.get i') (setWork_directory s w)

/-! ### waitForTick -/

@[simp] theorem waitForTick_pending (w : Work) : (s.waitForTick w).pending = s.pending := rfl
@[simp] theorem waitForTick_legs (w : Work) : (s.waitForTick w).legs = s.legs := rfl
@[simp] theorem waitForTick_directory (w : Work) : (s.waitForTick w).directory = s.directory := rfl
@[simp] theorem waitForTick_patches (w : Work) : (s.waitForTick w).patches = s.patches := rfl
@[simp] theorem waitForTick_routes (w : Work) : (s.waitForTick w).routes = s.routes := rfl
@[simp] theorem waitForTick_clips (w : Work) : (s.waitForTick w).clips = s.clips := rfl
@[simp] theorem waitForTick_order (w : Work) : (s.waitForTick w).order = s.order := rfl
@[simp] theorem waitForTick_due (w : Work) : (s.waitForTick w).walk.due = true := rfl
@[simp] theorem waitForTick_beforeTick (w : Work) : (s.waitForTick w).walk.beforeTick = s.walk.beforeTick := rfl
@[simp] theorem waitForTick_freeCount (w : Work) : (s.waitForTick w).freeCount = s.freeCount := rfl
@[simp] theorem waitForTick_leg (w : Work) (l' : LegId) : (s.waitForTick w).leg l' = s.leg l' :=
  congrArg (fun v : Vector Leg 20 => v.get l') (waitForTick_legs s w)
@[simp] theorem waitForTick_patch (w : Work) (p' : PatchId) : (s.waitForTick w).patch p' = s.patch p' :=
  congrArg (fun v : Vector Patch 12 => v.get p') (waitForTick_patches s w)
@[simp] theorem waitForTick_entry (w : Work) (e' : EntryId) : (s.waitForTick w).entry e' = s.entry e' :=
  congrArg (fun r : Routes => r.entries.get e') (waitForTick_routes s w)
@[simp] theorem waitForTick_slot (w : Work) (n' : SlotId) : (s.waitForTick w).slot n' = s.slot n' :=
  congrArg (fun c : Clips => c.slots.get n') (waitForTick_clips s w)
@[simp] theorem waitForTick_context (w : Work) : (s.waitForTick w).context = s.context :=
  congrArg (Clips.context) (waitForTick_clips s w)
@[simp] theorem waitForTick_agency (w : Work) (a' : AgencyId) : (s.waitForTick w).agency a' = s.agency a' :=
  congrArg (fun d : Directory => d.agencies.get a') (waitForTick_directory s w)
@[simp] theorem waitForTick_planEntry (w : Work) (i' : PlanId) : (s.waitForTick w).planEntry i' = s.planEntry i' :=
  congrArg (fun d : Directory => d.plans.get i') (waitForTick_directory s w)

/-! ### emptyRing -/

@[simp] theorem emptyRing_pending : (s.emptyRing).pending = s.pending := rfl
@[simp] theorem emptyRing_legs : (s.emptyRing).legs = s.legs := rfl
@[simp] theorem emptyRing_directory : (s.emptyRing).directory = s.directory := rfl
@[simp] theorem emptyRing_patches : (s.emptyRing).patches = s.patches := rfl
@[simp] theorem emptyRing_routes : (s.emptyRing).routes = s.routes := rfl
@[simp] theorem emptyRing_link : (s.emptyRing).link = s.link := rfl
@[simp] theorem emptyRing_order : (s.emptyRing).order = s.order := rfl
@[simp] theorem emptyRing_walk : (s.emptyRing).walk = s.walk := rfl
@[simp] theorem emptyRing_freeCount : (s.emptyRing).freeCount = s.freeCount := rfl
@[simp] theorem emptyRing_leg (l' : LegId) : (s.emptyRing).leg l' = s.leg l' :=
  congrArg (fun v : Vector Leg 20 => v.get l') (emptyRing_legs s)
@[simp] theorem emptyRing_patch (p' : PatchId) : (s.emptyRing).patch p' = s.patch p' :=
  congrArg (fun v : Vector Patch 12 => v.get p') (emptyRing_patches s)
@[simp] theorem emptyRing_entry (e' : EntryId) : (s.emptyRing).entry e' = s.entry e' :=
  congrArg (fun r : Routes => r.entries.get e') (emptyRing_routes s)
@[simp] theorem emptyRing_agency (a' : AgencyId) : (s.emptyRing).agency a' = s.agency a' :=
  congrArg (fun d : Directory => d.agencies.get a') (emptyRing_directory s)
@[simp] theorem emptyRing_planEntry (i' : PlanId) : (s.emptyRing).planEntry i' = s.planEntry i' :=
  congrArg (fun d : Directory => d.plans.get i') (emptyRing_directory s)
@[simp] theorem emptyRing_now : (s.emptyRing).now = s.now :=
  congrArg (Link.stamp) (emptyRing_link s)
@[simp] theorem emptyRing_work : (s.emptyRing).work = s.work :=
  congrArg (fun k : Link => k.inProgress.map InProgress.work) (emptyRing_link s)

/-! ### advanceStamp -/

@[simp] theorem advanceStamp_pending : (s.advanceStamp).pending = s.pending := rfl
@[simp] theorem advanceStamp_legs : (s.advanceStamp).legs = s.legs := rfl
@[simp] theorem advanceStamp_directory : (s.advanceStamp).directory = s.directory := rfl
@[simp] theorem advanceStamp_patches : (s.advanceStamp).patches = s.patches := rfl
@[simp] theorem advanceStamp_routes : (s.advanceStamp).routes = s.routes := rfl
@[simp] theorem advanceStamp_clips : (s.advanceStamp).clips = s.clips := rfl
@[simp] theorem advanceStamp_order : (s.advanceStamp).order = s.order := rfl
@[simp] theorem advanceStamp_walk : (s.advanceStamp).walk = s.walk := rfl
@[simp] theorem advanceStamp_freeCount : (s.advanceStamp).freeCount = s.freeCount := rfl
@[simp] theorem advanceStamp_leg (l' : LegId) : (s.advanceStamp).leg l' = s.leg l' :=
  congrArg (fun v : Vector Leg 20 => v.get l') (advanceStamp_legs s)
@[simp] theorem advanceStamp_patch (p' : PatchId) : (s.advanceStamp).patch p' = s.patch p' :=
  congrArg (fun v : Vector Patch 12 => v.get p') (advanceStamp_patches s)
@[simp] theorem advanceStamp_entry (e' : EntryId) : (s.advanceStamp).entry e' = s.entry e' :=
  congrArg (fun r : Routes => r.entries.get e') (advanceStamp_routes s)
@[simp] theorem advanceStamp_slot (n' : SlotId) : (s.advanceStamp).slot n' = s.slot n' :=
  congrArg (fun c : Clips => c.slots.get n') (advanceStamp_clips s)
@[simp] theorem advanceStamp_context : (s.advanceStamp).context = s.context :=
  congrArg (Clips.context) (advanceStamp_clips s)
@[simp] theorem advanceStamp_agency (a' : AgencyId) : (s.advanceStamp).agency a' = s.agency a' :=
  congrArg (fun d : Directory => d.agencies.get a') (advanceStamp_directory s)
@[simp] theorem advanceStamp_planEntry (i' : PlanId) : (s.advanceStamp).planEntry i' = s.planEntry i' :=
  congrArg (fun d : Directory => d.plans.get i') (advanceStamp_directory s)

/-! ### setReceiver -/

@[simp] theorem setReceiver_pending (r : Receiver) : (s.setReceiver r).pending = s.pending := rfl
@[simp] theorem setReceiver_legs (r : Receiver) : (s.setReceiver r).legs = s.legs := rfl
@[simp] theorem setReceiver_directory (r : Receiver) : (s.setReceiver r).directory = s.directory := rfl
@[simp] theorem setReceiver_patches (r : Receiver) : (s.setReceiver r).patches = s.patches := rfl
@[simp] theorem setReceiver_routes (r : Receiver) : (s.setReceiver r).routes = s.routes := rfl
@[simp] theorem setReceiver_clips (r : Receiver) : (s.setReceiver r).clips = s.clips := rfl
@[simp] theorem setReceiver_order (r : Receiver) : (s.setReceiver r).order = s.order := rfl
@[simp] theorem setReceiver_walk (r : Receiver) : (s.setReceiver r).walk = s.walk := rfl
@[simp] theorem setReceiver_freeCount (r : Receiver) : (s.setReceiver r).freeCount = s.freeCount := rfl
@[simp] theorem setReceiver_leg (r : Receiver) (l' : LegId) : (s.setReceiver r).leg l' = s.leg l' :=
  congrArg (fun v : Vector Leg 20 => v.get l') (setReceiver_legs s r)
@[simp] theorem setReceiver_patch (r : Receiver) (p' : PatchId) : (s.setReceiver r).patch p' = s.patch p' :=
  congrArg (fun v : Vector Patch 12 => v.get p') (setReceiver_patches s r)
@[simp] theorem setReceiver_entry (r : Receiver) (e' : EntryId) : (s.setReceiver r).entry e' = s.entry e' :=
  congrArg (fun r : Routes => r.entries.get e') (setReceiver_routes s r)
@[simp] theorem setReceiver_slot (r : Receiver) (n' : SlotId) : (s.setReceiver r).slot n' = s.slot n' :=
  congrArg (fun c : Clips => c.slots.get n') (setReceiver_clips s r)
@[simp] theorem setReceiver_context (r : Receiver) : (s.setReceiver r).context = s.context :=
  congrArg (Clips.context) (setReceiver_clips s r)
@[simp] theorem setReceiver_agency (r : Receiver) (a' : AgencyId) : (s.setReceiver r).agency a' = s.agency a' :=
  congrArg (fun d : Directory => d.agencies.get a') (setReceiver_directory s r)
@[simp] theorem setReceiver_planEntry (r : Receiver) (i' : PlanId) : (s.setReceiver r).planEntry i' = s.planEntry i' :=
  congrArg (fun d : Directory => d.plans.get i') (setReceiver_directory s r)

/-! ### dropNotices -/

@[simp] theorem dropNotices_pending (n : Nat) : (s.dropNotices n).pending = s.pending := rfl
@[simp] theorem dropNotices_legs (n : Nat) : (s.dropNotices n).legs = s.legs := rfl
@[simp] theorem dropNotices_directory (n : Nat) : (s.dropNotices n).directory = s.directory := rfl
@[simp] theorem dropNotices_patches (n : Nat) : (s.dropNotices n).patches = s.patches := rfl
@[simp] theorem dropNotices_routes (n : Nat) : (s.dropNotices n).routes = s.routes := rfl
@[simp] theorem dropNotices_clips (n : Nat) : (s.dropNotices n).clips = s.clips := rfl
@[simp] theorem dropNotices_order (n : Nat) : (s.dropNotices n).order = s.order := rfl
@[simp] theorem dropNotices_walk (n : Nat) : (s.dropNotices n).walk = s.walk := rfl
@[simp] theorem dropNotices_freeCount (n : Nat) : (s.dropNotices n).freeCount = s.freeCount := rfl
@[simp] theorem dropNotices_leg (n : Nat) (l' : LegId) : (s.dropNotices n).leg l' = s.leg l' :=
  congrArg (fun v : Vector Leg 20 => v.get l') (dropNotices_legs s n)
@[simp] theorem dropNotices_patch (n : Nat) (p' : PatchId) : (s.dropNotices n).patch p' = s.patch p' :=
  congrArg (fun v : Vector Patch 12 => v.get p') (dropNotices_patches s n)
@[simp] theorem dropNotices_entry (n : Nat) (e' : EntryId) : (s.dropNotices n).entry e' = s.entry e' :=
  congrArg (fun r : Routes => r.entries.get e') (dropNotices_routes s n)
@[simp] theorem dropNotices_slot (n : Nat) (n' : SlotId) : (s.dropNotices n).slot n' = s.slot n' :=
  congrArg (fun c : Clips => c.slots.get n') (dropNotices_clips s n)
@[simp] theorem dropNotices_context (n : Nat) : (s.dropNotices n).context = s.context :=
  congrArg (Clips.context) (dropNotices_clips s n)
@[simp] theorem dropNotices_agency (n : Nat) (a' : AgencyId) : (s.dropNotices n).agency a' = s.agency a' :=
  congrArg (fun d : Directory => d.agencies.get a') (dropNotices_directory s n)
@[simp] theorem dropNotices_planEntry (n : Nat) (i' : PlanId) : (s.dropNotices n).planEntry i' = s.planEntry i' :=
  congrArg (fun d : Directory => d.plans.get i') (dropNotices_directory s n)

/-! ### appendRing -/

@[simp] theorem appendRing_pending (xs : List Sample) : (s.appendRing xs).pending = s.pending := rfl
@[simp] theorem appendRing_legs (xs : List Sample) : (s.appendRing xs).legs = s.legs := rfl
@[simp] theorem appendRing_directory (xs : List Sample) : (s.appendRing xs).directory = s.directory := rfl
@[simp] theorem appendRing_patches (xs : List Sample) : (s.appendRing xs).patches = s.patches := rfl
@[simp] theorem appendRing_routes (xs : List Sample) : (s.appendRing xs).routes = s.routes := rfl
@[simp] theorem appendRing_link (xs : List Sample) : (s.appendRing xs).link = s.link := rfl
@[simp] theorem appendRing_order (xs : List Sample) : (s.appendRing xs).order = s.order := rfl
@[simp] theorem appendRing_walk (xs : List Sample) : (s.appendRing xs).walk = s.walk := rfl
@[simp] theorem appendRing_freeCount (xs : List Sample) : (s.appendRing xs).freeCount = s.freeCount := rfl
@[simp] theorem appendRing_leg (xs : List Sample) (l' : LegId) : (s.appendRing xs).leg l' = s.leg l' :=
  congrArg (fun v : Vector Leg 20 => v.get l') (appendRing_legs s xs)
@[simp] theorem appendRing_patch (xs : List Sample) (p' : PatchId) : (s.appendRing xs).patch p' = s.patch p' :=
  congrArg (fun v : Vector Patch 12 => v.get p') (appendRing_patches s xs)
@[simp] theorem appendRing_entry (xs : List Sample) (e' : EntryId) : (s.appendRing xs).entry e' = s.entry e' :=
  congrArg (fun r : Routes => r.entries.get e') (appendRing_routes s xs)
@[simp] theorem appendRing_agency (xs : List Sample) (a' : AgencyId) : (s.appendRing xs).agency a' = s.agency a' :=
  congrArg (fun d : Directory => d.agencies.get a') (appendRing_directory s xs)
@[simp] theorem appendRing_planEntry (xs : List Sample) (i' : PlanId) : (s.appendRing xs).planEntry i' = s.planEntry i' :=
  congrArg (fun d : Directory => d.plans.get i') (appendRing_directory s xs)
@[simp] theorem appendRing_now (xs : List Sample) : (s.appendRing xs).now = s.now :=
  congrArg (Link.stamp) (appendRing_link s xs)
@[simp] theorem appendRing_work (xs : List Sample) : (s.appendRing xs).work = s.work :=
  congrArg (fun k : Link => k.inProgress.map InProgress.work) (appendRing_link s xs)

/-! ### bumpAgencies -/

@[simp] theorem bumpAgencies_pending (xs : List AgencyId) : (s.bumpAgencies xs).pending = s.pending := by dsimp only [State.bumpAgencies]
@[simp] theorem bumpAgencies_legs (xs : List AgencyId) : (s.bumpAgencies xs).legs = s.legs := by dsimp only [State.bumpAgencies]
@[simp] theorem bumpAgencies_patches (xs : List AgencyId) : (s.bumpAgencies xs).patches = s.patches := by dsimp only [State.bumpAgencies]
@[simp] theorem bumpAgencies_routes (xs : List AgencyId) : (s.bumpAgencies xs).routes = s.routes := by dsimp only [State.bumpAgencies]
@[simp] theorem bumpAgencies_clips (xs : List AgencyId) : (s.bumpAgencies xs).clips = s.clips := by dsimp only [State.bumpAgencies]
@[simp] theorem bumpAgencies_link (xs : List AgencyId) : (s.bumpAgencies xs).link = s.link := by dsimp only [State.bumpAgencies]
@[simp] theorem bumpAgencies_order (xs : List AgencyId) : (s.bumpAgencies xs).order = s.order := by dsimp only [State.bumpAgencies]
@[simp] theorem bumpAgencies_walk (xs : List AgencyId) : (s.bumpAgencies xs).walk = s.walk := by dsimp only [State.bumpAgencies]
@[simp] theorem bumpAgencies_freeCount (xs : List AgencyId) : (s.bumpAgencies xs).freeCount = s.freeCount := by dsimp only [State.bumpAgencies]
@[simp] theorem bumpAgencies_leg (xs : List AgencyId) (l' : LegId) : (s.bumpAgencies xs).leg l' = s.leg l' :=
  congrArg (fun v : Vector Leg 20 => v.get l') (bumpAgencies_legs s xs)
@[simp] theorem bumpAgencies_patch (xs : List AgencyId) (p' : PatchId) : (s.bumpAgencies xs).patch p' = s.patch p' :=
  congrArg (fun v : Vector Patch 12 => v.get p') (bumpAgencies_patches s xs)
@[simp] theorem bumpAgencies_entry (xs : List AgencyId) (e' : EntryId) : (s.bumpAgencies xs).entry e' = s.entry e' :=
  congrArg (fun r : Routes => r.entries.get e') (bumpAgencies_routes s xs)
@[simp] theorem bumpAgencies_slot (xs : List AgencyId) (n' : SlotId) : (s.bumpAgencies xs).slot n' = s.slot n' :=
  congrArg (fun c : Clips => c.slots.get n') (bumpAgencies_clips s xs)
@[simp] theorem bumpAgencies_context (xs : List AgencyId) : (s.bumpAgencies xs).context = s.context :=
  congrArg (Clips.context) (bumpAgencies_clips s xs)
@[simp] theorem bumpAgencies_now (xs : List AgencyId) : (s.bumpAgencies xs).now = s.now :=
  congrArg (Link.stamp) (bumpAgencies_link s xs)
@[simp] theorem bumpAgencies_work (xs : List AgencyId) : (s.bumpAgencies xs).work = s.work :=
  congrArg (fun k : Link => k.inProgress.map InProgress.work) (bumpAgencies_link s xs)

/-! ### What is read after a change of one record -/

theorem get_set_same {α : Type} {n : Nat} (v : Vector α n) (i : Fin n) (x : α) : (v.set i x).get i = x := by
  simp [Vector.get_eq_getElem]

theorem get_set_ne {α : Type} {n : Nat} (v : Vector α n) {i j : Fin n} (x : α) (h : j ≠ i) :
    (v.set i x).get j = v.get j := by
  have : i.val ≠ j.val := fun e => h (Fin.ext e.symm)
  simp [Vector.get_eq_getElem, this]

theorem get_ofFn {α : Type} {n : Nat} (f : Fin n → α) (i : Fin n) : (Vector.ofFn f).get i = f i := by
  simp [Vector.get_eq_getElem]

@[simp] theorem leg_modLeg_same (l : LegId) (f : Leg → Leg) : (s.modLeg l f).leg l = f (s.leg l) :=
  get_set_same _ _ _

theorem leg_modLeg_ne {l l' : LegId} (f : Leg → Leg) (h : l' ≠ l) : (s.modLeg l f).leg l' = s.leg l' :=
  get_set_ne _ _ h

@[simp] theorem leg_mapLegs (f : LegId → Leg → Leg) (l : LegId) : (s.mapLegs f).leg l = f l (s.leg l) :=
  get_ofFn _ _

@[simp] theorem patch_modPatch_same (p : PatchId) (f : Patch → Patch) : (s.modPatch p f).patch p = f (s.patch p) :=
  get_set_same _ _ _

theorem patch_modPatch_ne {p p' : PatchId} (f : Patch → Patch) (h : p' ≠ p) :
    (s.modPatch p f).patch p' = s.patch p' :=
  get_set_ne _ _ h

@[simp] theorem patch_mapPatches (f : Patch → Patch) (p : PatchId) : (s.mapPatches f).patch p = f (s.patch p) :=
  get_ofFn _ _

@[simp] theorem patch_modFloor_same (p : PatchId) (f : Floor → Floor) :
    (s.modFloor p f).patch p = { s.patch p with floor := f (s.patch p).floor } := by
  simp [State.modFloor]

theorem patch_modFloor_ne {p p' : PatchId} (f : Floor → Floor) (h : p' ≠ p) :
    (s.modFloor p f).patch p' = s.patch p' := patch_modPatch_ne s _ h

@[simp] theorem entry_modEntry_same (e : EntryId) (f : Entry → Entry) : (s.modEntry e f).entry e = f (s.entry e) :=
  get_set_same _ _ _

theorem entry_modEntry_ne {e e' : EntryId} (f : Entry → Entry) (h : e' ≠ e) :
    (s.modEntry e f).entry e' = s.entry e' :=
  get_set_ne _ _ h

@[simp] theorem entry_mapEntries (f : EntryId → Entry → Entry) (e : EntryId) :
    (s.mapEntries f).entry e = f e (s.entry e) :=
  get_ofFn _ _

@[simp] theorem slot_modSlot_same (n : SlotId) (f : Slot → Slot) : (s.modSlot n f).slot n = f (s.slot n) :=
  get_set_same _ _ _

theorem slot_modSlot_ne {n n' : SlotId} (f : Slot → Slot) (h : n' ≠ n) : (s.modSlot n f).slot n' = s.slot n' :=
  get_set_ne _ _ h

@[simp] theorem agency_modAgency_same (a : AgencyId) (f : Agency → Agency) :
    (s.modAgency a f).agency a = f (s.agency a) :=
  get_set_same _ _ _

theorem agency_modAgency_ne {a a' : AgencyId} (f : Agency → Agency) (h : a' ≠ a) :
    (s.modAgency a f).agency a' = s.agency a' :=
  get_set_ne _ _ h

@[simp] theorem planEntry_setPlan_same (i : PlanId) (x : PlanEntry) : (s.setPlan i x).planEntry i = x :=
  get_set_same _ _ _

theorem planEntry_setPlan_ne {i i' : PlanId} (x : PlanEntry) (h : i' ≠ i) :
    (s.setPlan i x).planEntry i' = s.planEntry i' :=
  get_set_ne _ _ h

@[simp] theorem context_modContext (f : Context → Context) : (s.modContext f).context = f s.context := rfl

@[simp] theorem context_modSlot (n : SlotId) (f : Slot → Slot) : (s.modSlot n f).context = s.context := rfl

@[simp] theorem slot_modContext (f : Context → Context) (n : SlotId) : (s.modContext f).slot n = s.slot n := rfl

@[simp] theorem context_emptyRing : s.emptyRing.context = s.context := rfl

@[simp] theorem slot_emptyRing (n : SlotId) : s.emptyRing.slot n = s.slot n := rfl

@[simp] theorem memory_modSlot (n : SlotId) (f : Slot → Slot) : (s.modSlot n f).clips.memory = s.clips.memory := rfl

@[simp] theorem memory_modContext (f : Context → Context) : (s.modContext f).clips.memory = s.clips.memory := rfl

@[simp] theorem memory_emptyRing : s.emptyRing.clips.memory = s.clips.memory := rfl

@[simp] theorem work_begin (h : Header) (k : Kind) (w : Work) : (s.begin h k w).work = some w := rfl

@[simp] theorem frame_modEntry (e : EntryId) (f : Entry → Entry) : (s.modEntry e f).routes.frame = s.routes.frame := rfl

@[simp] theorem purges_modEntry (e : EntryId) (f : Entry → Entry) :
    (s.modEntry e f).routes.purges = s.routes.purges := rfl

@[simp] theorem frame_mapEntries (f : EntryId → Entry → Entry) :
    (s.mapEntries f).routes.frame = s.routes.frame := by dsimp only [State.mapEntries]

@[simp] theorem purges_mapEntries (f : EntryId → Entry → Entry) :
    (s.mapEntries f).routes.purges = s.routes.purges := by dsimp only [State.mapEntries]

end Sys2Proof.Machine
end

