-- ==== Sys2Proof/Laws/LinkFrame.lean ====
section
/-! SUPPORT. What the offering of notices and the forming of replies leave as it was: everything but the Link Controller. -/

namespace Sys2Proof.Machine

set_option linter.unnecessarySeqFocus false
set_option linter.unusedTactic false
set_option linter.unreachableTactic false

variable (s : State)

@[simp] theorem offer_pending (d : Detail) (l : Option LegId) (p : Option PatchId) : (s.offer d l p).pending = s.pending := by
  unfold State.offer; try dsimp only
  (repeat' split) <;> simp

@[simp] theorem offer_legs (d : Detail) (l : Option LegId) (p : Option PatchId) : (s.offer d l p).legs = s.legs := by
  unfold State.offer; try dsimp only
  (repeat' split) <;> simp

@[simp] theorem offer_directory (d : Detail) (l : Option LegId) (p : Option PatchId) : (s.offer d l p).directory = s.directory := by
  unfold State.offer; try dsimp only
  (repeat' split) <;> simp

@[simp] theorem offer_patches (d : Detail) (l : Option LegId) (p : Option PatchId) : (s.offer d l p).patches = s.patches := by
  unfold State.offer; try dsimp only
  (repeat' split) <;> simp

@[simp] theorem offer_routes (d : Detail) (l : Option LegId) (p : Option PatchId) : (s.offer d l p).routes = s.routes := by
  unfold State.offer; try dsimp only
  (repeat' split) <;> simp

@[simp] theorem offer_clips (d : Detail) (l : Option LegId) (p : Option PatchId) : (s.offer d l p).clips = s.clips := by
  unfold State.offer; try dsimp only
  (repeat' split) <;> simp

@[simp] theorem offer_order (d : Detail) (l : Option LegId) (p : Option PatchId) : (s.offer d l p).order = s.order := by
  unfold State.offer; try dsimp only
  (repeat' split) <;> simp

@[simp] theorem offer_walk (d : Detail) (l : Option LegId) (p : Option PatchId) : (s.offer d l p).walk = s.walk := by
  unfold State.offer; try dsimp only
  (repeat' split) <;> simp

@[simp] theorem offer_freeCount (d : Detail) (l : Option LegId) (p : Option PatchId) : (s.offer d l p).freeCount = s.freeCount := by
  unfold State.offer; try dsimp only
  (repeat' split) <;> simp

@[simp] theorem offer_leg (d : Detail) (l : Option LegId) (p : Option PatchId) (l' : LegId) : (s.offer d l p).leg l' = s.leg l' :=
  congrArg (fun v : Vector Leg 20 => v.get l') (offer_legs s d l p)

@[simp] theorem offer_patch (d : Detail) (l : Option LegId) (p : Option PatchId) (p' : PatchId) : (s.offer d l p).patch p' = s.patch p' :=
  congrArg (fun v : Vector Patch 12 => v.get p') (offer_patches s d l p)

@[simp] theorem offer_entry (d : Detail) (l : Option LegId) (p : Option PatchId) (e' : EntryId) : (s.offer d l p).entry e' = s.entry e' :=
  congrArg (fun r : Routes => r.entries.get e') (offer_routes s d l p)

@[simp] theorem offer_slot (d : Detail) (l : Option LegId) (p : Option PatchId) (n' : SlotId) : (s.offer d l p).slot n' = s.slot n' :=
  congrArg (fun c : Clips => c.slots.get n') (offer_clips s d l p)

@[simp] theorem offer_context (d : Detail) (l : Option LegId) (p : Option PatchId) : (s.offer d l p).context = s.context :=
  congrArg (Clips.context) (offer_clips s d l p)

@[simp] theorem offer_agency (d : Detail) (l : Option LegId) (p : Option PatchId) (a' : AgencyId) : (s.offer d l p).agency a' = s.agency a' :=
  congrArg (fun d : Directory => d.agencies.get a') (offer_directory s d l p)

@[simp] theorem offer_planEntry (d : Detail) (l : Option LegId) (p : Option PatchId) (i' : PlanId) : (s.offer d l p).planEntry i' = s.planEntry i' :=
  congrArg (fun d : Directory => d.plans.get i') (offer_directory s d l p)

@[simp] theorem offerLeg_pending (d : Detail) (l : LegId) : (s.offerLeg d l).pending = s.pending := by
  unfold State.offerLeg; try dsimp only
  (repeat' split) <;> simp

@[simp] theorem offerLeg_legs (d : Detail) (l : LegId) : (s.offerLeg d l).legs = s.legs := by
  unfold State.offerLeg; try dsimp only
  (repeat' split) <;> simp

@[simp] theorem offerLeg_directory (d : Detail) (l : LegId) : (s.offerLeg d l).directory = s.directory := by
  unfold State.offerLeg; try dsimp only
  (repeat' split) <;> simp

@[simp] theorem offerLeg_patches (d : Detail) (l : LegId) : (s.offerLeg d l).patches = s.patches := by
  unfold State.offerLeg; try dsimp only
  (repeat' split) <;> simp

@[simp] theorem offerLeg_routes (d : Detail) (l : LegId) : (s.offerLeg d l).routes = s.routes := by
  unfold State.offerLeg; try dsimp only
  (repeat' split) <;> simp

@[simp] theorem offerLeg_clips (d : Detail) (l : LegId) : (s.offerLeg d l).clips = s.clips := by
  unfold State.offerLeg; try dsimp only
  (repeat' split) <;> simp

@[simp] theorem offerLeg_order (d : Detail) (l : LegId) : (s.offerLeg d l).order = s.order := by
  unfold State.offerLeg; try dsimp only
  (repeat' split) <;> simp

@[simp] theorem offerLeg_walk (d : Detail) (l : LegId) : (s.offerLeg d l).walk = s.walk := by
  unfold State.offerLeg; try dsimp only
  (repeat' split) <;> simp

@[simp] theorem offerLeg_freeCount (d : Detail) (l : LegId) : (s.offerLeg d l).freeCount = s.freeCount := by
  unfold State.offerLeg; try dsimp only
  (repeat' split) <;> simp

@[simp] theorem offerLeg_leg (d : Detail) (l : LegId) (l' : LegId) : (s.offerLeg d l).leg l' = s.leg l' :=
  congrArg (fun v : Vector Leg 20 => v.get l') (offerLeg_legs s d l)

@[simp] theorem offerLeg_patch (d : Detail) (l : LegId) (p' : PatchId) : (s.offerLeg d l).patch p' = s.patch p' :=
  congrArg (fun v : Vector Patch 12 => v.get p') (offerLeg_patches s d l)

@[simp] theorem offerLeg_entry (d : Detail) (l : LegId) (e' : EntryId) : (s.offerLeg d l).entry e' = s.entry e' :=
  congrArg (fun r : Routes => r.entries.get e') (offerLeg_routes s d l)

@[simp] theorem offerLeg_slot (d : Detail) (l : LegId) (n' : SlotId) : (s.offerLeg d l).slot n' = s.slot n' :=
  congrArg (fun c : Clips => c.slots.get n') (offerLeg_clips s d l)

@[simp] theorem offerLeg_context (d : Detail) (l : LegId) : (s.offerLeg d l).context = s.context :=
  congrArg (Clips.context) (offerLeg_clips s d l)

@[simp] theorem offerLeg_agency (d : Detail) (l : LegId) (a' : AgencyId) : (s.offerLeg d l).agency a' = s.agency a' :=
  congrArg (fun d : Directory => d.agencies.get a') (offerLeg_directory s d l)

@[simp] theorem offerLeg_planEntry (d : Detail) (l : LegId) (i' : PlanId) : (s.offerLeg d l).planEntry i' = s.planEntry i' :=
  congrArg (fun d : Directory => d.plans.get i') (offerLeg_directory s d l)

@[simp] theorem offerMasked_pending (d : Detail) (l : LegId) : (s.offerMasked d l).pending = s.pending := by
  unfold State.offerMasked; try dsimp only
  (repeat' split) <;> simp

@[simp] theorem offerMasked_legs (d : Detail) (l : LegId) : (s.offerMasked d l).legs = s.legs := by
  unfold State.offerMasked; try dsimp only
  (repeat' split) <;> simp

@[simp] theorem offerMasked_directory (d : Detail) (l : LegId) : (s.offerMasked d l).directory = s.directory := by
  unfold State.offerMasked; try dsimp only
  (repeat' split) <;> simp

@[simp] theorem offerMasked_patches (d : Detail) (l : LegId) : (s.offerMasked d l).patches = s.patches := by
  unfold State.offerMasked; try dsimp only
  (repeat' split) <;> simp

@[simp] theorem offerMasked_routes (d : Detail) (l : LegId) : (s.offerMasked d l).routes = s.routes := by
  unfold State.offerMasked; try dsimp only
  (repeat' split) <;> simp

@[simp] theorem offerMasked_clips (d : Detail) (l : LegId) : (s.offerMasked d l).clips = s.clips := by
  unfold State.offerMasked; try dsimp only
  (repeat' split) <;> simp

@[simp] theorem offerMasked_order (d : Detail) (l : LegId) : (s.offerMasked d l).order = s.order := by
  unfold State.offerMasked; try dsimp only
  (repeat' split) <;> simp

@[simp] theorem offerMasked_walk (d : Detail) (l : LegId) : (s.offerMasked d l).walk = s.walk := by
  unfold State.offerMasked; try dsimp only
  (repeat' split) <;> simp

@[simp] theorem offerMasked_freeCount (d : Detail) (l : LegId) : (s.offerMasked d l).freeCount = s.freeCount := by
  unfold State.offerMasked; try dsimp only
  (repeat' split) <;> simp

@[simp] theorem offerMasked_leg (d : Detail) (l : LegId) (l' : LegId) : (s.offerMasked d l).leg l' = s.leg l' :=
  congrArg (fun v : Vector Leg 20 => v.get l') (offerMasked_legs s d l)

@[simp] theorem offerMasked_patch (d : Detail) (l : LegId) (p' : PatchId) : (s.offerMasked d l).patch p' = s.patch p' :=
  congrArg (fun v : Vector Patch 12 => v.get p') (offerMasked_patches s d l)

@[simp] theorem offerMasked_entry (d : Detail) (l : LegId) (e' : EntryId) : (s.offerMasked d l).entry e' = s.entry e' :=
  congrArg (fun r : Routes => r.entries.get e') (offerMasked_routes s d l)

@[simp] theorem offerMasked_slot (d : Detail) (l : LegId) (n' : SlotId) : (s.offerMasked d l).slot n' = s.slot n' :=
  congrArg (fun c : Clips => c.slots.get n') (offerMasked_clips s d l)

@[simp] theorem offerMasked_context (d : Detail) (l : LegId) : (s.offerMasked d l).context = s.context :=
  congrArg (Clips.context) (offerMasked_clips s d l)

@[simp] theorem offerMasked_agency (d : Detail) (l : LegId) (a' : AgencyId) : (s.offerMasked d l).agency a' = s.agency a' :=
  congrArg (fun d : Directory => d.agencies.get a') (offerMasked_directory s d l)

@[simp] theorem offerMasked_planEntry (d : Detail) (l : LegId) (i' : PlanId) : (s.offerMasked d l).planEntry i' = s.planEntry i' :=
  congrArg (fun d : Directory => d.plans.get i') (offerMasked_directory s d l)

@[simp] theorem offerFloor_pending (p : PatchId) (v : FloorEvent) (y : Option Party) : (s.offerFloor p v y).pending = s.pending := by
  unfold State.offerFloor; try dsimp only
  (repeat' split) <;> simp

@[simp] theorem offerFloor_legs (p : PatchId) (v : FloorEvent) (y : Option Party) : (s.offerFloor p v y).legs = s.legs := by
  unfold State.offerFloor; try dsimp only
  (repeat' split) <;> simp

@[simp] theorem offerFloor_directory (p : PatchId) (v : FloorEvent) (y : Option Party) : (s.offerFloor p v y).directory = s.directory := by
  unfold State.offerFloor; try dsimp only
  (repeat' split) <;> simp

@[simp] theorem offerFloor_patches (p : PatchId) (v : FloorEvent) (y : Option Party) : (s.offerFloor p v y).patches = s.patches := by
  unfold State.offerFloor; try dsimp only
  (repeat' split) <;> simp

@[simp] theorem offerFloor_routes (p : PatchId) (v : FloorEvent) (y : Option Party) : (s.offerFloor p v y).routes = s.routes := by
  unfold State.offerFloor; try dsimp only
  (repeat' split) <;> simp

@[simp] theorem offerFloor_clips (p : PatchId) (v : FloorEvent) (y : Option Party) : (s.offerFloor p v y).clips = s.clips := by
  unfold State.offerFloor; try dsimp only
  (repeat' split) <;> simp

@[simp] theorem offerFloor_order (p : PatchId) (v : FloorEvent) (y : Option Party) : (s.offerFloor p v y).order = s.order := by
  unfold State.offerFloor; try dsimp only
  (repeat' split) <;> simp

@[simp] theorem offerFloor_walk (p : PatchId) (v : FloorEvent) (y : Option Party) : (s.offerFloor p v y).walk = s.walk := by
  unfold State.offerFloor; try dsimp only
  (repeat' split) <;> simp

@[simp] theorem offerFloor_freeCount (p : PatchId) (v : FloorEvent) (y : Option Party) : (s.offerFloor p v y).freeCount = s.freeCount := by
  unfold State.offerFloor; try dsimp only
  (repeat' split) <;> simp

@[simp] theorem offerFloor_leg (p : PatchId) (v : FloorEvent) (y : Option Party) (l' : LegId) : (s.offerFloor p v y).leg l' = s.leg l' :=
  congrArg (fun v : Vector Leg 20 => v.get l') (offerFloor_legs s p v y)

@[simp] theorem offerFloor_patch (p : PatchId) (v : FloorEvent) (y : Option Party) (p' : PatchId) : (s.offerFloor p v y).patch p' = s.patch p' :=
  congrArg (fun v : Vector Patch 12 => v.get p') (offerFloor_patches s p v y)

@[simp] theorem offerFloor_entry (p : PatchId) (v : FloorEvent) (y : Option Party) (e' : EntryId) : (s.offerFloor p v y).entry e' = s.entry e' :=
  congrArg (fun r : Routes => r.entries.get e') (offerFloor_routes s p v y)

@[simp] theorem offerFloor_slot (p : PatchId) (v : FloorEvent) (y : Option Party) (n' : SlotId) : (s.offerFloor p v y).slot n' = s.slot n' :=
  congrArg (fun c : Clips => c.slots.get n') (offerFloor_clips s p v y)

@[simp] theorem offerFloor_context (p : PatchId) (v : FloorEvent) (y : Option Party) : (s.offerFloor p v y).context = s.context :=
  congrArg (Clips.context) (offerFloor_clips s p v y)

@[simp] theorem offerFloor_agency (p : PatchId) (v : FloorEvent) (y : Option Party) (a' : AgencyId) : (s.offerFloor p v y).agency a' = s.agency a' :=
  congrArg (fun d : Directory => d.agencies.get a') (offerFloor_directory s p v y)

@[simp] theorem offerFloor_planEntry (p : PatchId) (v : FloorEvent) (y : Option Party) (i' : PlanId) : (s.offerFloor p v y).planEntry i' = s.planEntry i' :=
  congrArg (fun d : Directory => d.plans.get i') (offerFloor_directory s p v y)

@[simp] theorem startReply_pending : (s.startReply).pending = s.pending := by
  unfold State.startReply; try dsimp only
  (repeat' split) <;> simp

@[simp] theorem startReply_legs : (s.startReply).legs = s.legs := by
  unfold State.startReply; try dsimp only
  (repeat' split) <;> simp

@[simp] theorem startReply_directory : (s.startReply).directory = s.directory := by
  unfold State.startReply; try dsimp only
  (repeat' split) <;> simp

@[simp] theorem startReply_patches : (s.startReply).patches = s.patches := by
  unfold State.startReply; try dsimp only
  (repeat' split) <;> simp

@[simp] theorem startReply_routes : (s.startReply).routes = s.routes := by
  unfold State.startReply; try dsimp only
  (repeat' split) <;> simp

@[simp] theorem startReply_clips : (s.startReply).clips = s.clips := by
  unfold State.startReply; try dsimp only
  (repeat' split) <;> simp

@[simp] theorem startReply_order : (s.startReply).order = s.order := by
  unfold State.startReply; try dsimp only
  (repeat' split) <;> simp

@[simp] theorem startReply_walk : (s.startReply).walk = s.walk := by
  unfold State.startReply; try dsimp only
  (repeat' split) <;> simp

@[simp] theorem startReply_freeCount : (s.startReply).freeCount = s.freeCount := by
  unfold State.startReply; try dsimp only
  (repeat' split) <;> simp

@[simp] theorem startReply_leg (l' : LegId) : (s.startReply).leg l' = s.leg l' :=
  congrArg (fun v : Vector Leg 20 => v.get l') (startReply_legs s)

@[simp] theorem startReply_patch (p' : PatchId) : (s.startReply).patch p' = s.patch p' :=
  congrArg (fun v : Vector Patch 12 => v.get p') (startReply_patches s)

@[simp] theorem startReply_entry (e' : EntryId) : (s.startReply).entry e' = s.entry e' :=
  congrArg (fun r : Routes => r.entries.get e') (startReply_routes s)

@[simp] theorem startReply_slot (n' : SlotId) : (s.startReply).slot n' = s.slot n' :=
  congrArg (fun c : Clips => c.slots.get n') (startReply_clips s)

@[simp] theorem startReply_context : (s.startReply).context = s.context :=
  congrArg (Clips.context) (startReply_clips s)

@[simp] theorem startReply_agency (a' : AgencyId) : (s.startReply).agency a' = s.agency a' :=
  congrArg (fun d : Directory => d.agencies.get a') (startReply_directory s)

@[simp] theorem startReply_planEntry (i' : PlanId) : (s.startReply).planEntry i' = s.planEntry i' :=
  congrArg (fun d : Directory => d.plans.get i') (startReply_directory s)

@[simp] theorem formReply_pending (r : Reply) : (s.formReply r).pending = s.pending := by
  unfold State.formReply; try dsimp only
  (repeat' split) <;> simp

@[simp] theorem formReply_legs (r : Reply) : (s.formReply r).legs = s.legs := by
  unfold State.formReply; try dsimp only
  (repeat' split) <;> simp

@[simp] theorem formReply_directory (r : Reply) : (s.formReply r).directory = s.directory := by
  unfold State.formReply; try dsimp only
  (repeat' split) <;> simp

@[simp] theorem formReply_patches (r : Reply) : (s.formReply r).patches = s.patches := by
  unfold State.formReply; try dsimp only
  (repeat' split) <;> simp

@[simp] theorem formReply_routes (r : Reply) : (s.formReply r).routes = s.routes := by
  unfold State.formReply; try dsimp only
  (repeat' split) <;> simp

@[simp] theorem formReply_clips (r : Reply) : (s.formReply r).clips = s.clips := by
  unfold State.formReply; try dsimp only
  (repeat' split) <;> simp

@[simp] theorem formReply_order (r : Reply) : (s.formReply r).order = s.order := by
  unfold State.formReply; try dsimp only
  (repeat' split) <;> simp

@[simp] theorem formReply_walk (r : Reply) : (s.formReply r).walk = s.walk := by
  unfold State.formReply; try dsimp only
  (repeat' split) <;> simp

@[simp] theorem formReply_freeCount (r : Reply) : (s.formReply r).freeCount = s.freeCount := by
  unfold State.formReply; try dsimp only
  (repeat' split) <;> simp

@[simp] theorem formReply_leg (r : Reply) (l' : LegId) : (s.formReply r).leg l' = s.leg l' :=
  congrArg (fun v : Vector Leg 20 => v.get l') (formReply_legs s r)

@[simp] theorem formReply_patch (r : Reply) (p' : PatchId) : (s.formReply r).patch p' = s.patch p' :=
  congrArg (fun v : Vector Patch 12 => v.get p') (formReply_patches s r)

@[simp] theorem formReply_entry (r : Reply) (e' : EntryId) : (s.formReply r).entry e' = s.entry e' :=
  congrArg (fun r : Routes => r.entries.get e') (formReply_routes s r)

@[simp] theorem formReply_slot (r : Reply) (n' : SlotId) : (s.formReply r).slot n' = s.slot n' :=
  congrArg (fun c : Clips => c.slots.get n') (formReply_clips s r)

@[simp] theorem formReply_context (r : Reply) : (s.formReply r).context = s.context :=
  congrArg (Clips.context) (formReply_clips s r)

@[simp] theorem formReply_agency (r : Reply) (a' : AgencyId) : (s.formReply r).agency a' = s.agency a' :=
  congrArg (fun d : Directory => d.agencies.get a') (formReply_directory s r)

@[simp] theorem formReply_planEntry (r : Reply) (i' : PlanId) : (s.formReply r).planEntry i' = s.planEntry i' :=
  congrArg (fun d : Directory => d.plans.get i') (formReply_directory s r)

@[simp] theorem answer_pending (h : Header) (k : Byte) (b : List Byte) : (s.answer h k b).pending = s.pending := by
  unfold State.answer; try dsimp only
  (repeat' split) <;> simp

@[simp] theorem answer_legs (h : Header) (k : Byte) (b : List Byte) : (s.answer h k b).legs = s.legs := by
  unfold State.answer; try dsimp only
  (repeat' split) <;> simp

@[simp] theorem answer_directory (h : Header) (k : Byte) (b : List Byte) : (s.answer h k b).directory = s.directory := by
  unfold State.answer; try dsimp only
  (repeat' split) <;> simp

@[simp] theorem answer_patches (h : Header) (k : Byte) (b : List Byte) : (s.answer h k b).patches = s.patches := by
  unfold State.answer; try dsimp only
  (repeat' split) <;> simp

@[simp] theorem answer_routes (h : Header) (k : Byte) (b : List Byte) : (s.answer h k b).routes = s.routes := by
  unfold State.answer; try dsimp only
  (repeat' split) <;> simp

@[simp] theorem answer_clips (h : Header) (k : Byte) (b : List Byte) : (s.answer h k b).clips = s.clips := by
  unfold State.answer; try dsimp only
  (repeat' split) <;> simp

@[simp] theorem answer_order (h : Header) (k : Byte) (b : List Byte) : (s.answer h k b).order = s.order := by
  unfold State.answer; try dsimp only
  (repeat' split) <;> simp

@[simp] theorem answer_walk (h : Header) (k : Byte) (b : List Byte) : (s.answer h k b).walk = s.walk := by
  unfold State.answer; try dsimp only
  (repeat' split) <;> simp

@[simp] theorem answer_freeCount (h : Header) (k : Byte) (b : List Byte) : (s.answer h k b).freeCount = s.freeCount := by
  unfold State.answer; try dsimp only
  (repeat' split) <;> simp

@[simp] theorem answer_leg (h : Header) (k : Byte) (b : List Byte) (l' : LegId) : (s.answer h k b).leg l' = s.leg l' :=
  congrArg (fun v : Vector Leg 20 => v.get l') (answer_legs s h k b)

@[simp] theorem answer_patch (h : Header) (k : Byte) (b : List Byte) (p' : PatchId) : (s.answer h k b).patch p' = s.patch p' :=
  congrArg (fun v : Vector Patch 12 => v.get p') (answer_patches s h k b)

@[simp] theorem answer_entry (h : Header) (k : Byte) (b : List Byte) (e' : EntryId) : (s.answer h k b).entry e' = s.entry e' :=
  congrArg (fun r : Routes => r.entries.get e') (answer_routes s h k b)

@[simp] theorem answer_slot (h : Header) (k : Byte) (b : List Byte) (n' : SlotId) : (s.answer h k b).slot n' = s.slot n' :=
  congrArg (fun c : Clips => c.slots.get n') (answer_clips s h k b)

@[simp] theorem answer_context (h : Header) (k : Byte) (b : List Byte) : (s.answer h k b).context = s.context :=
  congrArg (Clips.context) (answer_clips s h k b)

@[simp] theorem answer_agency (h : Header) (k : Byte) (b : List Byte) (a' : AgencyId) : (s.answer h k b).agency a' = s.agency a' :=
  congrArg (fun d : Directory => d.agencies.get a') (answer_directory s h k b)

@[simp] theorem answer_planEntry (h : Header) (k : Byte) (b : List Byte) (i' : PlanId) : (s.answer h k b).planEntry i' = s.planEntry i' :=
  congrArg (fun d : Directory => d.plans.get i') (answer_directory s h k b)

@[simp] theorem refuse_pending (h : Header) (k : Kind) (r : Result) : (s.refuse h k r).pending = s.pending := by
  unfold State.refuse; try dsimp only
  (repeat' split) <;> simp

@[simp] theorem refuse_legs (h : Header) (k : Kind) (r : Result) : (s.refuse h k r).legs = s.legs := by
  unfold State.refuse; try dsimp only
  (repeat' split) <;> simp

@[simp] theorem refuse_directory (h : Header) (k : Kind) (r : Result) : (s.refuse h k r).directory = s.directory := by
  unfold State.refuse; try dsimp only
  (repeat' split) <;> simp

@[simp] theorem refuse_patches (h : Header) (k : Kind) (r : Result) : (s.refuse h k r).patches = s.patches := by
  unfold State.refuse; try dsimp only
  (repeat' split) <;> simp

@[simp] theorem refuse_routes (h : Header) (k : Kind) (r : Result) : (s.refuse h k r).routes = s.routes := by
  unfold State.refuse; try dsimp only
  (repeat' split) <;> simp

@[simp] theorem refuse_clips (h : Header) (k : Kind) (r : Result) : (s.refuse h k r).clips = s.clips := by
  unfold State.refuse; try dsimp only
  (repeat' split) <;> simp

@[simp] theorem refuse_order (h : Header) (k : Kind) (r : Result) : (s.refuse h k r).order = s.order := by
  unfold State.refuse; try dsimp only
  (repeat' split) <;> simp

@[simp] theorem refuse_walk (h : Header) (k : Kind) (r : Result) : (s.refuse h k r).walk = s.walk := by
  unfold State.refuse; try dsimp only
  (repeat' split) <;> simp

@[simp] theorem refuse_freeCount (h : Header) (k : Kind) (r : Result) : (s.refuse h k r).freeCount = s.freeCount := by
  unfold State.refuse; try dsimp only
  (repeat' split) <;> simp

@[simp] theorem refuse_leg (h : Header) (k : Kind) (r : Result) (l' : LegId) : (s.refuse h k r).leg l' = s.leg l' :=
  congrArg (fun v : Vector Leg 20 => v.get l') (refuse_legs s h k r)

@[simp] theorem refuse_patch (h : Header) (k : Kind) (r : Result) (p' : PatchId) : (s.refuse h k r).patch p' = s.patch p' :=
  congrArg (fun v : Vector Patch 12 => v.get p') (refuse_patches s h k r)

@[simp] theorem refuse_entry (h : Header) (k : Kind) (r : Result) (e' : EntryId) : (s.refuse h k r).entry e' = s.entry e' :=
  congrArg (fun r : Routes => r.entries.get e') (refuse_routes s h k r)

@[simp] theorem refuse_slot (h : Header) (k : Kind) (r : Result) (n' : SlotId) : (s.refuse h k r).slot n' = s.slot n' :=
  congrArg (fun c : Clips => c.slots.get n') (refuse_clips s h k r)

@[simp] theorem refuse_context (h : Header) (k : Kind) (r : Result) : (s.refuse h k r).context = s.context :=
  congrArg (Clips.context) (refuse_clips s h k r)

@[simp] theorem refuse_agency (h : Header) (k : Kind) (r : Result) (a' : AgencyId) : (s.refuse h k r).agency a' = s.agency a' :=
  congrArg (fun d : Directory => d.agencies.get a') (refuse_directory s h k r)

@[simp] theorem refuse_planEntry (h : Header) (k : Kind) (r : Result) (i' : PlanId) : (s.refuse h k r).planEntry i' = s.planEntry i' :=
  congrArg (fun d : Directory => d.plans.get i') (refuse_directory s h k r)

@[simp] theorem grantReply_pending (h : Header) (k : Kind) (b : List Byte) : (s.grantReply h k b).pending = s.pending := by
  unfold State.grantReply; try dsimp only
  (repeat' split) <;> simp

@[simp] theorem grantReply_legs (h : Header) (k : Kind) (b : List Byte) : (s.grantReply h k b).legs = s.legs := by
  unfold State.grantReply; try dsimp only
  (repeat' split) <;> simp

@[simp] theorem grantReply_directory (h : Header) (k : Kind) (b : List Byte) : (s.grantReply h k b).directory = s.directory := by
  unfold State.grantReply; try dsimp only
  (repeat' split) <;> simp

@[simp] theorem grantReply_patches (h : Header) (k : Kind) (b : List Byte) : (s.grantReply h k b).patches = s.patches := by
  unfold State.grantReply; try dsimp only
  (repeat' split) <;> simp

@[simp] theorem grantReply_routes (h : Header) (k : Kind) (b : List Byte) : (s.grantReply h k b).routes = s.routes := by
  unfold State.grantReply; try dsimp only
  (repeat' split) <;> simp

@[simp] theorem grantReply_clips (h : Header) (k : Kind) (b : List Byte) : (s.grantReply h k b).clips = s.clips := by
  unfold State.grantReply; try dsimp only
  (repeat' split) <;> simp

@[simp] theorem grantReply_order (h : Header) (k : Kind) (b : List Byte) : (s.grantReply h k b).order = s.order := by
  unfold State.grantReply; try dsimp only
  (repeat' split) <;> simp

@[simp] theorem grantReply_walk (h : Header) (k : Kind) (b : List Byte) : (s.grantReply h k b).walk = s.walk := by
  unfold State.grantReply; try dsimp only
  (repeat' split) <;> simp

@[simp] theorem grantReply_freeCount (h : Header) (k : Kind) (b : List Byte) : (s.grantReply h k b).freeCount = s.freeCount := by
  unfold State.grantReply; try dsimp only
  (repeat' split) <;> simp

@[simp] theorem grantReply_leg (h : Header) (k : Kind) (b : List Byte) (l' : LegId) : (s.grantReply h k b).leg l' = s.leg l' :=
  congrArg (fun v : Vector Leg 20 => v.get l') (grantReply_legs s h k b)

@[simp] theorem grantReply_patch (h : Header) (k : Kind) (b : List Byte) (p' : PatchId) : (s.grantReply h k b).patch p' = s.patch p' :=
  congrArg (fun v : Vector Patch 12 => v.get p') (grantReply_patches s h k b)

@[simp] theorem grantReply_entry (h : Header) (k : Kind) (b : List Byte) (e' : EntryId) : (s.grantReply h k b).entry e' = s.entry e' :=
  congrArg (fun r : Routes => r.entries.get e') (grantReply_routes s h k b)

@[simp] theorem grantReply_slot (h : Header) (k : Kind) (b : List Byte) (n' : SlotId) : (s.grantReply h k b).slot n' = s.slot n' :=
  congrArg (fun c : Clips => c.slots.get n') (grantReply_clips s h k b)

@[simp] theorem grantReply_context (h : Header) (k : Kind) (b : List Byte) : (s.grantReply h k b).context = s.context :=
  congrArg (Clips.context) (grantReply_clips s h k b)

@[simp] theorem grantReply_agency (h : Header) (k : Kind) (b : List Byte) (a' : AgencyId) : (s.grantReply h k b).agency a' = s.agency a' :=
  congrArg (fun d : Directory => d.agencies.get a') (grantReply_directory s h k b)

@[simp] theorem grantReply_planEntry (h : Header) (k : Kind) (b : List Byte) (i' : PlanId) : (s.grantReply h k b).planEntry i' = s.planEntry i' :=
  congrArg (fun d : Directory => d.plans.get i') (grantReply_directory s h k b)

@[simp] theorem finish_pending (r : Result) (b : List Byte) : (s.finish r b).pending = s.pending := by
  unfold State.finish; try dsimp only
  (repeat' split) <;> simp

@[simp] theorem finish_legs (r : Result) (b : List Byte) : (s.finish r b).legs = s.legs := by
  unfold State.finish; try dsimp only
  (repeat' split) <;> simp

@[simp] theorem finish_directory (r : Result) (b : List Byte) : (s.finish r b).directory = s.directory := by
  unfold State.finish; try dsimp only
  (repeat' split) <;> simp

@[simp] theorem finish_patches (r : Result) (b : List Byte) : (s.finish r b).patches = s.patches := by
  unfold State.finish; try dsimp only
  (repeat' split) <;> simp

@[simp] theorem finish_routes (r : Result) (b : List Byte) : (s.finish r b).routes = s.routes := by
  unfold State.finish; try dsimp only
  (repeat' split) <;> simp

@[simp] theorem finish_clips (r : Result) (b : List Byte) : (s.finish r b).clips = s.clips := by
  unfold State.finish; try dsimp only
  (repeat' split) <;> simp

@[simp] theorem finish_order (r : Result) (b : List Byte) : (s.finish r b).order = s.order := by
  unfold State.finish; try dsimp only
  (repeat' split) <;> simp

@[simp] theorem finish_walk (r : Result) (b : List Byte) : (s.finish r b).walk = s.walk := by
  unfold State.finish; try dsimp only
  (repeat' split) <;> simp

@[simp] theorem finish_freeCount (r : Result) (b : List Byte) : (s.finish r b).freeCount = s.freeCount := by
  unfold State.finish; try dsimp only
  (repeat' split) <;> simp

@[simp] theorem finish_leg (r : Result) (b : List Byte) (l' : LegId) : (s.finish r b).leg l' = s.leg l' :=
  congrArg (fun v : Vector Leg 20 => v.get l') (finish_legs s r b)

@[simp] theorem finish_patch (r : Result) (b : List Byte) (p' : PatchId) : (s.finish r b).patch p' = s.patch p' :=
  congrArg (fun v : Vector Patch 12 => v.get p') (finish_patches s r b)

@[simp] theorem finish_entry (r : Result) (b : List Byte) (e' : EntryId) : (s.finish r b).entry e' = s.entry e' :=
  congrArg (fun r : Routes => r.entries.get e') (finish_routes s r b)

@[simp] theorem finish_slot (r : Result) (b : List Byte) (n' : SlotId) : (s.finish r b).slot n' = s.slot n' :=
  congrArg (fun c : Clips => c.slots.get n') (finish_clips s r b)

@[simp] theorem finish_context (r : Result) (b : List Byte) : (s.finish r b).context = s.context :=
  congrArg (Clips.context) (finish_clips s r b)

@[simp] theorem finish_agency (r : Result) (b : List Byte) (a' : AgencyId) : (s.finish r b).agency a' = s.agency a' :=
  congrArg (fun d : Directory => d.agencies.get a') (finish_directory s r b)

@[simp] theorem finish_planEntry (r : Result) (b : List Byte) (i' : PlanId) : (s.finish r b).planEntry i' = s.planEntry i' :=
  congrArg (fun d : Directory => d.plans.get i') (finish_directory s r b)

@[simp] theorem turnAway_pending (h : Header) (k : Byte) (r : Result) : (s.turnAway h k r).pending = s.pending := by
  unfold State.turnAway; try dsimp only
  (repeat' split) <;> simp

@[simp] theorem turnAway_legs (h : Header) (k : Byte) (r : Result) : (s.turnAway h k r).legs = s.legs := by
  unfold State.turnAway; try dsimp only
  (repeat' split) <;> simp

@[simp] theorem turnAway_directory (h : Header) (k : Byte) (r : Result) : (s.turnAway h k r).directory = s.directory := by
  unfold State.turnAway; try dsimp only
  (repeat' split) <;> simp

@[simp] theorem turnAway_patches (h : Header) (k : Byte) (r : Result) : (s.turnAway h k r).patches = s.patches := by
  unfold State.turnAway; try dsimp only
  (repeat' split) <;> simp

@[simp] theorem turnAway_routes (h : Header) (k : Byte) (r : Result) : (s.turnAway h k r).routes = s.routes := by
  unfold State.turnAway; try dsimp only
  (repeat' split) <;> simp

@[simp] theorem turnAway_clips (h : Header) (k : Byte) (r : Result) : (s.turnAway h k r).clips = s.clips := by
  unfold State.turnAway; try dsimp only
  (repeat' split) <;> simp

@[simp] theorem turnAway_order (h : Header) (k : Byte) (r : Result) : (s.turnAway h k r).order = s.order := by
  unfold State.turnAway; try dsimp only
  (repeat' split) <;> simp

@[simp] theorem turnAway_walk (h : Header) (k : Byte) (r : Result) : (s.turnAway h k r).walk = s.walk := by
  unfold State.turnAway; try dsimp only
  (repeat' split) <;> simp

@[simp] theorem turnAway_freeCount (h : Header) (k : Byte) (r : Result) : (s.turnAway h k r).freeCount = s.freeCount := by
  unfold State.turnAway; try dsimp only
  (repeat' split) <;> simp

@[simp] theorem turnAway_leg (h : Header) (k : Byte) (r : Result) (l' : LegId) : (s.turnAway h k r).leg l' = s.leg l' :=
  congrArg (fun v : Vector Leg 20 => v.get l') (turnAway_legs s h k r)

@[simp] theorem turnAway_patch (h : Header) (k : Byte) (r : Result) (p' : PatchId) : (s.turnAway h k r).patch p' = s.patch p' :=
  congrArg (fun v : Vector Patch 12 => v.get p') (turnAway_patches s h k r)

@[simp] theorem turnAway_entry (h : Header) (k : Byte) (r : Result) (e' : EntryId) : (s.turnAway h k r).entry e' = s.entry e' :=
  congrArg (fun r : Routes => r.entries.get e') (turnAway_routes s h k r)

@[simp] theorem turnAway_slot (h : Header) (k : Byte) (r : Result) (n' : SlotId) : (s.turnAway h k r).slot n' = s.slot n' :=
  congrArg (fun c : Clips => c.slots.get n') (turnAway_clips s h k r)

@[simp] theorem turnAway_context (h : Header) (k : Byte) (r : Result) : (s.turnAway h k r).context = s.context :=
  congrArg (Clips.context) (turnAway_clips s h k r)

@[simp] theorem turnAway_agency (h : Header) (k : Byte) (r : Result) (a' : AgencyId) : (s.turnAway h k r).agency a' = s.agency a' :=
  congrArg (fun d : Directory => d.agencies.get a') (turnAway_directory s h k r)

@[simp] theorem turnAway_planEntry (h : Header) (k : Byte) (r : Result) (i' : PlanId) : (s.turnAway h k r).planEntry i' = s.planEntry i' :=
  congrArg (fun d : Directory => d.plans.get i') (turnAway_directory s h k r)

end Sys2Proof.Machine
end

