-- ==== Sys2Proof/Laws/LegFrame.lean ====
section
/-! SUPPORT. What the operations of the Leg Units leave as it was. -/

namespace Sys2Proof.Machine

set_option linter.unnecessarySeqFocus false
set_option linter.unusedTactic false
set_option linter.unreachableTactic false

variable (s : State)

@[simp] theorem flagRose_pending (l : LegId) : (s.flagRose l).pending = s.pending := by
  unfold State.flagRose; try dsimp only
  (repeat' split) <;> simp

@[simp] theorem flagRose_directory (l : LegId) : (s.flagRose l).directory = s.directory := by
  unfold State.flagRose; try dsimp only
  (repeat' split) <;> simp

@[simp] theorem flagRose_patches (l : LegId) : (s.flagRose l).patches = s.patches := by
  unfold State.flagRose; try dsimp only
  (repeat' split) <;> simp

@[simp] theorem flagRose_routes (l : LegId) : (s.flagRose l).routes = s.routes := by
  unfold State.flagRose; try dsimp only
  (repeat' split) <;> simp

@[simp] theorem flagRose_clips (l : LegId) : (s.flagRose l).clips = s.clips := by
  unfold State.flagRose; try dsimp only
  (repeat' split) <;> simp

@[simp] theorem flagRose_link (l : LegId) : (s.flagRose l).link = s.link := by
  unfold State.flagRose; try dsimp only
  (repeat' split) <;> simp

@[simp] theorem flagRose_order (l : LegId) : (s.flagRose l).order = s.order := by
  unfold State.flagRose; try dsimp only
  (repeat' split) <;> simp

@[simp] theorem flagRose_walk (l : LegId) : (s.flagRose l).walk = s.walk := by
  unfold State.flagRose; try dsimp only
  (repeat' split) <;> simp

@[simp] theorem flagRose_freeCount (l : LegId) : (s.flagRose l).freeCount = s.freeCount := by
  unfold State.flagRose; try dsimp only
  (repeat' split) <;> simp

@[simp] theorem flagRose_patch (l : LegId) (p' : PatchId) : (s.flagRose l).patch p' = s.patch p' :=
  congrArg (fun v : Vector Patch 12 => v.get p') (flagRose_patches s l)

@[simp] theorem flagRose_entry (l : LegId) (e' : EntryId) : (s.flagRose l).entry e' = s.entry e' :=
  congrArg (fun r : Routes => r.entries.get e') (flagRose_routes s l)

@[simp] theorem flagRose_slot (l : LegId) (n' : SlotId) : (s.flagRose l).slot n' = s.slot n' :=
  congrArg (fun c : Clips => c.slots.get n') (flagRose_clips s l)

@[simp] theorem flagRose_context (l : LegId) : (s.flagRose l).context = s.context :=
  congrArg (Clips.context) (flagRose_clips s l)

@[simp] theorem flagRose_agency (l : LegId) (a' : AgencyId) : (s.flagRose l).agency a' = s.agency a' :=
  congrArg (fun d : Directory => d.agencies.get a') (flagRose_directory s l)

@[simp] theorem flagRose_planEntry (l : LegId) (i' : PlanId) : (s.flagRose l).planEntry i' = s.planEntry i' :=
  congrArg (fun d : Directory => d.plans.get i') (flagRose_directory s l)

@[simp] theorem flagRose_now (l : LegId) : (s.flagRose l).now = s.now :=
  congrArg (Link.stamp) (flagRose_link s l)

@[simp] theorem flagRose_work (l : LegId) : (s.flagRose l).work = s.work :=
  congrArg (fun k : Link => k.inProgress.map InProgress.work) (flagRose_link s l)

@[simp] theorem flagFell_pending (l : LegId) : (s.flagFell l).pending = s.pending := by
  unfold State.flagFell; try dsimp only
  (repeat' split) <;> simp

@[simp] theorem flagFell_directory (l : LegId) : (s.flagFell l).directory = s.directory := by
  unfold State.flagFell; try dsimp only
  (repeat' split) <;> simp

@[simp] theorem flagFell_patches (l : LegId) : (s.flagFell l).patches = s.patches := by
  unfold State.flagFell; try dsimp only
  (repeat' split) <;> simp

@[simp] theorem flagFell_routes (l : LegId) : (s.flagFell l).routes = s.routes := by
  unfold State.flagFell; try dsimp only
  (repeat' split) <;> simp

@[simp] theorem flagFell_clips (l : LegId) : (s.flagFell l).clips = s.clips := by
  unfold State.flagFell; try dsimp only
  (repeat' split) <;> simp

@[simp] theorem flagFell_link (l : LegId) : (s.flagFell l).link = s.link := by
  unfold State.flagFell; try dsimp only
  (repeat' split) <;> simp

@[simp] theorem flagFell_order (l : LegId) : (s.flagFell l).order = s.order := by
  unfold State.flagFell; try dsimp only
  (repeat' split) <;> simp

@[simp] theorem flagFell_walk (l : LegId) : (s.flagFell l).walk = s.walk := by
  unfold State.flagFell; try dsimp only
  (repeat' split) <;> simp

@[simp] theorem flagFell_freeCount (l : LegId) : (s.flagFell l).freeCount = s.freeCount := by
  unfold State.flagFell; try dsimp only
  (repeat' split) <;> simp

@[simp] theorem flagFell_patch (l : LegId) (p' : PatchId) : (s.flagFell l).patch p' = s.patch p' :=
  congrArg (fun v : Vector Patch 12 => v.get p') (flagFell_patches s l)

@[simp] theorem flagFell_entry (l : LegId) (e' : EntryId) : (s.flagFell l).entry e' = s.entry e' :=
  congrArg (fun r : Routes => r.entries.get e') (flagFell_routes s l)

@[simp] theorem flagFell_slot (l : LegId) (n' : SlotId) : (s.flagFell l).slot n' = s.slot n' :=
  congrArg (fun c : Clips => c.slots.get n') (flagFell_clips s l)

@[simp] theorem flagFell_context (l : LegId) : (s.flagFell l).context = s.context :=
  congrArg (Clips.context) (flagFell_clips s l)

@[simp] theorem flagFell_agency (l : LegId) (a' : AgencyId) : (s.flagFell l).agency a' = s.agency a' :=
  congrArg (fun d : Directory => d.agencies.get a') (flagFell_directory s l)

@[simp] theorem flagFell_planEntry (l : LegId) (i' : PlanId) : (s.flagFell l).planEntry i' = s.planEntry i' :=
  congrArg (fun d : Directory => d.plans.get i') (flagFell_directory s l)

@[simp] theorem flagFell_now (l : LegId) : (s.flagFell l).now = s.now :=
  congrArg (Link.stamp) (flagFell_link s l)

@[simp] theorem flagFell_work (l : LegId) : (s.flagFell l).work = s.work :=
  congrArg (fun k : Link => k.inProgress.map InProgress.work) (flagFell_link s l)

@[simp] theorem flagAux_pending (l : LegId) : (s.flagAux l).pending = s.pending := by
  unfold State.flagAux; try dsimp only
  (repeat' split) <;> simp

@[simp] theorem flagAux_directory (l : LegId) : (s.flagAux l).directory = s.directory := by
  unfold State.flagAux; try dsimp only
  (repeat' split) <;> simp

@[simp] theorem flagAux_patches (l : LegId) : (s.flagAux l).patches = s.patches := by
  unfold State.flagAux; try dsimp only
  (repeat' split) <;> simp

@[simp] theorem flagAux_routes (l : LegId) : (s.flagAux l).routes = s.routes := by
  unfold State.flagAux; try dsimp only
  (repeat' split) <;> simp

@[simp] theorem flagAux_clips (l : LegId) : (s.flagAux l).clips = s.clips := by
  unfold State.flagAux; try dsimp only
  (repeat' split) <;> simp

@[simp] theorem flagAux_link (l : LegId) : (s.flagAux l).link = s.link := by
  unfold State.flagAux; try dsimp only
  (repeat' split) <;> simp

@[simp] theorem flagAux_order (l : LegId) : (s.flagAux l).order = s.order := by
  unfold State.flagAux; try dsimp only
  (repeat' split) <;> simp

@[simp] theorem flagAux_walk (l : LegId) : (s.flagAux l).walk = s.walk := by
  unfold State.flagAux; try dsimp only
  (repeat' split) <;> simp

@[simp] theorem flagAux_freeCount (l : LegId) : (s.flagAux l).freeCount = s.freeCount := by
  unfold State.flagAux; try dsimp only
  (repeat' split) <;> simp

@[simp] theorem flagAux_patch (l : LegId) (p' : PatchId) : (s.flagAux l).patch p' = s.patch p' :=
  congrArg (fun v : Vector Patch 12 => v.get p') (flagAux_patches s l)

@[simp] theorem flagAux_entry (l : LegId) (e' : EntryId) : (s.flagAux l).entry e' = s.entry e' :=
  congrArg (fun r : Routes => r.entries.get e') (flagAux_routes s l)

@[simp] theorem flagAux_slot (l : LegId) (n' : SlotId) : (s.flagAux l).slot n' = s.slot n' :=
  congrArg (fun c : Clips => c.slots.get n') (flagAux_clips s l)

@[simp] theorem flagAux_context (l : LegId) : (s.flagAux l).context = s.context :=
  congrArg (Clips.context) (flagAux_clips s l)

@[simp] theorem flagAux_agency (l : LegId) (a' : AgencyId) : (s.flagAux l).agency a' = s.agency a' :=
  congrArg (fun d : Directory => d.agencies.get a') (flagAux_directory s l)

@[simp] theorem flagAux_planEntry (l : LegId) (i' : PlanId) : (s.flagAux l).planEntry i' = s.planEntry i' :=
  congrArg (fun d : Directory => d.plans.get i') (flagAux_directory s l)

@[simp] theorem flagAux_now (l : LegId) : (s.flagAux l).now = s.now :=
  congrArg (Link.stamp) (flagAux_link s l)

@[simp] theorem flagAux_work (l : LegId) : (s.flagAux l).work = s.work :=
  congrArg (fun k : Link => k.inProgress.map InProgress.work) (flagAux_link s l)

@[simp] theorem flagTransmit_pending (l : LegId) : (s.flagTransmit l).pending = s.pending := by
  unfold State.flagTransmit; try dsimp only
  (repeat' split) <;> simp

@[simp] theorem flagTransmit_directory (l : LegId) : (s.flagTransmit l).directory = s.directory := by
  unfold State.flagTransmit; try dsimp only
  (repeat' split) <;> simp

@[simp] theorem flagTransmit_patches (l : LegId) : (s.flagTransmit l).patches = s.patches := by
  unfold State.flagTransmit; try dsimp only
  (repeat' split) <;> simp

@[simp] theorem flagTransmit_routes (l : LegId) : (s.flagTransmit l).routes = s.routes := by
  unfold State.flagTransmit; try dsimp only
  (repeat' split) <;> simp

@[simp] theorem flagTransmit_clips (l : LegId) : (s.flagTransmit l).clips = s.clips := by
  unfold State.flagTransmit; try dsimp only
  (repeat' split) <;> simp

@[simp] theorem flagTransmit_link (l : LegId) : (s.flagTransmit l).link = s.link := by
  unfold State.flagTransmit; try dsimp only
  (repeat' split) <;> simp

@[simp] theorem flagTransmit_order (l : LegId) : (s.flagTransmit l).order = s.order := by
  unfold State.flagTransmit; try dsimp only
  (repeat' split) <;> simp

@[simp] theorem flagTransmit_walk (l : LegId) : (s.flagTransmit l).walk = s.walk := by
  unfold State.flagTransmit; try dsimp only
  (repeat' split) <;> simp

@[simp] theorem flagTransmit_freeCount (l : LegId) : (s.flagTransmit l).freeCount = s.freeCount := by
  unfold State.flagTransmit; try dsimp only
  (repeat' split) <;> simp

@[simp] theorem flagTransmit_patch (l : LegId) (p' : PatchId) : (s.flagTransmit l).patch p' = s.patch p' :=
  congrArg (fun v : Vector Patch 12 => v.get p') (flagTransmit_patches s l)

@[simp] theorem flagTransmit_entry (l : LegId) (e' : EntryId) : (s.flagTransmit l).entry e' = s.entry e' :=
  congrArg (fun r : Routes => r.entries.get e') (flagTransmit_routes s l)

@[simp] theorem flagTransmit_slot (l : LegId) (n' : SlotId) : (s.flagTransmit l).slot n' = s.slot n' :=
  congrArg (fun c : Clips => c.slots.get n') (flagTransmit_clips s l)

@[simp] theorem flagTransmit_context (l : LegId) : (s.flagTransmit l).context = s.context :=
  congrArg (Clips.context) (flagTransmit_clips s l)

@[simp] theorem flagTransmit_agency (l : LegId) (a' : AgencyId) : (s.flagTransmit l).agency a' = s.agency a' :=
  congrArg (fun d : Directory => d.agencies.get a') (flagTransmit_directory s l)

@[simp] theorem flagTransmit_planEntry (l : LegId) (i' : PlanId) : (s.flagTransmit l).planEntry i' = s.planEntry i' :=
  congrArg (fun d : Directory => d.plans.get i') (flagTransmit_directory s l)

@[simp] theorem flagTransmit_now (l : LegId) : (s.flagTransmit l).now = s.now :=
  congrArg (Link.stamp) (flagTransmit_link s l)

@[simp] theorem flagTransmit_work (l : LegId) : (s.flagTransmit l).work = s.work :=
  congrArg (fun k : Link => k.inProgress.map InProgress.work) (flagTransmit_link s l)

@[simp] theorem evaluate_pending (l : LegId) : (s.evaluate l).pending = s.pending := by
  unfold State.evaluate; try dsimp only
  (repeat' split) <;> simp

@[simp] theorem evaluate_directory (l : LegId) : (s.evaluate l).directory = s.directory := by
  unfold State.evaluate; try dsimp only
  (repeat' split) <;> simp

@[simp] theorem evaluate_patches (l : LegId) : (s.evaluate l).patches = s.patches := by
  unfold State.evaluate; try dsimp only
  (repeat' split) <;> simp

@[simp] theorem evaluate_routes (l : LegId) : (s.evaluate l).routes = s.routes := by
  unfold State.evaluate; try dsimp only
  (repeat' split) <;> simp

@[simp] theorem evaluate_clips (l : LegId) : (s.evaluate l).clips = s.clips := by
  unfold State.evaluate; try dsimp only
  (repeat' split) <;> simp

@[simp] theorem evaluate_link (l : LegId) : (s.evaluate l).link = s.link := by
  unfold State.evaluate; try dsimp only
  (repeat' split) <;> simp

@[simp] theorem evaluate_order (l : LegId) : (s.evaluate l).order = s.order := by
  unfold State.evaluate; try dsimp only
  (repeat' split) <;> simp

@[simp] theorem evaluate_walk (l : LegId) : (s.evaluate l).walk = s.walk := by
  unfold State.evaluate; try dsimp only
  (repeat' split) <;> simp

@[simp] theorem evaluate_freeCount (l : LegId) : (s.evaluate l).freeCount = s.freeCount := by
  unfold State.evaluate; try dsimp only
  (repeat' split) <;> simp

@[simp] theorem evaluate_patch (l : LegId) (p' : PatchId) : (s.evaluate l).patch p' = s.patch p' :=
  congrArg (fun v : Vector Patch 12 => v.get p') (evaluate_patches s l)

@[simp] theorem evaluate_entry (l : LegId) (e' : EntryId) : (s.evaluate l).entry e' = s.entry e' :=
  congrArg (fun r : Routes => r.entries.get e') (evaluate_routes s l)

@[simp] theorem evaluate_slot (l : LegId) (n' : SlotId) : (s.evaluate l).slot n' = s.slot n' :=
  congrArg (fun c : Clips => c.slots.get n') (evaluate_clips s l)

@[simp] theorem evaluate_context (l : LegId) : (s.evaluate l).context = s.context :=
  congrArg (Clips.context) (evaluate_clips s l)

@[simp] theorem evaluate_agency (l : LegId) (a' : AgencyId) : (s.evaluate l).agency a' = s.agency a' :=
  congrArg (fun d : Directory => d.agencies.get a') (evaluate_directory s l)

@[simp] theorem evaluate_planEntry (l : LegId) (i' : PlanId) : (s.evaluate l).planEntry i' = s.planEntry i' :=
  congrArg (fun d : Directory => d.plans.get i') (evaluate_directory s l)

@[simp] theorem evaluate_now (l : LegId) : (s.evaluate l).now = s.now :=
  congrArg (Link.stamp) (evaluate_link s l)

@[simp] theorem evaluate_work (l : LegId) : (s.evaluate l).work = s.work :=
  congrArg (fun k : Link => k.inProgress.map InProgress.work) (evaluate_link s l)

@[simp] theorem evaluateAux_pending (l : LegId) : (s.evaluateAux l).pending = s.pending := by
  unfold State.evaluateAux; try dsimp only
  (repeat' split) <;> simp

@[simp] theorem evaluateAux_directory (l : LegId) : (s.evaluateAux l).directory = s.directory := by
  unfold State.evaluateAux; try dsimp only
  (repeat' split) <;> simp

@[simp] theorem evaluateAux_patches (l : LegId) : (s.evaluateAux l).patches = s.patches := by
  unfold State.evaluateAux; try dsimp only
  (repeat' split) <;> simp

@[simp] theorem evaluateAux_routes (l : LegId) : (s.evaluateAux l).routes = s.routes := by
  unfold State.evaluateAux; try dsimp only
  (repeat' split) <;> simp

@[simp] theorem evaluateAux_clips (l : LegId) : (s.evaluateAux l).clips = s.clips := by
  unfold State.evaluateAux; try dsimp only
  (repeat' split) <;> simp

@[simp] theorem evaluateAux_link (l : LegId) : (s.evaluateAux l).link = s.link := by
  unfold State.evaluateAux; try dsimp only
  (repeat' split) <;> simp

@[simp] theorem evaluateAux_order (l : LegId) : (s.evaluateAux l).order = s.order := by
  unfold State.evaluateAux; try dsimp only
  (repeat' split) <;> simp

@[simp] theorem evaluateAux_walk (l : LegId) : (s.evaluateAux l).walk = s.walk := by
  unfold State.evaluateAux; try dsimp only
  (repeat' split) <;> simp

@[simp] theorem evaluateAux_freeCount (l : LegId) : (s.evaluateAux l).freeCount = s.freeCount := by
  unfold State.evaluateAux; try dsimp only
  (repeat' split) <;> simp

@[simp] theorem evaluateAux_patch (l : LegId) (p' : PatchId) : (s.evaluateAux l).patch p' = s.patch p' :=
  congrArg (fun v : Vector Patch 12 => v.get p') (evaluateAux_patches s l)

@[simp] theorem evaluateAux_entry (l : LegId) (e' : EntryId) : (s.evaluateAux l).entry e' = s.entry e' :=
  congrArg (fun r : Routes => r.entries.get e') (evaluateAux_routes s l)

@[simp] theorem evaluateAux_slot (l : LegId) (n' : SlotId) : (s.evaluateAux l).slot n' = s.slot n' :=
  congrArg (fun c : Clips => c.slots.get n') (evaluateAux_clips s l)

@[simp] theorem evaluateAux_context (l : LegId) : (s.evaluateAux l).context = s.context :=
  congrArg (Clips.context) (evaluateAux_clips s l)

@[simp] theorem evaluateAux_agency (l : LegId) (a' : AgencyId) : (s.evaluateAux l).agency a' = s.agency a' :=
  congrArg (fun d : Directory => d.agencies.get a') (evaluateAux_directory s l)

@[simp] theorem evaluateAux_planEntry (l : LegId) (i' : PlanId) : (s.evaluateAux l).planEntry i' = s.planEntry i' :=
  congrArg (fun d : Directory => d.plans.get i') (evaluateAux_directory s l)

@[simp] theorem evaluateAux_now (l : LegId) : (s.evaluateAux l).now = s.now :=
  congrArg (Link.stamp) (evaluateAux_link s l)

@[simp] theorem evaluateAux_work (l : LegId) : (s.evaluateAux l).work = s.work :=
  congrArg (fun k : Link => k.inProgress.map InProgress.work) (evaluateAux_link s l)

@[simp] theorem unqueue_pending (p : PatchId) (y : Party) : (s.unqueue p y).pending = s.pending := by
  unfold State.unqueue; try dsimp only
  (repeat' split) <;> simp

@[simp] theorem unqueue_legs (p : PatchId) (y : Party) : (s.unqueue p y).legs = s.legs := by
  unfold State.unqueue; try dsimp only
  (repeat' split) <;> simp

@[simp] theorem unqueue_directory (p : PatchId) (y : Party) : (s.unqueue p y).directory = s.directory := by
  unfold State.unqueue; try dsimp only
  (repeat' split) <;> simp

@[simp] theorem unqueue_routes (p : PatchId) (y : Party) : (s.unqueue p y).routes = s.routes := by
  unfold State.unqueue; try dsimp only
  (repeat' split) <;> simp

@[simp] theorem unqueue_clips (p : PatchId) (y : Party) : (s.unqueue p y).clips = s.clips := by
  unfold State.unqueue; try dsimp only
  (repeat' split) <;> simp

@[simp] theorem unqueue_link (p : PatchId) (y : Party) : (s.unqueue p y).link = s.link := by
  unfold State.unqueue; try dsimp only
  (repeat' split) <;> simp

@[simp] theorem unqueue_order (p : PatchId) (y : Party) : (s.unqueue p y).order = s.order := by
  unfold State.unqueue; try dsimp only
  (repeat' split) <;> simp

@[simp] theorem unqueue_walk (p : PatchId) (y : Party) : (s.unqueue p y).walk = s.walk := by
  unfold State.unqueue; try dsimp only
  (repeat' split) <;> simp

@[simp] theorem unqueue_freeCount (p : PatchId) (y : Party) : (s.unqueue p y).freeCount = s.freeCount := by
  unfold State.unqueue; try dsimp only
  (repeat' split) <;> simp

@[simp] theorem unqueue_leg (p : PatchId) (y : Party) (l' : LegId) : (s.unqueue p y).leg l' = s.leg l' :=
  congrArg (fun v : Vector Leg 20 => v.get l') (unqueue_legs s p y)

@[simp] theorem unqueue_entry (p : PatchId) (y : Party) (e' : EntryId) : (s.unqueue p y).entry e' = s.entry e' :=
  congrArg (fun r : Routes => r.entries.get e') (unqueue_routes s p y)

@[simp] theorem unqueue_slot (p : PatchId) (y : Party) (n' : SlotId) : (s.unqueue p y).slot n' = s.slot n' :=
  congrArg (fun c : Clips => c.slots.get n') (unqueue_clips s p y)

@[simp] theorem unqueue_context (p : PatchId) (y : Party) : (s.unqueue p y).context = s.context :=
  congrArg (Clips.context) (unqueue_clips s p y)

@[simp] theorem unqueue_agency (p : PatchId) (y : Party) (a' : AgencyId) : (s.unqueue p y).agency a' = s.agency a' :=
  congrArg (fun d : Directory => d.agencies.get a') (unqueue_directory s p y)

@[simp] theorem unqueue_planEntry (p : PatchId) (y : Party) (i' : PlanId) : (s.unqueue p y).planEntry i' = s.planEntry i' :=
  congrArg (fun d : Directory => d.plans.get i') (unqueue_directory s p y)

@[simp] theorem unqueue_now (p : PatchId) (y : Party) : (s.unqueue p y).now = s.now :=
  congrArg (Link.stamp) (unqueue_link s p y)

@[simp] theorem unqueue_work (p : PatchId) (y : Party) : (s.unqueue p y).work = s.work :=
  congrArg (fun k : Link => k.inProgress.map InProgress.work) (unqueue_link s p y)

@[simp] theorem startMasking_pending (l : LegId) : (s.startMasking l).pending = s.pending := by
  unfold State.startMasking; try dsimp only
  (repeat' split) <;> simp

@[simp] theorem startMasking_directory (l : LegId) : (s.startMasking l).directory = s.directory := by
  unfold State.startMasking; try dsimp only
  (repeat' split) <;> simp

@[simp] theorem startMasking_routes (l : LegId) : (s.startMasking l).routes = s.routes := by
  unfold State.startMasking; try dsimp only
  (repeat' split) <;> simp

@[simp] theorem startMasking_clips (l : LegId) : (s.startMasking l).clips = s.clips := by
  unfold State.startMasking; try dsimp only
  (repeat' split) <;> simp

@[simp] theorem startMasking_order (l : LegId) : (s.startMasking l).order = s.order := by
  unfold State.startMasking; try dsimp only
  (repeat' split) <;> simp

@[simp] theorem startMasking_walk (l : LegId) : (s.startMasking l).walk = s.walk := by
  unfold State.startMasking; try dsimp only
  (repeat' split) <;> simp

@[simp] theorem startMasking_freeCount (l : LegId) : (s.startMasking l).freeCount = s.freeCount := by
  unfold State.startMasking; try dsimp only
  (repeat' split) <;> simp

@[simp] theorem startMasking_entry (l : LegId) (e' : EntryId) : (s.startMasking l).entry e' = s.entry e' :=
  congrArg (fun r : Routes => r.entries.get e') (startMasking_routes s l)

@[simp] theorem startMasking_slot (l : LegId) (n' : SlotId) : (s.startMasking l).slot n' = s.slot n' :=
  congrArg (fun c : Clips => c.slots.get n') (startMasking_clips s l)

@[simp] theorem startMasking_context (l : LegId) : (s.startMasking l).context = s.context :=
  congrArg (Clips.context) (startMasking_clips s l)

@[simp] theorem startMasking_agency (l : LegId) (a' : AgencyId) : (s.startMasking l).agency a' = s.agency a' :=
  congrArg (fun d : Directory => d.agencies.get a') (startMasking_directory s l)

@[simp] theorem startMasking_planEntry (l : LegId) (i' : PlanId) : (s.startMasking l).planEntry i' = s.planEntry i' :=
  congrArg (fun d : Directory => d.plans.get i') (startMasking_directory s l)

@[simp] theorem maskedChange_pending (l : LegId) (f : Leg → Leg) : (s.maskedChange l f).pending = s.pending := by
  unfold State.maskedChange; try dsimp only
  (repeat' split) <;> simp

@[simp] theorem maskedChange_directory (l : LegId) (f : Leg → Leg) : (s.maskedChange l f).directory = s.directory := by
  unfold State.maskedChange; try dsimp only
  (repeat' split) <;> simp

@[simp] theorem maskedChange_routes (l : LegId) (f : Leg → Leg) : (s.maskedChange l f).routes = s.routes := by
  unfold State.maskedChange; try dsimp only
  (repeat' split) <;> simp

@[simp] theorem maskedChange_clips (l : LegId) (f : Leg → Leg) : (s.maskedChange l f).clips = s.clips := by
  unfold State.maskedChange; try dsimp only
  (repeat' split) <;> simp

@[simp] theorem maskedChange_order (l : LegId) (f : Leg → Leg) : (s.maskedChange l f).order = s.order := by
  unfold State.maskedChange; try dsimp only
  (repeat' split) <;> simp

@[simp] theorem maskedChange_walk (l : LegId) (f : Leg → Leg) : (s.maskedChange l f).walk = s.walk := by
  unfold State.maskedChange; try dsimp only
  (repeat' split) <;> simp

@[simp] theorem maskedChange_freeCount (l : LegId) (f : Leg → Leg) : (s.maskedChange l f).freeCount = s.freeCount := by
  unfold State.maskedChange; try dsimp only
  (repeat' split) <;> simp

@[simp] theorem maskedChange_entry (l : LegId) (f : Leg → Leg) (e' : EntryId) : (s.maskedChange l f).entry e' = s.entry e' :=
  congrArg (fun r : Routes => r.entries.get e') (maskedChange_routes s l f)

@[simp] theorem maskedChange_slot (l : LegId) (f : Leg → Leg) (n' : SlotId) : (s.maskedChange l f).slot n' = s.slot n' :=
  congrArg (fun c : Clips => c.slots.get n') (maskedChange_clips s l f)

@[simp] theorem maskedChange_context (l : LegId) (f : Leg → Leg) : (s.maskedChange l f).context = s.context :=
  congrArg (Clips.context) (maskedChange_clips s l f)

@[simp] theorem maskedChange_agency (l : LegId) (f : Leg → Leg) (a' : AgencyId) : (s.maskedChange l f).agency a' = s.agency a' :=
  congrArg (fun d : Directory => d.agencies.get a') (maskedChange_directory s l f)

@[simp] theorem maskedChange_planEntry (l : LegId) (f : Leg → Leg) (i' : PlanId) : (s.maskedChange l f).planEntry i' = s.planEntry i' :=
  congrArg (fun d : Directory => d.plans.get i') (maskedChange_directory s l f)

@[simp] theorem enterLead_pending (l : LegId) : (s.enterLead l).pending = s.pending := by
  unfold State.enterLead; try dsimp only
  (repeat' split) <;> simp

@[simp] theorem enterLead_directory (l : LegId) : (s.enterLead l).directory = s.directory := by
  unfold State.enterLead; try dsimp only
  (repeat' split) <;> simp

@[simp] theorem enterLead_routes (l : LegId) : (s.enterLead l).routes = s.routes := by
  unfold State.enterLead; try dsimp only
  (repeat' split) <;> simp

@[simp] theorem enterLead_clips (l : LegId) : (s.enterLead l).clips = s.clips := by
  unfold State.enterLead; try dsimp only
  (repeat' split) <;> simp

@[simp] theorem enterLead_order (l : LegId) : (s.enterLead l).order = s.order := by
  unfold State.enterLead; try dsimp only
  (repeat' split) <;> simp

@[simp] theorem enterLead_walk (l : LegId) : (s.enterLead l).walk = s.walk := by
  unfold State.enterLead; try dsimp only
  (repeat' split) <;> simp

@[simp] theorem enterLead_freeCount (l : LegId) : (s.enterLead l).freeCount = s.freeCount := by
  unfold State.enterLead; try dsimp only
  (repeat' split) <;> simp

@[simp] theorem enterLead_entry (l : LegId) (e' : EntryId) : (s.enterLead l).entry e' = s.entry e' :=
  congrArg (fun r : Routes => r.entries.get e') (enterLead_routes s l)

@[simp] theorem enterLead_slot (l : LegId) (n' : SlotId) : (s.enterLead l).slot n' = s.slot n' :=
  congrArg (fun c : Clips => c.slots.get n') (enterLead_clips s l)

@[simp] theorem enterLead_context (l : LegId) : (s.enterLead l).context = s.context :=
  congrArg (Clips.context) (enterLead_clips s l)

@[simp] theorem enterLead_agency (l : LegId) (a' : AgencyId) : (s.enterLead l).agency a' = s.agency a' :=
  congrArg (fun d : Directory => d.agencies.get a') (enterLead_directory s l)

@[simp] theorem enterLead_planEntry (l : LegId) (i' : PlanId) : (s.enterLead l).planEntry i' = s.planEntry i' :=
  congrArg (fun d : Directory => d.plans.get i') (enterLead_directory s l)

@[simp] theorem setDemand_pending (l : LegId) (b : Bool) : (s.setDemand l b).pending = s.pending := by
  unfold State.setDemand; try dsimp only
  (repeat' split) <;> simp

@[simp] theorem setDemand_directory (l : LegId) (b : Bool) : (s.setDemand l b).directory = s.directory := by
  unfold State.setDemand; try dsimp only
  (repeat' split) <;> simp

@[simp] theorem setDemand_routes (l : LegId) (b : Bool) : (s.setDemand l b).routes = s.routes := by
  unfold State.setDemand; try dsimp only
  (repeat' split) <;> simp

@[simp] theorem setDemand_clips (l : LegId) (b : Bool) : (s.setDemand l b).clips = s.clips := by
  unfold State.setDemand; try dsimp only
  (repeat' split) <;> simp

@[simp] theorem setDemand_order (l : LegId) (b : Bool) : (s.setDemand l b).order = s.order := by
  unfold State.setDemand; try dsimp only
  (repeat' split) <;> simp

@[simp] theorem setDemand_walk (l : LegId) (b : Bool) : (s.setDemand l b).walk = s.walk := by
  unfold State.setDemand; try dsimp only
  (repeat' split) <;> simp

@[simp] theorem setDemand_freeCount (l : LegId) (b : Bool) : (s.setDemand l b).freeCount = s.freeCount := by
  unfold State.setDemand; try dsimp only
  (repeat' split) <;> simp

@[simp] theorem setDemand_entry (l : LegId) (b : Bool) (e' : EntryId) : (s.setDemand l b).entry e' = s.entry e' :=
  congrArg (fun r : Routes => r.entries.get e') (setDemand_routes s l b)

@[simp] theorem setDemand_slot (l : LegId) (b : Bool) (n' : SlotId) : (s.setDemand l b).slot n' = s.slot n' :=
  congrArg (fun c : Clips => c.slots.get n') (setDemand_clips s l b)

@[simp] theorem setDemand_context (l : LegId) (b : Bool) : (s.setDemand l b).context = s.context :=
  congrArg (Clips.context) (setDemand_clips s l b)

@[simp] theorem setDemand_agency (l : LegId) (b : Bool) (a' : AgencyId) : (s.setDemand l b).agency a' = s.agency a' :=
  congrArg (fun d : Directory => d.agencies.get a') (setDemand_directory s l b)

@[simp] theorem setDemand_planEntry (l : LegId) (b : Bool) (i' : PlanId) : (s.setDemand l b).planEntry i' = s.planEntry i' :=
  congrArg (fun d : Directory => d.plans.get i') (setDemand_directory s l b)

@[simp] theorem releaseKey_pending (l : LegId) (st : TxState) (t : Option Nat) : (s.releaseKey l st t).pending = s.pending := by
  unfold State.releaseKey; try dsimp only
  (repeat' split) <;> simp

@[simp] theorem releaseKey_directory (l : LegId) (st : TxState) (t : Option Nat) : (s.releaseKey l st t).directory = s.directory := by
  unfold State.releaseKey; try dsimp only
  (repeat' split) <;> simp

@[simp] theorem releaseKey_routes (l : LegId) (st : TxState) (t : Option Nat) : (s.releaseKey l st t).routes = s.routes := by
  unfold State.releaseKey; try dsimp only
  (repeat' split) <;> simp

@[simp] theorem releaseKey_clips (l : LegId) (st : TxState) (t : Option Nat) : (s.releaseKey l st t).clips = s.clips := by
  unfold State.releaseKey; try dsimp only
  (repeat' split) <;> simp

@[simp] theorem releaseKey_order (l : LegId) (st : TxState) (t : Option Nat) : (s.releaseKey l st t).order = s.order := by
  unfold State.releaseKey; try dsimp only
  (repeat' split) <;> simp

@[simp] theorem releaseKey_walk (l : LegId) (st : TxState) (t : Option Nat) : (s.releaseKey l st t).walk = s.walk := by
  unfold State.releaseKey; try dsimp only
  (repeat' split) <;> simp

@[simp] theorem releaseKey_freeCount (l : LegId) (st : TxState) (t : Option Nat) : (s.releaseKey l st t).freeCount = s.freeCount := by
  unfold State.releaseKey; try dsimp only
  (repeat' split) <;> simp

@[simp] theorem releaseKey_entry (l : LegId) (st : TxState) (t : Option Nat) (e' : EntryId) : (s.releaseKey l st t).entry e' = s.entry e' :=
  congrArg (fun r : Routes => r.entries.get e') (releaseKey_routes s l st t)

@[simp] theorem releaseKey_slot (l : LegId) (st : TxState) (t : Option Nat) (n' : SlotId) : (s.releaseKey l st t).slot n' = s.slot n' :=
  congrArg (fun c : Clips => c.slots.get n') (releaseKey_clips s l st t)

@[simp] theorem releaseKey_context (l : LegId) (st : TxState) (t : Option Nat) : (s.releaseKey l st t).context = s.context :=
  congrArg (Clips.context) (releaseKey_clips s l st t)

@[simp] theorem releaseKey_agency (l : LegId) (st : TxState) (t : Option Nat) (a' : AgencyId) : (s.releaseKey l st t).agency a' = s.agency a' :=
  congrArg (fun d : Directory => d.agencies.get a') (releaseKey_directory s l st t)

@[simp] theorem releaseKey_planEntry (l : LegId) (st : TxState) (t : Option Nat) (i' : PlanId) : (s.releaseKey l st t).planEntry i' = s.planEntry i' :=
  congrArg (fun d : Directory => d.plans.get i') (releaseKey_directory s l st t)

@[simp] theorem endLockout_pending (l : LegId) : (s.endLockout l).pending = s.pending := by
  unfold State.endLockout; try dsimp only
  (repeat' split) <;> simp

@[simp] theorem endLockout_directory (l : LegId) : (s.endLockout l).directory = s.directory := by
  unfold State.endLockout; try dsimp only
  (repeat' split) <;> simp

@[simp] theorem endLockout_routes (l : LegId) : (s.endLockout l).routes = s.routes := by
  unfold State.endLockout; try dsimp only
  (repeat' split) <;> simp

@[simp] theorem endLockout_clips (l : LegId) : (s.endLockout l).clips = s.clips := by
  unfold State.endLockout; try dsimp only
  (repeat' split) <;> simp

@[simp] theorem endLockout_order (l : LegId) : (s.endLockout l).order = s.order := by
  unfold State.endLockout; try dsimp only
  (repeat' split) <;> simp

@[simp] theorem endLockout_walk (l : LegId) : (s.endLockout l).walk = s.walk := by
  unfold State.endLockout; try dsimp only
  (repeat' split) <;> simp

@[simp] theorem endLockout_freeCount (l : LegId) : (s.endLockout l).freeCount = s.freeCount := by
  unfold State.endLockout; try dsimp only
  (repeat' split) <;> simp

@[simp] theorem endLockout_entry (l : LegId) (e' : EntryId) : (s.endLockout l).entry e' = s.entry e' :=
  congrArg (fun r : Routes => r.entries.get e') (endLockout_routes s l)

@[simp] theorem endLockout_slot (l : LegId) (n' : SlotId) : (s.endLockout l).slot n' = s.slot n' :=
  congrArg (fun c : Clips => c.slots.get n') (endLockout_clips s l)

@[simp] theorem endLockout_context (l : LegId) : (s.endLockout l).context = s.context :=
  congrArg (Clips.context) (endLockout_clips s l)

@[simp] theorem endLockout_agency (l : LegId) (a' : AgencyId) : (s.endLockout l).agency a' = s.agency a' :=
  congrArg (fun d : Directory => d.agencies.get a') (endLockout_directory s l)

@[simp] theorem endLockout_planEntry (l : LegId) (i' : PlanId) : (s.endLockout l).planEntry i' = s.planEntry i' :=
  congrArg (fun d : Directory => d.plans.get i') (endLockout_directory s l)

@[simp] theorem timeOut_pending (l : LegId) : (s.timeOut l).pending = s.pending := by
  unfold State.timeOut; try dsimp only
  (repeat' split) <;> simp

@[simp] theorem timeOut_directory (l : LegId) : (s.timeOut l).directory = s.directory := by
  unfold State.timeOut; try dsimp only
  (repeat' split) <;> simp

@[simp] theorem timeOut_routes (l : LegId) : (s.timeOut l).routes = s.routes := by
  unfold State.timeOut; try dsimp only
  (repeat' split) <;> simp

@[simp] theorem timeOut_clips (l : LegId) : (s.timeOut l).clips = s.clips := by
  unfold State.timeOut; try dsimp only
  (repeat' split) <;> simp

@[simp] theorem timeOut_order (l : LegId) : (s.timeOut l).order = s.order := by
  unfold State.timeOut; try dsimp only
  (repeat' split) <;> simp

@[simp] theorem timeOut_walk (l : LegId) : (s.timeOut l).walk = s.walk := by
  unfold State.timeOut; try dsimp only
  (repeat' split) <;> simp

@[simp] theorem timeOut_freeCount (l : LegId) : (s.timeOut l).freeCount = s.freeCount := by
  unfold State.timeOut; try dsimp only
  (repeat' split) <;> simp

@[simp] theorem timeOut_entry (l : LegId) (e' : EntryId) : (s.timeOut l).entry e' = s.entry e' :=
  congrArg (fun r : Routes => r.entries.get e') (timeOut_routes s l)

@[simp] theorem timeOut_slot (l : LegId) (n' : SlotId) : (s.timeOut l).slot n' = s.slot n' :=
  congrArg (fun c : Clips => c.slots.get n') (timeOut_clips s l)

@[simp] theorem timeOut_context (l : LegId) : (s.timeOut l).context = s.context :=
  congrArg (Clips.context) (timeOut_clips s l)

@[simp] theorem timeOut_agency (l : LegId) (a' : AgencyId) : (s.timeOut l).agency a' = s.agency a' :=
  congrArg (fun d : Directory => d.agencies.get a') (timeOut_directory s l)

@[simp] theorem timeOut_planEntry (l : LegId) (i' : PlanId) : (s.timeOut l).planEntry i' = s.planEntry i' :=
  congrArg (fun d : Directory => d.plans.get i') (timeOut_directory s l)

@[simp] theorem confirmFailure_pending (l : LegId) : (s.confirmFailure l).pending = s.pending := by
  unfold State.confirmFailure; try dsimp only
  (repeat' split) <;> simp

@[simp] theorem confirmFailure_directory (l : LegId) : (s.confirmFailure l).directory = s.directory := by
  unfold State.confirmFailure; try dsimp only
  (repeat' split) <;> simp

@[simp] theorem confirmFailure_routes (l : LegId) : (s.confirmFailure l).routes = s.routes := by
  unfold State.confirmFailure; try dsimp only
  (repeat' split) <;> simp

@[simp] theorem confirmFailure_clips (l : LegId) : (s.confirmFailure l).clips = s.clips := by
  unfold State.confirmFailure; try dsimp only
  (repeat' split) <;> simp

@[simp] theorem confirmFailure_order (l : LegId) : (s.confirmFailure l).order = s.order := by
  unfold State.confirmFailure; try dsimp only
  (repeat' split) <;> simp

@[simp] theorem confirmFailure_walk (l : LegId) : (s.confirmFailure l).walk = s.walk := by
  unfold State.confirmFailure; try dsimp only
  (repeat' split) <;> simp

@[simp] theorem confirmFailure_freeCount (l : LegId) : (s.confirmFailure l).freeCount = s.freeCount := by
  unfold State.confirmFailure; try dsimp only
  (repeat' split) <;> simp

@[simp] theorem confirmFailure_entry (l : LegId) (e' : EntryId) : (s.confirmFailure l).entry e' = s.entry e' :=
  congrArg (fun r : Routes => r.entries.get e') (confirmFailure_routes s l)

@[simp] theorem confirmFailure_slot (l : LegId) (n' : SlotId) : (s.confirmFailure l).slot n' = s.slot n' :=
  congrArg (fun c : Clips => c.slots.get n') (confirmFailure_clips s l)

@[simp] theorem confirmFailure_context (l : LegId) : (s.confirmFailure l).context = s.context :=
  congrArg (Clips.context) (confirmFailure_clips s l)

@[simp] theorem confirmFailure_agency (l : LegId) (a' : AgencyId) : (s.confirmFailure l).agency a' = s.agency a' :=
  congrArg (fun d : Directory => d.agencies.get a') (confirmFailure_directory s l)

@[simp] theorem confirmFailure_planEntry (l : LegId) (i' : PlanId) : (s.confirmFailure l).planEntry i' = s.planEntry i' :=
  congrArg (fun d : Directory => d.plans.get i') (confirmFailure_directory s l)

@[simp] theorem clearFault_pending (l : LegId) : (s.clearFault l).pending = s.pending := by
  unfold State.clearFault; try dsimp only
  (repeat' split) <;> simp

@[simp] theorem clearFault_directory (l : LegId) : (s.clearFault l).directory = s.directory := by
  unfold State.clearFault; try dsimp only
  (repeat' split) <;> simp

@[simp] theorem clearFault_routes (l : LegId) : (s.clearFault l).routes = s.routes := by
  unfold State.clearFault; try dsimp only
  (repeat' split) <;> simp

@[simp] theorem clearFault_clips (l : LegId) : (s.clearFault l).clips = s.clips := by
  unfold State.clearFault; try dsimp only
  (repeat' split) <;> simp

@[simp] theorem clearFault_order (l : LegId) : (s.clearFault l).order = s.order := by
  unfold State.clearFault; try dsimp only
  (repeat' split) <;> simp

@[simp] theorem clearFault_walk (l : LegId) : (s.clearFault l).walk = s.walk := by
  unfold State.clearFault; try dsimp only
  (repeat' split) <;> simp

@[simp] theorem clearFault_freeCount (l : LegId) : (s.clearFault l).freeCount = s.freeCount := by
  unfold State.clearFault; try dsimp only
  (repeat' split) <;> simp

@[simp] theorem clearFault_entry (l : LegId) (e' : EntryId) : (s.clearFault l).entry e' = s.entry e' :=
  congrArg (fun r : Routes => r.entries.get e') (clearFault_routes s l)

@[simp] theorem clearFault_slot (l : LegId) (n' : SlotId) : (s.clearFault l).slot n' = s.slot n' :=
  congrArg (fun c : Clips => c.slots.get n') (clearFault_clips s l)

@[simp] theorem clearFault_context (l : LegId) : (s.clearFault l).context = s.context :=
  congrArg (Clips.context) (clearFault_clips s l)

@[simp] theorem clearFault_agency (l : LegId) (a' : AgencyId) : (s.clearFault l).agency a' = s.agency a' :=
  congrArg (fun d : Directory => d.agencies.get a') (clearFault_directory s l)

@[simp] theorem clearFault_planEntry (l : LegId) (i' : PlanId) : (s.clearFault l).planEntry i' = s.planEntry i' :=
  congrArg (fun d : Directory => d.plans.get i') (clearFault_directory s l)

@[simp] theorem auxEdge_pending (l : LegId) (e : Edge) : (s.auxEdge l e).pending = s.pending := by
  unfold State.auxEdge; try dsimp only
  (repeat' split) <;> simp

@[simp] theorem auxEdge_directory (l : LegId) (e : Edge) : (s.auxEdge l e).directory = s.directory := by
  unfold State.auxEdge; try dsimp only
  (repeat' split) <;> simp

@[simp] theorem auxEdge_patches (l : LegId) (e : Edge) : (s.auxEdge l e).patches = s.patches := by
  unfold State.auxEdge; try dsimp only
  (repeat' split) <;> simp

@[simp] theorem auxEdge_routes (l : LegId) (e : Edge) : (s.auxEdge l e).routes = s.routes := by
  unfold State.auxEdge; try dsimp only
  (repeat' split) <;> simp

@[simp] theorem auxEdge_clips (l : LegId) (e : Edge) : (s.auxEdge l e).clips = s.clips := by
  unfold State.auxEdge; try dsimp only
  (repeat' split) <;> simp

@[simp] theorem auxEdge_order (l : LegId) (e : Edge) : (s.auxEdge l e).order = s.order := by
  unfold State.auxEdge; try dsimp only
  (repeat' split) <;> simp

@[simp] theorem auxEdge_walk (l : LegId) (e : Edge) : (s.auxEdge l e).walk = s.walk := by
  unfold State.auxEdge; try dsimp only
  (repeat' split) <;> simp

@[simp] theorem auxEdge_freeCount (l : LegId) (e : Edge) : (s.auxEdge l e).freeCount = s.freeCount := by
  unfold State.auxEdge; try dsimp only
  (repeat' split) <;> simp

@[simp] theorem auxEdge_patch (l : LegId) (e : Edge) (p' : PatchId) : (s.auxEdge l e).patch p' = s.patch p' :=
  congrArg (fun v : Vector Patch 12 => v.get p') (auxEdge_patches s l e)

@[simp] theorem auxEdge_entry (l : LegId) (e : Edge) (e' : EntryId) : (s.auxEdge l e).entry e' = s.entry e' :=
  congrArg (fun r : Routes => r.entries.get e') (auxEdge_routes s l e)

@[simp] theorem auxEdge_slot (l : LegId) (e : Edge) (n' : SlotId) : (s.auxEdge l e).slot n' = s.slot n' :=
  congrArg (fun c : Clips => c.slots.get n') (auxEdge_clips s l e)

@[simp] theorem auxEdge_context (l : LegId) (e : Edge) : (s.auxEdge l e).context = s.context :=
  congrArg (Clips.context) (auxEdge_clips s l e)

@[simp] theorem auxEdge_agency (l : LegId) (e : Edge) (a' : AgencyId) : (s.auxEdge l e).agency a' = s.agency a' :=
  congrArg (fun d : Directory => d.agencies.get a') (auxEdge_directory s l e)

@[simp] theorem auxEdge_planEntry (l : LegId) (e : Edge) (i' : PlanId) : (s.auxEdge l e).planEntry i' = s.planEntry i' :=
  congrArg (fun d : Directory => d.plans.get i') (auxEdge_directory s l e)

@[simp] theorem endBar_pending (l : LegId) : (s.endBar l).pending = s.pending := by
  unfold State.endBar; try dsimp only
  (repeat' split) <;> simp

@[simp] theorem endBar_directory (l : LegId) : (s.endBar l).directory = s.directory := by
  unfold State.endBar; try dsimp only
  (repeat' split) <;> simp

@[simp] theorem endBar_patches (l : LegId) : (s.endBar l).patches = s.patches := by
  unfold State.endBar; try dsimp only
  (repeat' split) <;> simp

@[simp] theorem endBar_routes (l : LegId) : (s.endBar l).routes = s.routes := by
  unfold State.endBar; try dsimp only
  (repeat' split) <;> simp

@[simp] theorem endBar_clips (l : LegId) : (s.endBar l).clips = s.clips := by
  unfold State.endBar; try dsimp only
  (repeat' split) <;> simp

@[simp] theorem endBar_order (l : LegId) : (s.endBar l).order = s.order := by
  unfold State.endBar; try dsimp only
  (repeat' split) <;> simp

@[simp] theorem endBar_walk (l : LegId) : (s.endBar l).walk = s.walk := by
  unfold State.endBar; try dsimp only
  (repeat' split) <;> simp

@[simp] theorem endBar_freeCount (l : LegId) : (s.endBar l).freeCount = s.freeCount := by
  unfold State.endBar; try dsimp only
  (repeat' split) <;> simp

@[simp] theorem endBar_patch (l : LegId) (p' : PatchId) : (s.endBar l).patch p' = s.patch p' :=
  congrArg (fun v : Vector Patch 12 => v.get p') (endBar_patches s l)

@[simp] theorem endBar_entry (l : LegId) (e' : EntryId) : (s.endBar l).entry e' = s.entry e' :=
  congrArg (fun r : Routes => r.entries.get e') (endBar_routes s l)

@[simp] theorem endBar_slot (l : LegId) (n' : SlotId) : (s.endBar l).slot n' = s.slot n' :=
  congrArg (fun c : Clips => c.slots.get n') (endBar_clips s l)

@[simp] theorem endBar_context (l : LegId) : (s.endBar l).context = s.context :=
  congrArg (Clips.context) (endBar_clips s l)

@[simp] theorem endBar_agency (l : LegId) (a' : AgencyId) : (s.endBar l).agency a' = s.agency a' :=
  congrArg (fun d : Directory => d.agencies.get a') (endBar_directory s l)

@[simp] theorem endBar_planEntry (l : LegId) (i' : PlanId) : (s.endBar l).planEntry i' = s.planEntry i' :=
  congrArg (fun d : Directory => d.plans.get i') (endBar_directory s l)

@[simp] theorem bar_pending (l : LegId) : (s.bar l).pending = s.pending := by
  unfold State.bar; try dsimp only
  (repeat' split) <;> simp

@[simp] theorem bar_directory (l : LegId) : (s.bar l).directory = s.directory := by
  unfold State.bar; try dsimp only
  (repeat' split) <;> simp

@[simp] theorem bar_patches (l : LegId) : (s.bar l).patches = s.patches := by
  unfold State.bar; try dsimp only
  (repeat' split) <;> simp

@[simp] theorem bar_routes (l : LegId) : (s.bar l).routes = s.routes := by
  unfold State.bar; try dsimp only
  (repeat' split) <;> simp

@[simp] theorem bar_clips (l : LegId) : (s.bar l).clips = s.clips := by
  unfold State.bar; try dsimp only
  (repeat' split) <;> simp

@[simp] theorem bar_link (l : LegId) : (s.bar l).link = s.link := by
  unfold State.bar; try dsimp only
  (repeat' split) <;> simp

@[simp] theorem bar_order (l : LegId) : (s.bar l).order = s.order := by
  unfold State.bar; try dsimp only
  (repeat' split) <;> simp

@[simp] theorem bar_walk (l : LegId) : (s.bar l).walk = s.walk := by
  unfold State.bar; try dsimp only
  (repeat' split) <;> simp

@[simp] theorem bar_freeCount (l : LegId) : (s.bar l).freeCount = s.freeCount := by
  unfold State.bar; try dsimp only
  (repeat' split) <;> simp

@[simp] theorem bar_patch (l : LegId) (p' : PatchId) : (s.bar l).patch p' = s.patch p' :=
  congrArg (fun v : Vector Patch 12 => v.get p') (bar_patches s l)

@[simp] theorem bar_entry (l : LegId) (e' : EntryId) : (s.bar l).entry e' = s.entry e' :=
  congrArg (fun r : Routes => r.entries.get e') (bar_routes s l)

@[simp] theorem bar_slot (l : LegId) (n' : SlotId) : (s.bar l).slot n' = s.slot n' :=
  congrArg (fun c : Clips => c.slots.get n') (bar_clips s l)

@[simp] theorem bar_context (l : LegId) : (s.bar l).context = s.context :=
  congrArg (Clips.context) (bar_clips s l)

@[simp] theorem bar_agency (l : LegId) (a' : AgencyId) : (s.bar l).agency a' = s.agency a' :=
  congrArg (fun d : Directory => d.agencies.get a') (bar_directory s l)

@[simp] theorem bar_planEntry (l : LegId) (i' : PlanId) : (s.bar l).planEntry i' = s.planEntry i' :=
  congrArg (fun d : Directory => d.plans.get i') (bar_directory s l)

@[simp] theorem bar_now (l : LegId) : (s.bar l).now = s.now :=
  congrArg (Link.stamp) (bar_link s l)

@[simp] theorem bar_work (l : LegId) : (s.bar l).work = s.work :=
  congrArg (fun k : Link => k.inProgress.map InProgress.work) (bar_link s l)

end Sys2Proof.Machine
end

