-- ==== Sys2Proof/Laws/FloorFrame.lean ====
section
/-! SUPPORT. What the operations of the Route Engine, the Clip Player and the Floor Arbiter leave as it was. -/

namespace Sys2Proof.Machine

set_option linter.unnecessarySeqFocus false
set_option linter.unusedTactic false
set_option linter.unreachableTactic false

variable (s : State)

@[simp] theorem retarget_pending (p : PatchId) (y : Option Party) : (s.retarget p y).pending = s.pending := by
  unfold State.retarget; try dsimp only
  (repeat' split) <;> simp

@[simp] theorem retarget_legs (p : PatchId) (y : Option Party) : (s.retarget p y).legs = s.legs := by
  unfold State.retarget; try dsimp only
  (repeat' split) <;> simp

@[simp] theorem retarget_directory (p : PatchId) (y : Option Party) : (s.retarget p y).directory = s.directory := by
  unfold State.retarget; try dsimp only
  (repeat' split) <;> simp

@[simp] theorem retarget_patches (p : PatchId) (y : Option Party) : (s.retarget p y).patches = s.patches := by
  unfold State.retarget; try dsimp only
  (repeat' split) <;> simp

@[simp] theorem retarget_clips (p : PatchId) (y : Option Party) : (s.retarget p y).clips = s.clips := by
  unfold State.retarget; try dsimp only
  (repeat' split) <;> simp

@[simp] theorem retarget_link (p : PatchId) (y : Option Party) : (s.retarget p y).link = s.link := by
  unfold State.retarget; try dsimp only
  (repeat' split) <;> simp

@[simp] theorem retarget_order (p : PatchId) (y : Option Party) : (s.retarget p y).order = s.order := by
  unfold State.retarget; try dsimp only
  (repeat' split) <;> simp

@[simp] theorem retarget_walk (p : PatchId) (y : Option Party) : (s.retarget p y).walk = s.walk := by
  unfold State.retarget; try dsimp only
  (repeat' split) <;> simp

@[simp] theorem retarget_freeCount (p : PatchId) (y : Option Party) : (s.retarget p y).freeCount = s.freeCount := by
  unfold State.retarget; try dsimp only
  (repeat' split) <;> simp

@[simp] theorem retarget_leg (p : PatchId) (y : Option Party) (l' : LegId) : (s.retarget p y).leg l' = s.leg l' :=
  congrArg (fun v : Vector Leg 20 => v.get l') (retarget_legs s p y)

@[simp] theorem retarget_patch (p : PatchId) (y : Option Party) (p' : PatchId) : (s.retarget p y).patch p' = s.patch p' :=
  congrArg (fun v : Vector Patch 12 => v.get p') (retarget_patches s p y)

@[simp] theorem retarget_slot (p : PatchId) (y : Option Party) (n' : SlotId) : (s.retarget p y).slot n' = s.slot n' :=
  congrArg (fun c : Clips => c.slots.get n') (retarget_clips s p y)

@[simp] theorem retarget_context (p : PatchId) (y : Option Party) : (s.retarget p y).context = s.context :=
  congrArg (Clips.context) (retarget_clips s p y)

@[simp] theorem retarget_agency (p : PatchId) (y : Option Party) (a' : AgencyId) : (s.retarget p y).agency a' = s.agency a' :=
  congrArg (fun d : Directory => d.agencies.get a') (retarget_directory s p y)

@[simp] theorem retarget_planEntry (p : PatchId) (y : Option Party) (i' : PlanId) : (s.retarget p y).planEntry i' = s.planEntry i' :=
  congrArg (fun d : Directory => d.plans.get i') (retarget_directory s p y)

@[simp] theorem retarget_now (p : PatchId) (y : Option Party) : (s.retarget p y).now = s.now :=
  congrArg (Link.stamp) (retarget_link s p y)

@[simp] theorem retarget_work (p : PatchId) (y : Option Party) : (s.retarget p y).work = s.work :=
  congrArg (fun k : Link => k.inProgress.map InProgress.work) (retarget_link s p y)

@[simp] theorem reserve_pending (p : PatchId) (k : EntryKind) (l : LegId) (g : Nat) (y : Option Party) : (s.reserve p k l g y).pending = s.pending := by
  unfold State.reserve; try dsimp only
  (repeat' split) <;> simp

@[simp] theorem reserve_legs (p : PatchId) (k : EntryKind) (l : LegId) (g : Nat) (y : Option Party) : (s.reserve p k l g y).legs = s.legs := by
  unfold State.reserve; try dsimp only
  (repeat' split) <;> simp

@[simp] theorem reserve_directory (p : PatchId) (k : EntryKind) (l : LegId) (g : Nat) (y : Option Party) : (s.reserve p k l g y).directory = s.directory := by
  unfold State.reserve; try dsimp only
  (repeat' split) <;> simp

@[simp] theorem reserve_clips (p : PatchId) (k : EntryKind) (l : LegId) (g : Nat) (y : Option Party) : (s.reserve p k l g y).clips = s.clips := by
  unfold State.reserve; try dsimp only
  (repeat' split) <;> simp

@[simp] theorem reserve_link (p : PatchId) (k : EntryKind) (l : LegId) (g : Nat) (y : Option Party) : (s.reserve p k l g y).link = s.link := by
  unfold State.reserve; try dsimp only
  (repeat' split) <;> simp

@[simp] theorem reserve_order (p : PatchId) (k : EntryKind) (l : LegId) (g : Nat) (y : Option Party) : (s.reserve p k l g y).order = s.order := by
  unfold State.reserve; try dsimp only
  (repeat' split) <;> simp

@[simp] theorem reserve_walk (p : PatchId) (k : EntryKind) (l : LegId) (g : Nat) (y : Option Party) : (s.reserve p k l g y).walk = s.walk := by
  unfold State.reserve; try dsimp only
  (repeat' split) <;> simp

@[simp] theorem reserve_freeCount (p : PatchId) (k : EntryKind) (l : LegId) (g : Nat) (y : Option Party) : (s.reserve p k l g y).freeCount = s.freeCount := by
  unfold State.reserve; try dsimp only
  (repeat' split) <;> simp

@[simp] theorem reserve_leg (p : PatchId) (k : EntryKind) (l : LegId) (g : Nat) (y : Option Party) (l' : LegId) : (s.reserve p k l g y).leg l' = s.leg l' :=
  congrArg (fun v : Vector Leg 20 => v.get l') (reserve_legs s p k l g y)

@[simp] theorem reserve_slot (p : PatchId) (k : EntryKind) (l : LegId) (g : Nat) (y : Option Party) (n' : SlotId) : (s.reserve p k l g y).slot n' = s.slot n' :=
  congrArg (fun c : Clips => c.slots.get n') (reserve_clips s p k l g y)

@[simp] theorem reserve_context (p : PatchId) (k : EntryKind) (l : LegId) (g : Nat) (y : Option Party) : (s.reserve p k l g y).context = s.context :=
  congrArg (Clips.context) (reserve_clips s p k l g y)

@[simp] theorem reserve_agency (p : PatchId) (k : EntryKind) (l : LegId) (g : Nat) (y : Option Party) (a' : AgencyId) : (s.reserve p k l g y).agency a' = s.agency a' :=
  congrArg (fun d : Directory => d.agencies.get a') (reserve_directory s p k l g y)

@[simp] theorem reserve_planEntry (p : PatchId) (k : EntryKind) (l : LegId) (g : Nat) (y : Option Party) (i' : PlanId) : (s.reserve p k l g y).planEntry i' = s.planEntry i' :=
  congrArg (fun d : Directory => d.plans.get i') (reserve_directory s p k l g y)

@[simp] theorem reserve_now (p : PatchId) (k : EntryKind) (l : LegId) (g : Nat) (y : Option Party) : (s.reserve p k l g y).now = s.now :=
  congrArg (Link.stamp) (reserve_link s p k l g y)

@[simp] theorem reserve_work (p : PatchId) (k : EntryKind) (l : LegId) (g : Nat) (y : Option Party) : (s.reserve p k l g y).work = s.work :=
  congrArg (fun k : Link => k.inProgress.map InProgress.work) (reserve_link s p k l g y)

@[simp] theorem freeEntries_pending (es : List EntryId) : (s.freeEntries es).pending = s.pending := by
  unfold State.freeEntries; try dsimp only
  (repeat' split) <;> simp

@[simp] theorem freeEntries_legs (es : List EntryId) : (s.freeEntries es).legs = s.legs := by
  unfold State.freeEntries; try dsimp only
  (repeat' split) <;> simp

@[simp] theorem freeEntries_directory (es : List EntryId) : (s.freeEntries es).directory = s.directory := by
  unfold State.freeEntries; try dsimp only
  (repeat' split) <;> simp

@[simp] theorem freeEntries_clips (es : List EntryId) : (s.freeEntries es).clips = s.clips := by
  unfold State.freeEntries; try dsimp only
  (repeat' split) <;> simp

@[simp] theorem freeEntries_link (es : List EntryId) : (s.freeEntries es).link = s.link := by
  unfold State.freeEntries; try dsimp only
  (repeat' split) <;> simp

@[simp] theorem freeEntries_order (es : List EntryId) : (s.freeEntries es).order = s.order := by
  unfold State.freeEntries; try dsimp only
  (repeat' split) <;> simp

@[simp] theorem freeEntries_walk (es : List EntryId) : (s.freeEntries es).walk = s.walk := by
  unfold State.freeEntries; try dsimp only
  (repeat' split) <;> simp

@[simp] theorem freeEntries_freeCount (es : List EntryId) : (s.freeEntries es).freeCount = s.freeCount := by
  unfold State.freeEntries; try dsimp only
  (repeat' split) <;> simp

@[simp] theorem freeEntries_leg (es : List EntryId) (l' : LegId) : (s.freeEntries es).leg l' = s.leg l' :=
  congrArg (fun v : Vector Leg 20 => v.get l') (freeEntries_legs s es)

@[simp] theorem freeEntries_slot (es : List EntryId) (n' : SlotId) : (s.freeEntries es).slot n' = s.slot n' :=
  congrArg (fun c : Clips => c.slots.get n') (freeEntries_clips s es)

@[simp] theorem freeEntries_context (es : List EntryId) : (s.freeEntries es).context = s.context :=
  congrArg (Clips.context) (freeEntries_clips s es)

@[simp] theorem freeEntries_agency (es : List EntryId) (a' : AgencyId) : (s.freeEntries es).agency a' = s.agency a' :=
  congrArg (fun d : Directory => d.agencies.get a') (freeEntries_directory s es)

@[simp] theorem freeEntries_planEntry (es : List EntryId) (i' : PlanId) : (s.freeEntries es).planEntry i' = s.planEntry i' :=
  congrArg (fun d : Directory => d.plans.get i') (freeEntries_directory s es)

@[simp] theorem freeEntries_now (es : List EntryId) : (s.freeEntries es).now = s.now :=
  congrArg (Link.stamp) (freeEntries_link s es)

@[simp] theorem freeEntries_work (es : List EntryId) : (s.freeEntries es).work = s.work :=
  congrArg (fun k : Link => k.inProgress.map InProgress.work) (freeEntries_link s es)

@[simp] theorem applyPending_pending : (s.applyPending).pending = s.pending := by
  unfold State.applyPending; try dsimp only
  (repeat' split) <;> simp

@[simp] theorem applyPending_legs : (s.applyPending).legs = s.legs := by
  unfold State.applyPending; try dsimp only
  (repeat' split) <;> simp

@[simp] theorem applyPending_directory : (s.applyPending).directory = s.directory := by
  unfold State.applyPending; try dsimp only
  (repeat' split) <;> simp

@[simp] theorem applyPending_patches : (s.applyPending).patches = s.patches := by
  unfold State.applyPending; try dsimp only
  (repeat' split) <;> simp

@[simp] theorem applyPending_clips : (s.applyPending).clips = s.clips := by
  unfold State.applyPending; try dsimp only
  (repeat' split) <;> simp

@[simp] theorem applyPending_link : (s.applyPending).link = s.link := by
  unfold State.applyPending; try dsimp only
  (repeat' split) <;> simp

@[simp] theorem applyPending_order : (s.applyPending).order = s.order := by
  unfold State.applyPending; try dsimp only
  (repeat' split) <;> simp

@[simp] theorem applyPending_walk : (s.applyPending).walk = s.walk := by
  unfold State.applyPending; try dsimp only
  (repeat' split) <;> simp

@[simp] theorem applyPending_freeCount : (s.applyPending).freeCount = s.freeCount := by
  unfold State.applyPending; try dsimp only
  (repeat' split) <;> simp

@[simp] theorem applyPending_leg (l' : LegId) : (s.applyPending).leg l' = s.leg l' :=
  congrArg (fun v : Vector Leg 20 => v.get l') (applyPending_legs s)

@[simp] theorem applyPending_patch (p' : PatchId) : (s.applyPending).patch p' = s.patch p' :=
  congrArg (fun v : Vector Patch 12 => v.get p') (applyPending_patches s)

@[simp] theorem applyPending_slot (n' : SlotId) : (s.applyPending).slot n' = s.slot n' :=
  congrArg (fun c : Clips => c.slots.get n') (applyPending_clips s)

@[simp] theorem applyPending_context : (s.applyPending).context = s.context :=
  congrArg (Clips.context) (applyPending_clips s)

@[simp] theorem applyPending_agency (a' : AgencyId) : (s.applyPending).agency a' = s.agency a' :=
  congrArg (fun d : Directory => d.agencies.get a') (applyPending_directory s)

@[simp] theorem applyPending_planEntry (i' : PlanId) : (s.applyPending).planEntry i' = s.planEntry i' :=
  congrArg (fun d : Directory => d.plans.get i') (applyPending_directory s)

@[simp] theorem applyPending_now : (s.applyPending).now = s.now :=
  congrArg (Link.stamp) (applyPending_link s)

@[simp] theorem applyPending_work : (s.applyPending).work = s.work :=
  congrArg (fun k : Link => k.inProgress.map InProgress.work) (applyPending_link s)

@[simp] theorem deliver_pending (ts : List Taken) : (s.deliver ts).pending = s.pending := by
  unfold State.deliver; try dsimp only
  (repeat' split) <;> simp

@[simp] theorem deliver_directory (ts : List Taken) : (s.deliver ts).directory = s.directory := by
  unfold State.deliver; try dsimp only
  (repeat' split) <;> simp

@[simp] theorem deliver_patches (ts : List Taken) : (s.deliver ts).patches = s.patches := by
  unfold State.deliver; try dsimp only
  (repeat' split) <;> simp

@[simp] theorem deliver_routes (ts : List Taken) : (s.deliver ts).routes = s.routes := by
  unfold State.deliver; try dsimp only
  (repeat' split) <;> simp

@[simp] theorem deliver_clips (ts : List Taken) : (s.deliver ts).clips = s.clips := by
  unfold State.deliver; try dsimp only
  (repeat' split) <;> simp

@[simp] theorem deliver_link (ts : List Taken) : (s.deliver ts).link = s.link := by
  unfold State.deliver; try dsimp only
  (repeat' split) <;> simp

@[simp] theorem deliver_order (ts : List Taken) : (s.deliver ts).order = s.order := by
  unfold State.deliver; try dsimp only
  (repeat' split) <;> simp

@[simp] theorem deliver_walk (ts : List Taken) : (s.deliver ts).walk = s.walk := by
  unfold State.deliver; try dsimp only
  (repeat' split) <;> simp

@[simp] theorem deliver_freeCount (ts : List Taken) : (s.deliver ts).freeCount = s.freeCount := by
  unfold State.deliver; try dsimp only
  (repeat' split) <;> simp

@[simp] theorem deliver_patch (ts : List Taken) (p' : PatchId) : (s.deliver ts).patch p' = s.patch p' :=
  congrArg (fun v : Vector Patch 12 => v.get p') (deliver_patches s ts)

@[simp] theorem deliver_entry (ts : List Taken) (e' : EntryId) : (s.deliver ts).entry e' = s.entry e' :=
  congrArg (fun r : Routes => r.entries.get e') (deliver_routes s ts)

@[simp] theorem deliver_slot (ts : List Taken) (n' : SlotId) : (s.deliver ts).slot n' = s.slot n' :=
  congrArg (fun c : Clips => c.slots.get n') (deliver_clips s ts)

@[simp] theorem deliver_context (ts : List Taken) : (s.deliver ts).context = s.context :=
  congrArg (Clips.context) (deliver_clips s ts)

@[simp] theorem deliver_agency (ts : List Taken) (a' : AgencyId) : (s.deliver ts).agency a' = s.agency a' :=
  congrArg (fun d : Directory => d.agencies.get a') (deliver_directory s ts)

@[simp] theorem deliver_planEntry (ts : List Taken) (i' : PlanId) : (s.deliver ts).planEntry i' = s.planEntry i' :=
  congrArg (fun d : Directory => d.plans.get i') (deliver_directory s ts)

@[simp] theorem deliver_now (ts : List Taken) : (s.deliver ts).now = s.now :=
  congrArg (Link.stamp) (deliver_link s ts)

@[simp] theorem deliver_work (ts : List Taken) : (s.deliver ts).work = s.work :=
  congrArg (fun k : Link => k.inProgress.map InProgress.work) (deliver_link s ts)

@[simp] theorem restoreSlot_pending (n : SlotId) : (s.restoreSlot n).pending = s.pending := by
  unfold State.restoreSlot; try dsimp only
  (repeat' split) <;> simp

@[simp] theorem restoreSlot_legs (n : SlotId) : (s.restoreSlot n).legs = s.legs := by
  unfold State.restoreSlot; try dsimp only
  (repeat' split) <;> simp

@[simp] theorem restoreSlot_directory (n : SlotId) : (s.restoreSlot n).directory = s.directory := by
  unfold State.restoreSlot; try dsimp only
  (repeat' split) <;> simp

@[simp] theorem restoreSlot_patches (n : SlotId) : (s.restoreSlot n).patches = s.patches := by
  unfold State.restoreSlot; try dsimp only
  (repeat' split) <;> simp

@[simp] theorem restoreSlot_routes (n : SlotId) : (s.restoreSlot n).routes = s.routes := by
  unfold State.restoreSlot; try dsimp only
  (repeat' split) <;> simp

@[simp] theorem restoreSlot_link (n : SlotId) : (s.restoreSlot n).link = s.link := by
  unfold State.restoreSlot; try dsimp only
  (repeat' split) <;> simp

@[simp] theorem restoreSlot_order (n : SlotId) : (s.restoreSlot n).order = s.order := by
  unfold State.restoreSlot; try dsimp only
  (repeat' split) <;> simp

@[simp] theorem restoreSlot_walk (n : SlotId) : (s.restoreSlot n).walk = s.walk := by
  unfold State.restoreSlot; try dsimp only
  (repeat' split) <;> simp

@[simp] theorem restoreSlot_freeCount (n : SlotId) : (s.restoreSlot n).freeCount = s.freeCount := by
  unfold State.restoreSlot; try dsimp only
  (repeat' split) <;> simp

@[simp] theorem restoreSlot_leg (n : SlotId) (l' : LegId) : (s.restoreSlot n).leg l' = s.leg l' :=
  congrArg (fun v : Vector Leg 20 => v.get l') (restoreSlot_legs s n)

@[simp] theorem restoreSlot_patch (n : SlotId) (p' : PatchId) : (s.restoreSlot n).patch p' = s.patch p' :=
  congrArg (fun v : Vector Patch 12 => v.get p') (restoreSlot_patches s n)

@[simp] theorem restoreSlot_entry (n : SlotId) (e' : EntryId) : (s.restoreSlot n).entry e' = s.entry e' :=
  congrArg (fun r : Routes => r.entries.get e') (restoreSlot_routes s n)

@[simp] theorem restoreSlot_agency (n : SlotId) (a' : AgencyId) : (s.restoreSlot n).agency a' = s.agency a' :=
  congrArg (fun d : Directory => d.agencies.get a') (restoreSlot_directory s n)

@[simp] theorem restoreSlot_planEntry (n : SlotId) (i' : PlanId) : (s.restoreSlot n).planEntry i' = s.planEntry i' :=
  congrArg (fun d : Directory => d.plans.get i') (restoreSlot_directory s n)

@[simp] theorem restoreSlot_now (n : SlotId) : (s.restoreSlot n).now = s.now :=
  congrArg (Link.stamp) (restoreSlot_link s n)

@[simp] theorem restoreSlot_work (n : SlotId) : (s.restoreSlot n).work = s.work :=
  congrArg (fun k : Link => k.inProgress.map InProgress.work) (restoreSlot_link s n)

@[simp] theorem clipGranted_pending : (s.clipGranted).pending = s.pending := by
  unfold State.clipGranted; try dsimp only
  (repeat' split) <;> simp

@[simp] theorem clipGranted_legs : (s.clipGranted).legs = s.legs := by
  unfold State.clipGranted; try dsimp only
  (repeat' split) <;> simp

@[simp] theorem clipGranted_directory : (s.clipGranted).directory = s.directory := by
  unfold State.clipGranted; try dsimp only
  (repeat' split) <;> simp

@[simp] theorem clipGranted_patches : (s.clipGranted).patches = s.patches := by
  unfold State.clipGranted; try dsimp only
  (repeat' split) <;> simp

@[simp] theorem clipGranted_routes : (s.clipGranted).routes = s.routes := by
  unfold State.clipGranted; try dsimp only
  (repeat' split) <;> simp

@[simp] theorem clipGranted_link : (s.clipGranted).link = s.link := by
  unfold State.clipGranted; try dsimp only
  (repeat' split) <;> simp

@[simp] theorem clipGranted_order : (s.clipGranted).order = s.order := by
  unfold State.clipGranted; try dsimp only
  (repeat' split) <;> simp

@[simp] theorem clipGranted_walk : (s.clipGranted).walk = s.walk := by
  unfold State.clipGranted; try dsimp only
  (repeat' split) <;> simp

@[simp] theorem clipGranted_freeCount : (s.clipGranted).freeCount = s.freeCount := by
  unfold State.clipGranted; try dsimp only
  (repeat' split) <;> simp

@[simp] theorem clipGranted_leg (l' : LegId) : (s.clipGranted).leg l' = s.leg l' :=
  congrArg (fun v : Vector Leg 20 => v.get l') (clipGranted_legs s)

@[simp] theorem clipGranted_patch (p' : PatchId) : (s.clipGranted).patch p' = s.patch p' :=
  congrArg (fun v : Vector Patch 12 => v.get p') (clipGranted_patches s)

@[simp] theorem clipGranted_entry (e' : EntryId) : (s.clipGranted).entry e' = s.entry e' :=
  congrArg (fun r : Routes => r.entries.get e') (clipGranted_routes s)

@[simp] theorem clipGranted_agency (a' : AgencyId) : (s.clipGranted).agency a' = s.agency a' :=
  congrArg (fun d : Directory => d.agencies.get a') (clipGranted_directory s)

@[simp] theorem clipGranted_planEntry (i' : PlanId) : (s.clipGranted).planEntry i' = s.planEntry i' :=
  congrArg (fun d : Directory => d.plans.get i') (clipGranted_directory s)

@[simp] theorem clipGranted_now : (s.clipGranted).now = s.now :=
  congrArg (Link.stamp) (clipGranted_link s)

@[simp] theorem clipGranted_work : (s.clipGranted).work = s.work :=
  congrArg (fun k : Link => k.inProgress.map InProgress.work) (clipGranted_link s)

@[simp] theorem clearPlayback_pending : (s.clearPlayback).pending = s.pending := by
  unfold State.clearPlayback; try dsimp only
  (repeat' split) <;> simp

@[simp] theorem clearPlayback_legs : (s.clearPlayback).legs = s.legs := by
  unfold State.clearPlayback; try dsimp only
  (repeat' split) <;> simp

@[simp] theorem clearPlayback_directory : (s.clearPlayback).directory = s.directory := by
  unfold State.clearPlayback; try dsimp only
  (repeat' split) <;> simp

@[simp] theorem clearPlayback_patches : (s.clearPlayback).patches = s.patches := by
  unfold State.clearPlayback; try dsimp only
  (repeat' split) <;> simp

@[simp] theorem clearPlayback_routes : (s.clearPlayback).routes = s.routes := by
  unfold State.clearPlayback; try dsimp only
  (repeat' split) <;> simp

@[simp] theorem clearPlayback_link : (s.clearPlayback).link = s.link := by
  unfold State.clearPlayback; try dsimp only
  (repeat' split) <;> simp

@[simp] theorem clearPlayback_order : (s.clearPlayback).order = s.order := by
  unfold State.clearPlayback; try dsimp only
  (repeat' split) <;> simp

@[simp] theorem clearPlayback_walk : (s.clearPlayback).walk = s.walk := by
  unfold State.clearPlayback; try dsimp only
  (repeat' split) <;> simp

@[simp] theorem clearPlayback_freeCount : (s.clearPlayback).freeCount = s.freeCount := by
  unfold State.clearPlayback; try dsimp only
  (repeat' split) <;> simp

@[simp] theorem clearPlayback_leg (l' : LegId) : (s.clearPlayback).leg l' = s.leg l' :=
  congrArg (fun v : Vector Leg 20 => v.get l') (clearPlayback_legs s)

@[simp] theorem clearPlayback_patch (p' : PatchId) : (s.clearPlayback).patch p' = s.patch p' :=
  congrArg (fun v : Vector Patch 12 => v.get p') (clearPlayback_patches s)

@[simp] theorem clearPlayback_entry (e' : EntryId) : (s.clearPlayback).entry e' = s.entry e' :=
  congrArg (fun r : Routes => r.entries.get e') (clearPlayback_routes s)

@[simp] theorem clearPlayback_agency (a' : AgencyId) : (s.clearPlayback).agency a' = s.agency a' :=
  congrArg (fun d : Directory => d.agencies.get a') (clearPlayback_directory s)

@[simp] theorem clearPlayback_planEntry (i' : PlanId) : (s.clearPlayback).planEntry i' = s.planEntry i' :=
  congrArg (fun d : Directory => d.plans.get i') (clearPlayback_directory s)

@[simp] theorem clearPlayback_now : (s.clearPlayback).now = s.now :=
  congrArg (Link.stamp) (clearPlayback_link s)

@[simp] theorem clearPlayback_work : (s.clearPlayback).work = s.work :=
  congrArg (fun k : Link => k.inProgress.map InProgress.work) (clearPlayback_link s)

@[simp] theorem offerClip_pending (c : Context) (r : EndReason) : (s.offerClip c r).pending = s.pending := by
  unfold State.offerClip; try dsimp only
  (repeat' split) <;> simp

@[simp] theorem offerClip_legs (c : Context) (r : EndReason) : (s.offerClip c r).legs = s.legs := by
  unfold State.offerClip; try dsimp only
  (repeat' split) <;> simp

@[simp] theorem offerClip_directory (c : Context) (r : EndReason) : (s.offerClip c r).directory = s.directory := by
  unfold State.offerClip; try dsimp only
  (repeat' split) <;> simp

@[simp] theorem offerClip_patches (c : Context) (r : EndReason) : (s.offerClip c r).patches = s.patches := by
  unfold State.offerClip; try dsimp only
  (repeat' split) <;> simp

@[simp] theorem offerClip_routes (c : Context) (r : EndReason) : (s.offerClip c r).routes = s.routes := by
  unfold State.offerClip; try dsimp only
  (repeat' split) <;> simp

@[simp] theorem offerClip_clips (c : Context) (r : EndReason) : (s.offerClip c r).clips = s.clips := by
  unfold State.offerClip; try dsimp only
  (repeat' split) <;> simp

@[simp] theorem offerClip_order (c : Context) (r : EndReason) : (s.offerClip c r).order = s.order := by
  unfold State.offerClip; try dsimp only
  (repeat' split) <;> simp

@[simp] theorem offerClip_walk (c : Context) (r : EndReason) : (s.offerClip c r).walk = s.walk := by
  unfold State.offerClip; try dsimp only
  (repeat' split) <;> simp

@[simp] theorem offerClip_freeCount (c : Context) (r : EndReason) : (s.offerClip c r).freeCount = s.freeCount := by
  unfold State.offerClip; try dsimp only
  (repeat' split) <;> simp

@[simp] theorem offerClip_leg (c : Context) (r : EndReason) (l' : LegId) : (s.offerClip c r).leg l' = s.leg l' :=
  congrArg (fun v : Vector Leg 20 => v.get l') (offerClip_legs s c r)

@[simp] theorem offerClip_patch (c : Context) (r : EndReason) (p' : PatchId) : (s.offerClip c r).patch p' = s.patch p' :=
  congrArg (fun v : Vector Patch 12 => v.get p') (offerClip_patches s c r)

@[simp] theorem offerClip_entry (c : Context) (r : EndReason) (e' : EntryId) : (s.offerClip c r).entry e' = s.entry e' :=
  congrArg (fun r : Routes => r.entries.get e') (offerClip_routes s c r)

@[simp] theorem offerClip_slot (c : Context) (r : EndReason) (n' : SlotId) : (s.offerClip c r).slot n' = s.slot n' :=
  congrArg (fun c : Clips => c.slots.get n') (offerClip_clips s c r)

@[simp] theorem offerClip_context (c : Context) (r : EndReason) : (s.offerClip c r).context = s.context :=
  congrArg (Clips.context) (offerClip_clips s c r)

@[simp] theorem offerClip_agency (c : Context) (r : EndReason) (a' : AgencyId) : (s.offerClip c r).agency a' = s.agency a' :=
  congrArg (fun d : Directory => d.agencies.get a') (offerClip_directory s c r)

@[simp] theorem offerClip_planEntry (c : Context) (r : EndReason) (i' : PlanId) : (s.offerClip c r).planEntry i' = s.planEntry i' :=
  congrArg (fun d : Directory => d.plans.get i') (offerClip_directory s c r)

@[simp] theorem endUnreported_pending (r : EndReason) : (s.endUnreported r).pending = s.pending := by
  unfold State.endUnreported; try dsimp only
  (repeat' split) <;> simp

@[simp] theorem endUnreported_legs (r : EndReason) : (s.endUnreported r).legs = s.legs := by
  unfold State.endUnreported; try dsimp only
  (repeat' split) <;> simp

@[simp] theorem endUnreported_directory (r : EndReason) : (s.endUnreported r).directory = s.directory := by
  unfold State.endUnreported; try dsimp only
  (repeat' split) <;> simp

@[simp] theorem endUnreported_patches (r : EndReason) : (s.endUnreported r).patches = s.patches := by
  unfold State.endUnreported; try dsimp only
  (repeat' split) <;> simp

@[simp] theorem endUnreported_routes (r : EndReason) : (s.endUnreported r).routes = s.routes := by
  unfold State.endUnreported; try dsimp only
  (repeat' split) <;> simp

@[simp] theorem endUnreported_order (r : EndReason) : (s.endUnreported r).order = s.order := by
  unfold State.endUnreported; try dsimp only
  (repeat' split) <;> simp

@[simp] theorem endUnreported_walk (r : EndReason) : (s.endUnreported r).walk = s.walk := by
  unfold State.endUnreported; try dsimp only
  (repeat' split) <;> simp

@[simp] theorem endUnreported_freeCount (r : EndReason) : (s.endUnreported r).freeCount = s.freeCount := by
  unfold State.endUnreported; try dsimp only
  (repeat' split) <;> simp

@[simp] theorem endUnreported_leg (r : EndReason) (l' : LegId) : (s.endUnreported r).leg l' = s.leg l' :=
  congrArg (fun v : Vector Leg 20 => v.get l') (endUnreported_legs s r)

@[simp] theorem endUnreported_patch (r : EndReason) (p' : PatchId) : (s.endUnreported r).patch p' = s.patch p' :=
  congrArg (fun v : Vector Patch 12 => v.get p') (endUnreported_patches s r)

@[simp] theorem endUnreported_entry (r : EndReason) (e' : EntryId) : (s.endUnreported r).entry e' = s.entry e' :=
  congrArg (fun r : Routes => r.entries.get e') (endUnreported_routes s r)

@[simp] theorem endUnreported_agency (r : EndReason) (a' : AgencyId) : (s.endUnreported r).agency a' = s.agency a' :=
  congrArg (fun d : Directory => d.agencies.get a') (endUnreported_directory s r)

@[simp] theorem endUnreported_planEntry (r : EndReason) (i' : PlanId) : (s.endUnreported r).planEntry i' = s.planEntry i' :=
  congrArg (fun d : Directory => d.plans.get i') (endUnreported_directory s r)

@[simp] theorem purge_pending (sel : Selector) (r : Requester) : (s.purge sel r).1.pending = s.pending := by
  unfold State.purge; dsimp only; split <;> simp

@[simp] theorem purge_legs (sel : Selector) (r : Requester) : (s.purge sel r).1.legs = s.legs := by
  unfold State.purge; dsimp only; split <;> simp

@[simp] theorem purge_directory (sel : Selector) (r : Requester) : (s.purge sel r).1.directory = s.directory := by
  unfold State.purge; dsimp only; split <;> simp

@[simp] theorem purge_clips (sel : Selector) (r : Requester) : (s.purge sel r).1.clips = s.clips := by
  unfold State.purge; dsimp only; split <;> simp

@[simp] theorem purge_link (sel : Selector) (r : Requester) : (s.purge sel r).1.link = s.link := by
  unfold State.purge; dsimp only; split <;> simp

@[simp] theorem purge_order (sel : Selector) (r : Requester) : (s.purge sel r).1.order = s.order := by
  unfold State.purge; dsimp only; split <;> simp

@[simp] theorem purge_walk (sel : Selector) (r : Requester) : (s.purge sel r).1.walk = s.walk := by
  unfold State.purge; dsimp only; split <;> simp

@[simp] theorem purge_freeCount (sel : Selector) (r : Requester) : (s.purge sel r).1.freeCount = s.freeCount := by
  unfold State.purge; dsimp only; split <;> simp

/-- A purge between frames completes at once (R138). -/
theorem purge_betweenFrames (sel : Selector) (r : Requester) (h : s.routes.frame = none) :
    s.purge sel r = (s.freeEntries (s.purged sel), true) := by
  simp [State.purge, h]

/-- A purge that takes no entry and joins no earlier one completes at once (R140, log 32). -/
theorem purge_ofNone (sel : Selector) (r : Requester) (h : s.purged sel = []) (j : s.joinsPurge sel = false) :
    s.purge sel r = (s.freeEntries [], true) := by
  simp [State.purge, h, j]

/-- A purge in a frame that takes an entry or joins an earlier purge waits for the frame's done (R138, log 32). -/
theorem purge_inFrame (sel : Selector) (r : Requester) (h : s.routes.frame ≠ none)
    (w : s.purged sel ≠ [] ∨ s.joinsPurge sel = true) : (s.purge sel r).2 = false := by
  rcases w with w | w <;> simp [State.purge, h, w]

/-- What a waiting purge leaves: itself at the end of the purges outstanding (R138). -/
theorem purge_waiting (sel : Selector) (r : Requester) (w : (s.purge sel r).2 = false) :
    (s.purge sel r).1.routes.purges = s.routes.purges ++ [⟨r, s.purged sel⟩] := by
  unfold State.purge at w ⊢; dsimp only at w ⊢; split
  · rename_i h; rw [if_pos h] at w; cases w
  · simp [State.mapEntries]

@[simp] theorem supplyClip_pending : s.supplyClip.2.pending = s.pending := by
  unfold State.supplyClip; dsimp only; (repeat' split) <;> simp

@[simp] theorem supplyClip_legs : s.supplyClip.2.legs = s.legs := by
  unfold State.supplyClip; dsimp only; (repeat' split) <;> simp

@[simp] theorem supplyClip_directory : s.supplyClip.2.directory = s.directory := by
  unfold State.supplyClip; dsimp only; (repeat' split) <;> simp

@[simp] theorem supplyClip_patches : s.supplyClip.2.patches = s.patches := by
  unfold State.supplyClip; dsimp only; (repeat' split) <;> simp

@[simp] theorem supplyClip_routes : s.supplyClip.2.routes = s.routes := by
  unfold State.supplyClip; dsimp only; (repeat' split) <;> simp

@[simp] theorem supplyClip_link : s.supplyClip.2.link = s.link := by
  unfold State.supplyClip; dsimp only; (repeat' split) <;> simp

@[simp] theorem supplyClip_order : s.supplyClip.2.order = s.order := by
  unfold State.supplyClip; dsimp only; (repeat' split) <;> simp

@[simp] theorem supplyClip_walk : s.supplyClip.2.walk = s.walk := by
  unfold State.supplyClip; dsimp only; (repeat' split) <;> simp

@[simp] theorem enqueue_pending (p : PatchId) (c : Claim) : (s.enqueue p c).pending = s.pending := by
  unfold State.enqueue; try dsimp only
  (repeat' split) <;> simp

@[simp] theorem enqueue_legs (p : PatchId) (c : Claim) : (s.enqueue p c).legs = s.legs := by
  unfold State.enqueue; try dsimp only
  (repeat' split) <;> simp

@[simp] theorem enqueue_directory (p : PatchId) (c : Claim) : (s.enqueue p c).directory = s.directory := by
  unfold State.enqueue; try dsimp only
  (repeat' split) <;> simp

@[simp] theorem enqueue_routes (p : PatchId) (c : Claim) : (s.enqueue p c).routes = s.routes := by
  unfold State.enqueue; try dsimp only
  (repeat' split) <;> simp

@[simp] theorem enqueue_clips (p : PatchId) (c : Claim) : (s.enqueue p c).clips = s.clips := by
  unfold State.enqueue; try dsimp only
  (repeat' split) <;> simp

@[simp] theorem enqueue_link (p : PatchId) (c : Claim) : (s.enqueue p c).link = s.link := by
  unfold State.enqueue; try dsimp only
  (repeat' split) <;> simp

@[simp] theorem enqueue_order (p : PatchId) (c : Claim) : (s.enqueue p c).order = s.order := by
  unfold State.enqueue; try dsimp only
  (repeat' split) <;> simp

@[simp] theorem enqueue_walk (p : PatchId) (c : Claim) : (s.enqueue p c).walk = s.walk := by
  unfold State.enqueue; try dsimp only
  (repeat' split) <;> simp

@[simp] theorem enqueue_freeCount (p : PatchId) (c : Claim) : (s.enqueue p c).freeCount = s.freeCount := by
  unfold State.enqueue; try dsimp only
  (repeat' split) <;> simp

@[simp] theorem enqueue_leg (p : PatchId) (c : Claim) (l' : LegId) : (s.enqueue p c).leg l' = s.leg l' :=
  congrArg (fun v : Vector Leg 20 => v.get l') (enqueue_legs s p c)

@[simp] theorem enqueue_entry (p : PatchId) (c : Claim) (e' : EntryId) : (s.enqueue p c).entry e' = s.entry e' :=
  congrArg (fun r : Routes => r.entries.get e') (enqueue_routes s p c)

@[simp] theorem enqueue_slot (p : PatchId) (c : Claim) (n' : SlotId) : (s.enqueue p c).slot n' = s.slot n' :=
  congrArg (fun c : Clips => c.slots.get n') (enqueue_clips s p c)

@[simp] theorem enqueue_context (p : PatchId) (c : Claim) : (s.enqueue p c).context = s.context :=
  congrArg (Clips.context) (enqueue_clips s p c)

@[simp] theorem enqueue_agency (p : PatchId) (c : Claim) (a' : AgencyId) : (s.enqueue p c).agency a' = s.agency a' :=
  congrArg (fun d : Directory => d.agencies.get a') (enqueue_directory s p c)

@[simp] theorem enqueue_planEntry (p : PatchId) (c : Claim) (i' : PlanId) : (s.enqueue p c).planEntry i' = s.planEntry i' :=
  congrArg (fun d : Directory => d.plans.get i') (enqueue_directory s p c)

@[simp] theorem enqueue_now (p : PatchId) (c : Claim) : (s.enqueue p c).now = s.now :=
  congrArg (Link.stamp) (enqueue_link s p c)

@[simp] theorem enqueue_work (p : PatchId) (c : Claim) : (s.enqueue p c).work = s.work :=
  congrArg (fun k : Link => k.inProgress.map InProgress.work) (enqueue_link s p c)

@[simp] theorem demands_pending (p : PatchId) (on : LegId → Bool) : (s.demands p on).pending = s.pending := by
  unfold State.demands
  generalize (s.patch p).members = ms
  induction ms generalizing s with
  | nil => rfl
  | cons m ms ih => rw [List.foldl_cons, ih]; split <;> simp

@[simp] theorem demands_directory (p : PatchId) (on : LegId → Bool) : (s.demands p on).directory = s.directory := by
  unfold State.demands
  generalize (s.patch p).members = ms
  induction ms generalizing s with
  | nil => rfl
  | cons m ms ih => rw [List.foldl_cons, ih]; split <;> simp

@[simp] theorem demands_routes (p : PatchId) (on : LegId → Bool) : (s.demands p on).routes = s.routes := by
  unfold State.demands
  generalize (s.patch p).members = ms
  induction ms generalizing s with
  | nil => rfl
  | cons m ms ih => rw [List.foldl_cons, ih]; split <;> simp

@[simp] theorem demands_clips (p : PatchId) (on : LegId → Bool) : (s.demands p on).clips = s.clips := by
  unfold State.demands
  generalize (s.patch p).members = ms
  induction ms generalizing s with
  | nil => rfl
  | cons m ms ih => rw [List.foldl_cons, ih]; split <;> simp

@[simp] theorem demands_order (p : PatchId) (on : LegId → Bool) : (s.demands p on).order = s.order := by
  unfold State.demands
  generalize (s.patch p).members = ms
  induction ms generalizing s with
  | nil => rfl
  | cons m ms ih => rw [List.foldl_cons, ih]; split <;> simp

@[simp] theorem demands_walk (p : PatchId) (on : LegId → Bool) : (s.demands p on).walk = s.walk := by
  unfold State.demands
  generalize (s.patch p).members = ms
  induction ms generalizing s with
  | nil => rfl
  | cons m ms ih => rw [List.foldl_cons, ih]; split <;> simp

@[simp] theorem demands_freeCount (p : PatchId) (on : LegId → Bool) : (s.demands p on).freeCount = s.freeCount := by
  unfold State.demands
  generalize (s.patch p).members = ms
  induction ms generalizing s with
  | nil => rfl
  | cons m ms ih => rw [List.foldl_cons, ih]; split <;> simp

@[simp] theorem demands_entry (p : PatchId) (on : LegId → Bool) (e' : EntryId) : (s.demands p on).entry e' = s.entry e' :=
  congrArg (fun r : Routes => r.entries.get e') (demands_routes s p on)

@[simp] theorem demands_slot (p : PatchId) (on : LegId → Bool) (n' : SlotId) : (s.demands p on).slot n' = s.slot n' :=
  congrArg (fun c : Clips => c.slots.get n') (demands_clips s p on)

@[simp] theorem demands_context (p : PatchId) (on : LegId → Bool) : (s.demands p on).context = s.context :=
  congrArg (Clips.context) (demands_clips s p on)

@[simp] theorem demands_agency (p : PatchId) (on : LegId → Bool) (a' : AgencyId) : (s.demands p on).agency a' = s.agency a' :=
  congrArg (fun d : Directory => d.agencies.get a') (demands_directory s p on)

@[simp] theorem demands_planEntry (p : PatchId) (on : LegId → Bool) (i' : PlanId) : (s.demands p on).planEntry i' = s.planEntry i' :=
  congrArg (fun d : Directory => d.plans.get i') (demands_directory s p on)

@[simp] theorem grant_pending (p : PatchId) (y : Party) (z : Bool) (t : ClaimTime) : (s.grant p y z t).pending = s.pending := by
  unfold State.grant; try dsimp only
  (repeat' split) <;> simp

@[simp] theorem grant_directory (p : PatchId) (y : Party) (z : Bool) (t : ClaimTime) : (s.grant p y z t).directory = s.directory := by
  unfold State.grant; try dsimp only
  (repeat' split) <;> simp

@[simp] theorem grant_order (p : PatchId) (y : Party) (z : Bool) (t : ClaimTime) : (s.grant p y z t).order = s.order := by
  unfold State.grant; try dsimp only
  (repeat' split) <;> simp

@[simp] theorem grant_walk (p : PatchId) (y : Party) (z : Bool) (t : ClaimTime) : (s.grant p y z t).walk = s.walk := by
  unfold State.grant; try dsimp only
  (repeat' split) <;> simp

@[simp] theorem grant_freeCount (p : PatchId) (y : Party) (z : Bool) (t : ClaimTime) : (s.grant p y z t).freeCount = s.freeCount := by
  unfold State.grant; try dsimp only
  (repeat' split) <;> simp

@[simp] theorem grant_agency (p : PatchId) (y : Party) (z : Bool) (t : ClaimTime) (a' : AgencyId) : (s.grant p y z t).agency a' = s.agency a' :=
  congrArg (fun d : Directory => d.agencies.get a') (grant_directory s p y z t)

@[simp] theorem grant_planEntry (p : PatchId) (y : Party) (z : Bool) (t : ClaimTime) (i' : PlanId) : (s.grant p y z t).planEntry i' = s.planEntry i' :=
  congrArg (fun d : Directory => d.plans.get i') (grant_directory s p y z t)

@[simp] theorem putBack_pending (p : PatchId) (o : LegId) : (s.putBack p o).pending = s.pending := by
  unfold State.putBack; try dsimp only
  (repeat' split) <;> simp

@[simp] theorem putBack_legs (p : PatchId) (o : LegId) : (s.putBack p o).legs = s.legs := by
  unfold State.putBack; try dsimp only
  (repeat' split) <;> simp

@[simp] theorem putBack_directory (p : PatchId) (o : LegId) : (s.putBack p o).directory = s.directory := by
  unfold State.putBack; try dsimp only
  (repeat' split) <;> simp

@[simp] theorem putBack_routes (p : PatchId) (o : LegId) : (s.putBack p o).routes = s.routes := by
  unfold State.putBack; try dsimp only
  (repeat' split) <;> simp

@[simp] theorem putBack_clips (p : PatchId) (o : LegId) : (s.putBack p o).clips = s.clips := by
  unfold State.putBack; try dsimp only
  (repeat' split) <;> simp

@[simp] theorem putBack_link (p : PatchId) (o : LegId) : (s.putBack p o).link = s.link := by
  unfold State.putBack; try dsimp only
  (repeat' split) <;> simp

@[simp] theorem putBack_walk (p : PatchId) (o : LegId) : (s.putBack p o).walk = s.walk := by
  unfold State.putBack; try dsimp only
  (repeat' split) <;> simp

@[simp] theorem putBack_freeCount (p : PatchId) (o : LegId) : (s.putBack p o).freeCount = s.freeCount := by
  unfold State.putBack; try dsimp only
  (repeat' split) <;> simp

@[simp] theorem putBack_leg (p : PatchId) (o : LegId) (l' : LegId) : (s.putBack p o).leg l' = s.leg l' :=
  congrArg (fun v : Vector Leg 20 => v.get l') (putBack_legs s p o)

@[simp] theorem putBack_entry (p : PatchId) (o : LegId) (e' : EntryId) : (s.putBack p o).entry e' = s.entry e' :=
  congrArg (fun r : Routes => r.entries.get e') (putBack_routes s p o)

@[simp] theorem putBack_slot (p : PatchId) (o : LegId) (n' : SlotId) : (s.putBack p o).slot n' = s.slot n' :=
  congrArg (fun c : Clips => c.slots.get n') (putBack_clips s p o)

@[simp] theorem putBack_context (p : PatchId) (o : LegId) : (s.putBack p o).context = s.context :=
  congrArg (Clips.context) (putBack_clips s p o)

@[simp] theorem putBack_agency (p : PatchId) (o : LegId) (a' : AgencyId) : (s.putBack p o).agency a' = s.agency a' :=
  congrArg (fun d : Directory => d.agencies.get a') (putBack_directory s p o)

@[simp] theorem putBack_planEntry (p : PatchId) (o : LegId) (i' : PlanId) : (s.putBack p o).planEntry i' = s.planEntry i' :=
  congrArg (fun d : Directory => d.plans.get i') (putBack_directory s p o)

@[simp] theorem putBack_now (p : PatchId) (o : LegId) : (s.putBack p o).now = s.now :=
  congrArg (Link.stamp) (putBack_link s p o)

@[simp] theorem putBack_work (p : PatchId) (o : LegId) : (s.putBack p o).work = s.work :=
  congrArg (fun k : Link => k.inProgress.map InProgress.work) (putBack_link s p o)

@[simp] theorem preempt_pending (p : PatchId) (y : Party) (z : Bool) (t : ClaimTime) : (s.preempt p y z t).pending = s.pending := by
  unfold State.preempt; try dsimp only
  (repeat' split) <;> simp

@[simp] theorem preempt_directory (p : PatchId) (y : Party) (z : Bool) (t : ClaimTime) : (s.preempt p y z t).directory = s.directory := by
  unfold State.preempt; try dsimp only
  (repeat' split) <;> simp

@[simp] theorem preempt_walk (p : PatchId) (y : Party) (z : Bool) (t : ClaimTime) : (s.preempt p y z t).walk = s.walk := by
  unfold State.preempt; try dsimp only
  (repeat' split) <;> simp

@[simp] theorem preempt_freeCount (p : PatchId) (y : Party) (z : Bool) (t : ClaimTime) : (s.preempt p y z t).freeCount = s.freeCount := by
  unfold State.preempt; try dsimp only
  (repeat' split) <;> simp

@[simp] theorem preempt_agency (p : PatchId) (y : Party) (z : Bool) (t : ClaimTime) (a' : AgencyId) : (s.preempt p y z t).agency a' = s.agency a' :=
  congrArg (fun d : Directory => d.agencies.get a') (preempt_directory s p y z t)

@[simp] theorem preempt_planEntry (p : PatchId) (y : Party) (z : Bool) (t : ClaimTime) (i' : PlanId) : (s.preempt p y z t).planEntry i' = s.planEntry i' :=
  congrArg (fun d : Directory => d.plans.get i') (preempt_directory s p y z t)

@[simp] theorem enterIdle_pending (p : PatchId) : (s.enterIdle p).pending = s.pending := by
  unfold State.enterIdle; try dsimp only
  (repeat' split) <;> simp

@[simp] theorem enterIdle_directory (p : PatchId) : (s.enterIdle p).directory = s.directory := by
  unfold State.enterIdle; try dsimp only
  (repeat' split) <;> simp

@[simp] theorem enterIdle_clips (p : PatchId) : (s.enterIdle p).clips = s.clips := by
  unfold State.enterIdle; try dsimp only
  (repeat' split) <;> simp

@[simp] theorem enterIdle_order (p : PatchId) : (s.enterIdle p).order = s.order := by
  unfold State.enterIdle; try dsimp only
  (repeat' split) <;> simp

@[simp] theorem enterIdle_walk (p : PatchId) : (s.enterIdle p).walk = s.walk := by
  unfold State.enterIdle; try dsimp only
  (repeat' split) <;> simp

@[simp] theorem enterIdle_freeCount (p : PatchId) : (s.enterIdle p).freeCount = s.freeCount := by
  unfold State.enterIdle; try dsimp only
  (repeat' split) <;> simp

@[simp] theorem enterIdle_slot (p : PatchId) (n' : SlotId) : (s.enterIdle p).slot n' = s.slot n' :=
  congrArg (fun c : Clips => c.slots.get n') (enterIdle_clips s p)

@[simp] theorem enterIdle_context (p : PatchId) : (s.enterIdle p).context = s.context :=
  congrArg (Clips.context) (enterIdle_clips s p)

@[simp] theorem enterIdle_agency (p : PatchId) (a' : AgencyId) : (s.enterIdle p).agency a' = s.agency a' :=
  congrArg (fun d : Directory => d.agencies.get a') (enterIdle_directory s p)

@[simp] theorem enterIdle_planEntry (p : PatchId) (i' : PlanId) : (s.enterIdle p).planEntry i' = s.planEntry i' :=
  congrArg (fun d : Directory => d.plans.get i') (enterIdle_directory s p)

@[simp] theorem enterHang_pending (p : PatchId) : (s.enterHang p).pending = s.pending := by
  unfold State.enterHang; try dsimp only
  (repeat' split) <;> simp

@[simp] theorem enterHang_legs (p : PatchId) : (s.enterHang p).legs = s.legs := by
  unfold State.enterHang; try dsimp only
  (repeat' split) <;> simp

@[simp] theorem enterHang_directory (p : PatchId) : (s.enterHang p).directory = s.directory := by
  unfold State.enterHang; try dsimp only
  (repeat' split) <;> simp

@[simp] theorem enterHang_clips (p : PatchId) : (s.enterHang p).clips = s.clips := by
  unfold State.enterHang; try dsimp only
  (repeat' split) <;> simp

@[simp] theorem enterHang_link (p : PatchId) : (s.enterHang p).link = s.link := by
  unfold State.enterHang; try dsimp only
  (repeat' split) <;> simp

@[simp] theorem enterHang_order (p : PatchId) : (s.enterHang p).order = s.order := by
  unfold State.enterHang; try dsimp only
  (repeat' split) <;> simp

@[simp] theorem enterHang_walk (p : PatchId) : (s.enterHang p).walk = s.walk := by
  unfold State.enterHang; try dsimp only
  (repeat' split) <;> simp

@[simp] theorem enterHang_freeCount (p : PatchId) : (s.enterHang p).freeCount = s.freeCount := by
  unfold State.enterHang; try dsimp only
  (repeat' split) <;> simp

@[simp] theorem enterHang_leg (p : PatchId) (l' : LegId) : (s.enterHang p).leg l' = s.leg l' :=
  congrArg (fun v : Vector Leg 20 => v.get l') (enterHang_legs s p)

@[simp] theorem enterHang_slot (p : PatchId) (n' : SlotId) : (s.enterHang p).slot n' = s.slot n' :=
  congrArg (fun c : Clips => c.slots.get n') (enterHang_clips s p)

@[simp] theorem enterHang_context (p : PatchId) : (s.enterHang p).context = s.context :=
  congrArg (Clips.context) (enterHang_clips s p)

@[simp] theorem enterHang_agency (p : PatchId) (a' : AgencyId) : (s.enterHang p).agency a' = s.agency a' :=
  congrArg (fun d : Directory => d.agencies.get a') (enterHang_directory s p)

@[simp] theorem enterHang_planEntry (p : PatchId) (i' : PlanId) : (s.enterHang p).planEntry i' = s.planEntry i' :=
  congrArg (fun d : Directory => d.plans.get i') (enterHang_directory s p)

@[simp] theorem enterHang_now (p : PatchId) : (s.enterHang p).now = s.now :=
  congrArg (Link.stamp) (enterHang_link s p)

@[simp] theorem enterHang_work (p : PatchId) : (s.enterHang p).work = s.work :=
  congrArg (fun k : Link => k.inProgress.map InProgress.work) (enterHang_link s p)

@[simp] theorem pass_pending (p : PatchId) : (s.pass p).pending = s.pending := by
  unfold State.pass; try dsimp only
  (repeat' split) <;> simp

@[simp] theorem pass_directory (p : PatchId) : (s.pass p).directory = s.directory := by
  unfold State.pass; try dsimp only
  (repeat' split) <;> simp

@[simp] theorem pass_order (p : PatchId) : (s.pass p).order = s.order := by
  unfold State.pass; try dsimp only
  (repeat' split) <;> simp

@[simp] theorem pass_walk (p : PatchId) : (s.pass p).walk = s.walk := by
  unfold State.pass; try dsimp only
  (repeat' split) <;> simp

@[simp] theorem pass_freeCount (p : PatchId) : (s.pass p).freeCount = s.freeCount := by
  unfold State.pass; try dsimp only
  (repeat' split) <;> simp

@[simp] theorem pass_agency (p : PatchId) (a' : AgencyId) : (s.pass p).agency a' = s.agency a' :=
  congrArg (fun d : Directory => d.agencies.get a') (pass_directory s p)

@[simp] theorem pass_planEntry (p : PatchId) (i' : PlanId) : (s.pass p).planEntry i' = s.planEntry i' :=
  congrArg (fun d : Directory => d.plans.get i') (pass_directory s p)

@[simp] theorem ownerStops_pending (p : PatchId) : (s.ownerStops p).pending = s.pending := by
  unfold State.ownerStops; try dsimp only
  (repeat' split) <;> simp

@[simp] theorem ownerStops_directory (p : PatchId) : (s.ownerStops p).directory = s.directory := by
  unfold State.ownerStops; try dsimp only
  (repeat' split) <;> simp

@[simp] theorem ownerStops_order (p : PatchId) : (s.ownerStops p).order = s.order := by
  unfold State.ownerStops; try dsimp only
  (repeat' split) <;> simp

@[simp] theorem ownerStops_walk (p : PatchId) : (s.ownerStops p).walk = s.walk := by
  unfold State.ownerStops; try dsimp only
  (repeat' split) <;> simp

@[simp] theorem ownerStops_freeCount (p : PatchId) : (s.ownerStops p).freeCount = s.freeCount := by
  unfold State.ownerStops; try dsimp only
  (repeat' split) <;> simp

@[simp] theorem ownerStops_agency (p : PatchId) (a' : AgencyId) : (s.ownerStops p).agency a' = s.agency a' :=
  congrArg (fun d : Directory => d.agencies.get a') (ownerStops_directory s p)

@[simp] theorem ownerStops_planEntry (p : PatchId) (i' : PlanId) : (s.ownerStops p).planEntry i' = s.planEntry i' :=
  congrArg (fun d : Directory => d.plans.get i') (ownerStops_directory s p)

@[simp] theorem claimArrives_pending (p : PatchId) (y : Party) : (s.claimArrives p y).pending = s.pending := by
  unfold State.claimArrives; try dsimp only
  (repeat' split) <;> simp

@[simp] theorem claimArrives_directory (p : PatchId) (y : Party) : (s.claimArrives p y).directory = s.directory := by
  unfold State.claimArrives; try dsimp only
  (repeat' split) <;> simp

@[simp] theorem claimArrives_walk (p : PatchId) (y : Party) : (s.claimArrives p y).walk = s.walk := by
  unfold State.claimArrives; try dsimp only
  (repeat' split) <;> simp

@[simp] theorem claimArrives_freeCount (p : PatchId) (y : Party) : (s.claimArrives p y).freeCount = s.freeCount := by
  unfold State.claimArrives; try dsimp only
  (repeat' split) <;> simp

@[simp] theorem claimArrives_agency (p : PatchId) (y : Party) (a' : AgencyId) : (s.claimArrives p y).agency a' = s.agency a' :=
  congrArg (fun d : Directory => d.agencies.get a') (claimArrives_directory s p y)

@[simp] theorem claimArrives_planEntry (p : PatchId) (y : Party) (i' : PlanId) : (s.claimArrives p y).planEntry i' = s.planEntry i' :=
  congrArg (fun d : Directory => d.plans.get i') (claimArrives_directory s p y)

@[simp] theorem withdraws_pending (p : PatchId) (y : Party) : (s.withdraws p y).pending = s.pending := by
  unfold State.withdraws; try dsimp only
  (repeat' split) <;> simp

@[simp] theorem withdraws_directory (p : PatchId) (y : Party) : (s.withdraws p y).directory = s.directory := by
  unfold State.withdraws; try dsimp only
  (repeat' split) <;> simp

@[simp] theorem withdraws_order (p : PatchId) (y : Party) : (s.withdraws p y).order = s.order := by
  unfold State.withdraws; try dsimp only
  (repeat' split) <;> simp

@[simp] theorem withdraws_walk (p : PatchId) (y : Party) : (s.withdraws p y).walk = s.walk := by
  unfold State.withdraws; try dsimp only
  (repeat' split) <;> simp

@[simp] theorem withdraws_freeCount (p : PatchId) (y : Party) : (s.withdraws p y).freeCount = s.freeCount := by
  unfold State.withdraws; try dsimp only
  (repeat' split) <;> simp

@[simp] theorem withdraws_agency (p : PatchId) (y : Party) (a' : AgencyId) : (s.withdraws p y).agency a' = s.agency a' :=
  congrArg (fun d : Directory => d.agencies.get a') (withdraws_directory s p y)

@[simp] theorem withdraws_planEntry (p : PatchId) (y : Party) (i' : PlanId) : (s.withdraws p y).planEntry i' = s.planEntry i' :=
  congrArg (fun d : Directory => d.plans.get i') (withdraws_directory s p y)

@[simp] theorem leaveFloor_pending (p : PatchId) (l : LegId) : (s.leaveFloor p l).pending = s.pending := by
  unfold State.leaveFloor; try dsimp only
  (repeat' split) <;> simp

@[simp] theorem leaveFloor_directory (p : PatchId) (l : LegId) : (s.leaveFloor p l).directory = s.directory := by
  unfold State.leaveFloor; try dsimp only
  (repeat' split) <;> simp

@[simp] theorem leaveFloor_order (p : PatchId) (l : LegId) : (s.leaveFloor p l).order = s.order := by
  unfold State.leaveFloor; try dsimp only
  (repeat' split) <;> simp

@[simp] theorem leaveFloor_walk (p : PatchId) (l : LegId) : (s.leaveFloor p l).walk = s.walk := by
  unfold State.leaveFloor; try dsimp only
  (repeat' split) <;> simp

@[simp] theorem leaveFloor_freeCount (p : PatchId) (l : LegId) : (s.leaveFloor p l).freeCount = s.freeCount := by
  unfold State.leaveFloor; try dsimp only
  (repeat' split) <;> simp

@[simp] theorem leaveFloor_agency (p : PatchId) (l : LegId) (a' : AgencyId) : (s.leaveFloor p l).agency a' = s.agency a' :=
  congrArg (fun d : Directory => d.agencies.get a') (leaveFloor_directory s p l)

@[simp] theorem leaveFloor_planEntry (p : PatchId) (l : LegId) (i' : PlanId) : (s.leaveFloor p l).planEntry i' = s.planEntry i' :=
  congrArg (fun d : Directory => d.plans.get i') (leaveFloor_directory s p l)

@[simp] theorem offerClaim_pending (l : LegId) : (s.offerClaim l).pending = s.pending := by
  unfold State.offerClaim; try dsimp only
  (repeat' split) <;> simp

@[simp] theorem offerClaim_directory (l : LegId) : (s.offerClaim l).directory = s.directory := by
  unfold State.offerClaim; try dsimp only
  (repeat' split) <;> simp

@[simp] theorem offerClaim_walk (l : LegId) : (s.offerClaim l).walk = s.walk := by
  unfold State.offerClaim; try dsimp only
  (repeat' split) <;> simp

@[simp] theorem offerClaim_freeCount (l : LegId) : (s.offerClaim l).freeCount = s.freeCount := by
  unfold State.offerClaim; try dsimp only
  (repeat' split) <;> simp

@[simp] theorem offerClaim_agency (l : LegId) (a' : AgencyId) : (s.offerClaim l).agency a' = s.agency a' :=
  congrArg (fun d : Directory => d.agencies.get a') (offerClaim_directory s l)

@[simp] theorem offerClaim_planEntry (l : LegId) (i' : PlanId) : (s.offerClaim l).planEntry i' = s.planEntry i' :=
  congrArg (fun d : Directory => d.plans.get i') (offerClaim_directory s l)

@[simp] theorem offerWithdrawal_pending (l : LegId) : (s.offerWithdrawal l).pending = s.pending := by
  unfold State.offerWithdrawal; try dsimp only
  (repeat' split) <;> simp

@[simp] theorem offerWithdrawal_directory (l : LegId) : (s.offerWithdrawal l).directory = s.directory := by
  unfold State.offerWithdrawal; try dsimp only
  (repeat' split) <;> simp

@[simp] theorem offerWithdrawal_order (l : LegId) : (s.offerWithdrawal l).order = s.order := by
  unfold State.offerWithdrawal; try dsimp only
  (repeat' split) <;> simp

@[simp] theorem offerWithdrawal_walk (l : LegId) : (s.offerWithdrawal l).walk = s.walk := by
  unfold State.offerWithdrawal; try dsimp only
  (repeat' split) <;> simp

@[simp] theorem offerWithdrawal_freeCount (l : LegId) : (s.offerWithdrawal l).freeCount = s.freeCount := by
  unfold State.offerWithdrawal; try dsimp only
  (repeat' split) <;> simp

@[simp] theorem offerWithdrawal_agency (l : LegId) (a' : AgencyId) : (s.offerWithdrawal l).agency a' = s.agency a' :=
  congrArg (fun d : Directory => d.agencies.get a') (offerWithdrawal_directory s l)

@[simp] theorem offerWithdrawal_planEntry (l : LegId) (i' : PlanId) : (s.offerWithdrawal l).planEntry i' = s.planEntry i' :=
  congrArg (fun d : Directory => d.plans.get i') (offerWithdrawal_directory s l)

/-- A claim change keeps what its leg-side change and the floor keep. -/
theorem claimChange_keeps {α : Type} (g : State → α) (l : LegId) (f : State → State) (hf : g (f s) = g s)
    (ha : g ((f s).offerClaim l) = g (f s)) (hw : g ((f s).offerWithdrawal l) = g (f s)) :
    g (s.claimChange l f) = g s := by
  unfold State.claimChange
  dsimp only
  cases (s.leg l).stands l <;> cases ((f s).leg l).stands l <;> simp [hf, ha, hw]

@[simp] theorem riseQualified_pending (l : LegId) : (s.riseQualified l).pending = s.pending :=
  claimChange_keeps s State.pending l _ (by simp) (by simp) (by simp)

@[simp] theorem riseQualified_directory (l : LegId) : (s.riseQualified l).directory = s.directory :=
  claimChange_keeps s State.directory l _ (by simp) (by simp) (by simp)

@[simp] theorem riseQualified_walk (l : LegId) : (s.riseQualified l).walk = s.walk :=
  claimChange_keeps s State.walk l _ (by simp) (by simp) (by simp)

@[simp] theorem riseQualified_freeCount (l : LegId) : (s.riseQualified l).freeCount = s.freeCount :=
  claimChange_keeps s State.freeCount l _ (by simp) (by simp) (by simp)

@[simp] theorem dropQualified_pending (l : LegId) : (s.dropQualified l).pending = s.pending :=
  claimChange_keeps s State.pending l _ (by simp) (by simp) (by simp)

@[simp] theorem dropQualified_directory (l : LegId) : (s.dropQualified l).directory = s.directory :=
  claimChange_keeps s State.directory l _ (by simp) (by simp) (by simp)

@[simp] theorem dropQualified_walk (l : LegId) : (s.dropQualified l).walk = s.walk :=
  claimChange_keeps s State.walk l _ (by simp) (by simp) (by simp)

@[simp] theorem dropQualified_freeCount (l : LegId) : (s.dropQualified l).freeCount = s.freeCount :=
  claimChange_keeps s State.freeCount l _ (by simp) (by simp) (by simp)

@[simp] theorem conditionEvent_pending (l : LegId) : (s.conditionEvent l).pending = s.pending := by
  unfold State.conditionEvent; try dsimp only
  (repeat' split) <;> simp

@[simp] theorem conditionEvent_directory (l : LegId) : (s.conditionEvent l).directory = s.directory := by
  unfold State.conditionEvent; try dsimp only
  (repeat' split) <;> simp

@[simp] theorem conditionEvent_walk (l : LegId) : (s.conditionEvent l).walk = s.walk := by
  unfold State.conditionEvent; try dsimp only
  (repeat' split) <;> simp

@[simp] theorem conditionEvent_freeCount (l : LegId) : (s.conditionEvent l).freeCount = s.freeCount := by
  unfold State.conditionEvent; try dsimp only
  (repeat' split) <;> simp

@[simp] theorem conditionEvent_agency (l : LegId) (a' : AgencyId) : (s.conditionEvent l).agency a' = s.agency a' :=
  congrArg (fun d : Directory => d.agencies.get a') (conditionEvent_directory s l)

@[simp] theorem conditionEvent_planEntry (l : LegId) (i' : PlanId) : (s.conditionEvent l).planEntry i' = s.planEntry i' :=
  congrArg (fun d : Directory => d.plans.get i') (conditionEvent_directory s l)

@[simp] theorem emergencyChange_pending (l : LegId) : (s.emergencyChange l).pending = s.pending := by
  unfold State.emergencyChange; try dsimp only
  (repeat' split) <;> simp

@[simp] theorem emergencyChange_directory (l : LegId) : (s.emergencyChange l).directory = s.directory := by
  unfold State.emergencyChange; try dsimp only
  (repeat' split) <;> simp

@[simp] theorem emergencyChange_walk (l : LegId) : (s.emergencyChange l).walk = s.walk := by
  unfold State.emergencyChange; try dsimp only
  (repeat' split) <;> simp

@[simp] theorem emergencyChange_freeCount (l : LegId) : (s.emergencyChange l).freeCount = s.freeCount := by
  unfold State.emergencyChange; try dsimp only
  (repeat' split) <;> simp

@[simp] theorem emergencyChange_agency (l : LegId) (a' : AgencyId) : (s.emergencyChange l).agency a' = s.agency a' :=
  congrArg (fun d : Directory => d.agencies.get a') (emergencyChange_directory s l)

@[simp] theorem emergencyChange_planEntry (l : LegId) (i' : PlanId) : (s.emergencyChange l).planEntry i' = s.planEntry i' :=
  congrArg (fun d : Directory => d.plans.get i') (emergencyChange_directory s l)

@[simp] theorem setEmergency_pending (l : LegId) (e : EmergencySource) : (s.setEmergency l e).pending = s.pending := by
  unfold State.setEmergency; try dsimp only
  (repeat' split) <;> simp

@[simp] theorem setEmergency_directory (l : LegId) (e : EmergencySource) : (s.setEmergency l e).directory = s.directory := by
  unfold State.setEmergency; try dsimp only
  (repeat' split) <;> simp

@[simp] theorem setEmergency_walk (l : LegId) (e : EmergencySource) : (s.setEmergency l e).walk = s.walk := by
  unfold State.setEmergency; try dsimp only
  (repeat' split) <;> simp

@[simp] theorem setEmergency_freeCount (l : LegId) (e : EmergencySource) : (s.setEmergency l e).freeCount = s.freeCount := by
  unfold State.setEmergency; try dsimp only
  (repeat' split) <;> simp

@[simp] theorem setEmergency_agency (l : LegId) (e : EmergencySource) (a' : AgencyId) : (s.setEmergency l e).agency a' = s.agency a' :=
  congrArg (fun d : Directory => d.agencies.get a') (setEmergency_directory s l e)

@[simp] theorem setEmergency_planEntry (l : LegId) (e : EmergencySource) (i' : PlanId) : (s.setEmergency l e).planEntry i' = s.planEntry i' :=
  congrArg (fun d : Directory => d.plans.get i') (setEmergency_directory s l e)

@[simp] theorem emergencyRise_pending (l : LegId) : (s.emergencyRise l).pending = s.pending := by
  unfold State.emergencyRise; try dsimp only
  (repeat' split) <;> simp

@[simp] theorem emergencyRise_directory (l : LegId) : (s.emergencyRise l).directory = s.directory := by
  unfold State.emergencyRise; try dsimp only
  (repeat' split) <;> simp

@[simp] theorem emergencyRise_walk (l : LegId) : (s.emergencyRise l).walk = s.walk := by
  unfold State.emergencyRise; try dsimp only
  (repeat' split) <;> simp

@[simp] theorem emergencyRise_freeCount (l : LegId) : (s.emergencyRise l).freeCount = s.freeCount := by
  unfold State.emergencyRise; try dsimp only
  (repeat' split) <;> simp

@[simp] theorem emergencyRise_agency (l : LegId) (a' : AgencyId) : (s.emergencyRise l).agency a' = s.agency a' :=
  congrArg (fun d : Directory => d.agencies.get a') (emergencyRise_directory s l)

@[simp] theorem emergencyRise_planEntry (l : LegId) (i' : PlanId) : (s.emergencyRise l).planEntry i' = s.planEntry i' :=
  congrArg (fun d : Directory => d.plans.get i') (emergencyRise_directory s l)

@[simp] theorem auxRose_pending (l : LegId) : (s.auxRose l).pending = s.pending := by
  unfold State.auxRose; try dsimp only
  (repeat' split) <;> simp

@[simp] theorem auxRose_directory (l : LegId) : (s.auxRose l).directory = s.directory := by
  unfold State.auxRose; try dsimp only
  (repeat' split) <;> simp

@[simp] theorem auxRose_walk (l : LegId) : (s.auxRose l).walk = s.walk := by
  unfold State.auxRose; try dsimp only
  (repeat' split) <;> simp

@[simp] theorem auxRose_freeCount (l : LegId) : (s.auxRose l).freeCount = s.freeCount := by
  unfold State.auxRose; try dsimp only
  (repeat' split) <;> simp

@[simp] theorem auxFell_pending (l : LegId) : (s.auxFell l).pending = s.pending := by
  unfold State.auxFell; try dsimp only
  (repeat' split) <;> simp

@[simp] theorem auxFell_directory (l : LegId) : (s.auxFell l).directory = s.directory := by
  unfold State.auxFell; try dsimp only
  (repeat' split) <;> simp

@[simp] theorem auxFell_walk (l : LegId) : (s.auxFell l).walk = s.walk := by
  unfold State.auxFell; try dsimp only
  (repeat' split) <;> simp

@[simp] theorem auxFell_freeCount (l : LegId) : (s.auxFell l).freeCount = s.freeCount := by
  unfold State.auxFell; try dsimp only
  (repeat' split) <;> simp

@[simp] theorem auxEvent_pending (l : LegId) : (s.auxEvent l).pending = s.pending := by
  unfold State.auxEvent; try dsimp only
  (repeat' split) <;> simp

@[simp] theorem auxEvent_directory (l : LegId) : (s.auxEvent l).directory = s.directory := by
  unfold State.auxEvent; try dsimp only
  (repeat' split) <;> simp

@[simp] theorem auxEvent_walk (l : LegId) : (s.auxEvent l).walk = s.walk := by
  unfold State.auxEvent; try dsimp only
  (repeat' split) <;> simp

@[simp] theorem auxEvent_freeCount (l : LegId) : (s.auxEvent l).freeCount = s.freeCount := by
  unfold State.auxEvent; try dsimp only
  (repeat' split) <;> simp

end Sys2Proof.Machine
end

