-- ==== Sys2Proof/Laws/Memory.lean ====
section
/-! SUPPORT. Clip memory: every operation keeps the canonical form, and what a sample reads as after a write. -/

namespace Sys2Proof.Machine

/-- What the addresses of a memory after a write are drawn from. -/
theorem Memory.mem_write (m : Memory) (a : Nat) (v : Sample) (c : Nat × Sample) (hc : c ∈ m.write a v) :
    c ∈ m ∨ c.1 = a := by
  induction m with
  | nil =>
    unfold Memory.write at hc
    split at hc <;> simp_all
  | cons b m ih =>
    obtain ⟨b, w⟩ := b
    unfold Memory.write at hc
    split at hc
    · split at hc
      · exact .inl hc
      · rcases List.mem_cons.mp hc with h | h
        · exact .inr (by rw [h])
        · exact .inl h
    · split at hc
      · split at hc
        · exact .inl (List.mem_cons_of_mem _ hc)
        · rcases List.mem_cons.mp hc with h | h
          · exact .inr (by rw [h])
          · exact .inl (List.mem_cons_of_mem _ h)
      · rcases List.mem_cons.mp hc with h | h
        · exact .inl (by rw [h]; exact List.mem_cons_self)
        · rcases ih h with h | h
          · exact .inl (List.mem_cons_of_mem _ h)
          · exact .inr h

theorem Memory.wf_nil : Memory.wf [] := by simp [Memory.wf]

theorem Memory.wf_cons {b : Nat} {w : Sample} {m : Memory} :
    Memory.wf ((b, w) :: m) ↔ (∀ c ∈ m, b < c.1) ∧ w ≠ 0 ∧ Memory.wf m := by
  simp only [Memory.wf, List.map_cons, List.pairwise_cons, List.forall_mem_cons, List.forall_mem_map]
  tauto

/-- A write keeps the canonical form. -/
theorem Memory.wf_write (m : Memory) (a : Nat) (v : Sample) (hm : m.wf) : (m.write a v).wf := by
  induction m with
  | nil =>
    unfold Memory.write
    split
    · exact Memory.wf_nil
    · exact Memory.wf_cons.mpr ⟨by simp, by assumption, Memory.wf_nil⟩
  | cons b m ih =>
    obtain ⟨b, w⟩ := b
    obtain ⟨hb, hw, hm'⟩ := Memory.wf_cons.mp hm
    unfold Memory.write
    split
    · rename_i hab
      split
      · exact hm
      · rename_i hv
        refine Memory.wf_cons.mpr ⟨?_, hv, hm⟩
        intro c hc
        rcases List.mem_cons.mp hc with h | h
        · rw [h]; exact hab
        · exact hab.trans (hb c h)
    · split
      · rename_i hab
        split
        · exact hm'
        · rename_i hv
          exact Memory.wf_cons.mpr ⟨by rw [hab]; exact hb, hv, hm'⟩
      · rename_i h1 h2
        refine Memory.wf_cons.mpr ⟨?_, hw, ih hm'⟩
        intro c hc
        rcases Memory.mem_write _ _ _ _ hc with h | h
        · exact hb c h
        · omega

/-- Blocks zeroed keep the canonical form. -/
theorem Memory.wf_zeroBlocks (m : Memory) (blocks : List BlockId) (hm : m.wf) : (m.zeroBlocks blocks).wf := by
  refine ⟨?_, fun c hc => hm.2 c (List.mem_of_mem_filter hc)⟩
  exact hm.1.sublist ((List.filter_sublist (l := m)).map Prod.fst)

/-- Samples written into a clip keep the canonical form. -/
theorem Memory.wf_writeClip (address : Nat → Nat) (vs : List Sample) (m : Memory) (offset : Nat) (hm : m.wf) :
    (m.writeClip address offset vs).wf := by
  induction vs generalizing m offset with
  | nil => exact hm
  | cons v vs ih => exact ih _ _ (Memory.wf_write _ _ _ hm)

/-- Memory after power-on has the canonical form. -/
theorem Memory.wf_reset : Memory.wf State.reset.clips.memory := Memory.wf_nil

/-- What lies behind every listed address reads 0. -/
theorem Memory.read_of_lt (m : Memory) (a : Nat) (h : ∀ c ∈ m, a < c.1) : m.read a = 0 := by
  induction m with
  | nil => rfl
  | cons b m ih =>
    have hb : a < b.1 := h b List.mem_cons_self
    unfold Memory.read
    rw [if_neg (Nat.ne_of_lt hb)]
    exact ih fun c hc => h c (List.mem_cons_of_mem _ hc)

/-- A sample written reads back, and every other sample reads as before. -/
theorem Memory.read_write (m : Memory) (a : Nat) (v : Sample) (hm : m.wf) (x : Nat) :
    (m.write a v).read x = if x = a then v else m.read x := by
  induction m with
  | nil =>
    unfold Memory.write
    split <;> simp_all [Memory.read]
  | cons b m ih =>
    obtain ⟨b, w⟩ := b
    obtain ⟨hb, hw, hm'⟩ := Memory.wf_cons.mp hm
    unfold Memory.write
    split
    · rename_i hab
      split
      · rename_i hv
        split
        · rename_i hx
          rw [Memory.read_of_lt, hv]
          intro c hc
          rcases List.mem_cons.mp hc with h | h
          · rw [hx, h]; exact hab
          · rw [hx]; exact hab.trans (hb c h)
        · rfl
      · simp only [Memory.read]
    · split
      · rename_i hab
        subst hab
        split
        · rename_i hv
          split
          · rename_i hx
            rw [Memory.read_of_lt, hv]
            intro c hc
            rw [hx]; exact hb c hc
          · rename_i hx
            simp only [Memory.read, if_neg hx]
        · simp only [Memory.read]
          split <;> rfl
      · rename_i h1 h2
        simp only [Memory.read]
        split
        · rename_i hx
          rw [if_neg (by omega)]
        · exact ih hm'

/-- A sample of a zeroed block reads 0, and every other sample reads as before. -/
theorem Memory.read_zeroBlocks (m : Memory) (blocks : List BlockId) (x : Nat) :
    (m.zeroBlocks blocks).read x =
      if (blocks.any fun b => b.val = x / Config.blockSamples) then 0 else m.read x := by
  induction m with
  | nil => simp [Memory.zeroBlocks, Memory.read]
  | cons b m ih =>
    obtain ⟨b, w⟩ := b
    unfold Memory.zeroBlocks at ih ⊢
    rw [List.filter_cons]
    by_cases hb : (blocks.any fun k => k.val = b / Config.blockSamples) = true
    · simp only [hb, Bool.not_true, Bool.false_eq_true, if_false]
      rw [ih]
      by_cases hx : x = b
      · subst hx; simp [hb]
      · simp only [Memory.read, if_neg hx]
    · simp only [Bool.eq_false_iff.mpr hb, Bool.not_false, if_true, Memory.read]
      rw [ih]
      by_cases hx : x = b
      · subst hx; simp [hb]
      · simp only [if_neg hx]

end Sys2Proof.Machine
end

