-- ==== Sys2Proof/Laws/PatchFrame.lean ====
section
/-! SUPPORT. What the ends of playbacks, the removal of members and the teardown of patches leave as it was. -/

namespace Sys2Proof.Machine

set_option linter.unnecessarySeqFocus false
set_option linter.unusedTactic false
set_option linter.unreachableTactic false

variable (s : State)

@[simp] theorem endTake_pending (r : EndReason) : (s.endTake r).pending = s.pending := by
  unfold State.endTake; try dsimp only
  (repeat' split) <;> simp

@[simp] theorem endTake_directory (r : EndReason) : (s.endTake r).directory = s.directory := by
  unfold State.endTake; try dsimp only
  (repeat' split) <;> simp

@[simp] theorem endTake_order (r : EndReason) : (s.endTake r).order = s.order := by
  unfold State.endTake; try dsimp only
  (repeat' split) <;> simp

@[simp] theorem endTake_walk (r : EndReason) : (s.endTake r).walk = s.walk := by
  unfold State.endTake; try dsimp only
  (repeat' split) <;> simp

@[simp] theorem endTake_freeCount (r : EndReason) : (s.endTake r).freeCount = s.freeCount := by
  unfold State.endTake; try dsimp only
  (repeat' split) <;> simp

@[simp] theorem endTake_agency (r : EndReason) (a' : AgencyId) : (s.endTake r).agency a' = s.agency a' :=
  congrArg (fun d : Directory => d.agencies.get a') (endTake_directory s r)

@[simp] theorem endTake_planEntry (r : EndReason) (i' : PlanId) : (s.endTake r).planEntry i' = s.planEntry i' :=
  congrArg (fun d : Directory => d.plans.get i') (endTake_directory s r)

@[simp] theorem enterEnding_pending (r : EndReason) : (s.enterEnding r).pending = s.pending := by
  unfold State.enterEnding; try dsimp only
  (repeat' split) <;> simp

@[simp] theorem enterEnding_legs (r : EndReason) : (s.enterEnding r).legs = s.legs := by
  unfold State.enterEnding; try dsimp only
  (repeat' split) <;> simp

@[simp] theorem enterEnding_directory (r : EndReason) : (s.enterEnding r).directory = s.directory := by
  unfold State.enterEnding; try dsimp only
  (repeat' split) <;> simp

@[simp] theorem enterEnding_patches (r : EndReason) : (s.enterEnding r).patches = s.patches := by
  unfold State.enterEnding; try dsimp only
  (repeat' split) <;> simp

@[simp] theorem enterEnding_routes (r : EndReason) : (s.enterEnding r).routes = s.routes := by
  unfold State.enterEnding; try dsimp only
  (repeat' split) <;> simp

@[simp] theorem enterEnding_link (r : EndReason) : (s.enterEnding r).link = s.link := by
  unfold State.enterEnding; try dsimp only
  (repeat' split) <;> simp

@[simp] theorem enterEnding_order (r : EndReason) : (s.enterEnding r).order = s.order := by
  unfold State.enterEnding; try dsimp only
  (repeat' split) <;> simp

@[simp] theorem enterEnding_walk (r : EndReason) : (s.enterEnding r).walk = s.walk := by
  unfold State.enterEnding; try dsimp only
  (repeat' split) <;> simp

@[simp] theorem enterEnding_freeCount (r : EndReason) : (s.enterEnding r).freeCount = s.freeCount := by
  unfold State.enterEnding; try dsimp only
  (repeat' split) <;> simp

@[simp] theorem enterEnding_leg (r : EndReason) (l' : LegId) : (s.enterEnding r).leg l' = s.leg l' :=
  congrArg (fun v : Vector Leg 20 => v.get l') (enterEnding_legs s r)

@[simp] theorem enterEnding_patch (r : EndReason) (p' : PatchId) : (s.enterEnding r).patch p' = s.patch p' :=
  congrArg (fun v : Vector Patch 12 => v.get p') (enterEnding_patches s r)

@[simp] theorem enterEnding_entry (r : EndReason) (e' : EntryId) : (s.enterEnding r).entry e' = s.entry e' :=
  congrArg (fun r : Routes => r.entries.get e') (enterEnding_routes s r)

@[simp] theorem enterEnding_agency (r : EndReason) (a' : AgencyId) : (s.enterEnding r).agency a' = s.agency a' :=
  congrArg (fun d : Directory => d.agencies.get a') (enterEnding_directory s r)

@[simp] theorem enterEnding_planEntry (r : EndReason) (i' : PlanId) : (s.enterEnding r).planEntry i' = s.planEntry i' :=
  congrArg (fun d : Directory => d.plans.get i') (enterEnding_directory s r)

@[simp] theorem enterEnding_now (r : EndReason) : (s.enterEnding r).now = s.now :=
  congrArg (Link.stamp) (enterEnding_link s r)

@[simp] theorem enterEnding_work (r : EndReason) : (s.enterEnding r).work = s.work :=
  congrArg (fun k : Link => k.inProgress.map InProgress.work) (enterEnding_link s r)

@[simp] theorem overlayEnded_pending : (s.overlayEnded).pending = s.pending := by
  unfold State.overlayEnded; try dsimp only
  (repeat' split) <;> simp

@[simp] theorem overlayEnded_legs : (s.overlayEnded).legs = s.legs := by
  unfold State.overlayEnded; try dsimp only
  (repeat' split) <;> simp

@[simp] theorem overlayEnded_directory : (s.overlayEnded).directory = s.directory := by
  unfold State.overlayEnded; try dsimp only
  (repeat' split) <;> simp

@[simp] theorem overlayEnded_patches : (s.overlayEnded).patches = s.patches := by
  unfold State.overlayEnded; try dsimp only
  (repeat' split) <;> simp

@[simp] theorem overlayEnded_routes : (s.overlayEnded).routes = s.routes := by
  unfold State.overlayEnded; try dsimp only
  (repeat' split) <;> simp

@[simp] theorem overlayEnded_order : (s.overlayEnded).order = s.order := by
  unfold State.overlayEnded; try dsimp only
  (repeat' split) <;> simp

@[simp] theorem overlayEnded_walk : (s.overlayEnded).walk = s.walk := by
  unfold State.overlayEnded; try dsimp only
  (repeat' split) <;> simp

@[simp] theorem overlayEnded_freeCount : (s.overlayEnded).freeCount = s.freeCount := by
  unfold State.overlayEnded; try dsimp only
  (repeat' split) <;> simp

@[simp] theorem overlayEnded_leg (l' : LegId) : (s.overlayEnded).leg l' = s.leg l' :=
  congrArg (fun v : Vector Leg 20 => v.get l') (overlayEnded_legs s)

@[simp] theorem overlayEnded_patch (p' : PatchId) : (s.overlayEnded).patch p' = s.patch p' :=
  congrArg (fun v : Vector Patch 12 => v.get p') (overlayEnded_patches s)

@[simp] theorem overlayEnded_entry (e' : EntryId) : (s.overlayEnded).entry e' = s.entry e' :=
  congrArg (fun r : Routes => r.entries.get e') (overlayEnded_routes s)

@[simp] theorem overlayEnded_agency (a' : AgencyId) : (s.overlayEnded).agency a' = s.agency a' :=
  congrArg (fun d : Directory => d.agencies.get a') (overlayEnded_directory s)

@[simp] theorem overlayEnded_planEntry (i' : PlanId) : (s.overlayEnded).planEntry i' = s.planEntry i' :=
  congrArg (fun d : Directory => d.plans.get i') (overlayEnded_directory s)

@[simp] theorem purgeOverlays_pending (p : PatchId) : (s.purgeOverlays p).pending = s.pending := by
  unfold State.purgeOverlays; try dsimp only
  (repeat' split) <;> simp

@[simp] theorem purgeOverlays_legs (p : PatchId) : (s.purgeOverlays p).legs = s.legs := by
  unfold State.purgeOverlays; try dsimp only
  (repeat' split) <;> simp

@[simp] theorem purgeOverlays_directory (p : PatchId) : (s.purgeOverlays p).directory = s.directory := by
  unfold State.purgeOverlays; try dsimp only
  (repeat' split) <;> simp

@[simp] theorem purgeOverlays_order (p : PatchId) : (s.purgeOverlays p).order = s.order := by
  unfold State.purgeOverlays; try dsimp only
  (repeat' split) <;> simp

@[simp] theorem purgeOverlays_walk (p : PatchId) : (s.purgeOverlays p).walk = s.walk := by
  unfold State.purgeOverlays; try dsimp only
  (repeat' split) <;> simp

@[simp] theorem purgeOverlays_freeCount (p : PatchId) : (s.purgeOverlays p).freeCount = s.freeCount := by
  unfold State.purgeOverlays; try dsimp only
  (repeat' split) <;> simp

@[simp] theorem purgeOverlays_leg (p : PatchId) (l' : LegId) : (s.purgeOverlays p).leg l' = s.leg l' :=
  congrArg (fun v : Vector Leg 20 => v.get l') (purgeOverlays_legs s p)

@[simp] theorem purgeOverlays_agency (p : PatchId) (a' : AgencyId) : (s.purgeOverlays p).agency a' = s.agency a' :=
  congrArg (fun d : Directory => d.agencies.get a') (purgeOverlays_directory s p)

@[simp] theorem purgeOverlays_planEntry (p : PatchId) (i' : PlanId) : (s.purgeOverlays p).planEntry i' = s.planEntry i' :=
  congrArg (fun d : Directory => d.plans.get i') (purgeOverlays_directory s p)

@[simp] theorem endOverlay_pending (r : EndReason) : (s.endOverlay r).pending = s.pending := by
  unfold State.endOverlay; try dsimp only
  (repeat' split) <;> simp

@[simp] theorem endOverlay_legs (r : EndReason) : (s.endOverlay r).legs = s.legs := by
  unfold State.endOverlay; try dsimp only
  (repeat' split) <;> simp

@[simp] theorem endOverlay_directory (r : EndReason) : (s.endOverlay r).directory = s.directory := by
  unfold State.endOverlay; try dsimp only
  (repeat' split) <;> simp

@[simp] theorem endOverlay_order (r : EndReason) : (s.endOverlay r).order = s.order := by
  unfold State.endOverlay; try dsimp only
  (repeat' split) <;> simp

@[simp] theorem endOverlay_walk (r : EndReason) : (s.endOverlay r).walk = s.walk := by
  unfold State.endOverlay; try dsimp only
  (repeat' split) <;> simp

@[simp] theorem endOverlay_freeCount (r : EndReason) : (s.endOverlay r).freeCount = s.freeCount := by
  unfold State.endOverlay; try dsimp only
  (repeat' split) <;> simp

@[simp] theorem endOverlay_leg (r : EndReason) (l' : LegId) : (s.endOverlay r).leg l' = s.leg l' :=
  congrArg (fun v : Vector Leg 20 => v.get l') (endOverlay_legs s r)

@[simp] theorem endOverlay_agency (r : EndReason) (a' : AgencyId) : (s.endOverlay r).agency a' = s.agency a' :=
  congrArg (fun d : Directory => d.agencies.get a') (endOverlay_directory s r)

@[simp] theorem endOverlay_planEntry (r : EndReason) (i' : PlanId) : (s.endOverlay r).planEntry i' = s.planEntry i' :=
  congrArg (fun d : Directory => d.plans.get i') (endOverlay_directory s r)

@[simp] theorem endPlayback_pending (r : EndReason) : (s.endPlayback r).pending = s.pending := by
  unfold State.endPlayback; try dsimp only
  (repeat' split) <;> simp

@[simp] theorem endPlayback_directory (r : EndReason) : (s.endPlayback r).directory = s.directory := by
  unfold State.endPlayback; try dsimp only
  (repeat' split) <;> simp

@[simp] theorem endPlayback_order (r : EndReason) : (s.endPlayback r).order = s.order := by
  unfold State.endPlayback; try dsimp only
  (repeat' split) <;> simp

@[simp] theorem endPlayback_walk (r : EndReason) : (s.endPlayback r).walk = s.walk := by
  unfold State.endPlayback; try dsimp only
  (repeat' split) <;> simp

@[simp] theorem endPlayback_freeCount (r : EndReason) : (s.endPlayback r).freeCount = s.freeCount := by
  unfold State.endPlayback; try dsimp only
  (repeat' split) <;> simp

@[simp] theorem endPlayback_agency (r : EndReason) (a' : AgencyId) : (s.endPlayback r).agency a' = s.agency a' :=
  congrArg (fun d : Directory => d.agencies.get a') (endPlayback_directory s r)

@[simp] theorem endPlayback_planEntry (r : EndReason) (i' : PlanId) : (s.endPlayback r).planEntry i' = s.planEntry i' :=
  congrArg (fun d : Directory => d.plans.get i') (endPlayback_directory s r)

@[simp] theorem takeDueEnd_pending : (s.takeDueEnd).pending = s.pending := by
  unfold State.takeDueEnd; try dsimp only
  (repeat' split) <;> simp

@[simp] theorem takeDueEnd_directory : (s.takeDueEnd).directory = s.directory := by
  unfold State.takeDueEnd; try dsimp only
  (repeat' split) <;> simp

@[simp] theorem takeDueEnd_order : (s.takeDueEnd).order = s.order := by
  unfold State.takeDueEnd; try dsimp only
  (repeat' split) <;> simp

@[simp] theorem takeDueEnd_walk : (s.takeDueEnd).walk = s.walk := by
  unfold State.takeDueEnd; try dsimp only
  (repeat' split) <;> simp

@[simp] theorem takeDueEnd_freeCount : (s.takeDueEnd).freeCount = s.freeCount := by
  unfold State.takeDueEnd; try dsimp only
  (repeat' split) <;> simp

@[simp] theorem takeDueEnd_agency (a' : AgencyId) : (s.takeDueEnd).agency a' = s.agency a' :=
  congrArg (fun d : Directory => d.agencies.get a') (takeDueEnd_directory s)

@[simp] theorem takeDueEnd_planEntry (i' : PlanId) : (s.takeDueEnd).planEntry i' = s.planEntry i' :=
  congrArg (fun d : Directory => d.plans.get i') (takeDueEnd_directory s)

@[simp] theorem endBeforeTick_pending : (s.endBeforeTick).pending = s.pending := by
  unfold State.endBeforeTick; split <;> simp

@[simp] theorem endBeforeTick_directory : (s.endBeforeTick).directory = s.directory := by
  unfold State.endBeforeTick; split <;> simp

@[simp] theorem endBeforeTick_order : (s.endBeforeTick).order = s.order := by
  unfold State.endBeforeTick; split <;> simp

@[simp] theorem endBeforeTick_freeCount : (s.endBeforeTick).freeCount = s.freeCount := by
  unfold State.endBeforeTick; split <;> simp

@[simp] theorem takeReset_pending : (s.takeReset).pending = s.pending := by
  simp only [State.takeReset, State.resetBlocks]

@[simp] theorem takeReset_freeCount : (s.takeReset).freeCount = s.freeCount := by
  simp only [State.takeReset, State.resetBlocks]

@[simp] theorem settle_pending : (s.settle).pending = s.pending := by
  unfold State.settle; try dsimp only
  (repeat' split) <;> simp

@[simp] theorem settle_freeCount : (s.settle).freeCount = s.freeCount := by
  unfold State.settle; try dsimp only
  (repeat' split) <;> simp

@[simp] theorem clearFloor_pending (p : PatchId) : (s.clearFloor p).pending = s.pending := by
  unfold State.clearFloor; try dsimp only
  (repeat' split) <;> simp

@[simp] theorem clearFloor_legs (p : PatchId) : (s.clearFloor p).legs = s.legs := by
  unfold State.clearFloor; try dsimp only
  (repeat' split) <;> simp

@[simp] theorem clearFloor_directory (p : PatchId) : (s.clearFloor p).directory = s.directory := by
  unfold State.clearFloor; try dsimp only
  (repeat' split) <;> simp

@[simp] theorem clearFloor_routes (p : PatchId) : (s.clearFloor p).routes = s.routes := by
  unfold State.clearFloor; try dsimp only
  (repeat' split) <;> simp

@[simp] theorem clearFloor_clips (p : PatchId) : (s.clearFloor p).clips = s.clips := by
  unfold State.clearFloor; try dsimp only
  (repeat' split) <;> simp

@[simp] theorem clearFloor_order (p : PatchId) : (s.clearFloor p).order = s.order := by
  unfold State.clearFloor; try dsimp only
  (repeat' split) <;> simp

@[simp] theorem clearFloor_walk (p : PatchId) : (s.clearFloor p).walk = s.walk := by
  unfold State.clearFloor; try dsimp only
  (repeat' split) <;> simp

@[simp] theorem clearFloor_freeCount (p : PatchId) : (s.clearFloor p).freeCount = s.freeCount := by
  unfold State.clearFloor; try dsimp only
  (repeat' split) <;> simp

@[simp] theorem clearFloor_leg (p : PatchId) (l' : LegId) : (s.clearFloor p).leg l' = s.leg l' :=
  congrArg (fun v : Vector Leg 20 => v.get l') (clearFloor_legs s p)

@[simp] theorem clearFloor_entry (p : PatchId) (e' : EntryId) : (s.clearFloor p).entry e' = s.entry e' :=
  congrArg (fun r : Routes => r.entries.get e') (clearFloor_routes s p)

@[simp] theorem clearFloor_slot (p : PatchId) (n' : SlotId) : (s.clearFloor p).slot n' = s.slot n' :=
  congrArg (fun c : Clips => c.slots.get n') (clearFloor_clips s p)

@[simp] theorem clearFloor_context (p : PatchId) : (s.clearFloor p).context = s.context :=
  congrArg (Clips.context) (clearFloor_clips s p)

@[simp] theorem clearFloor_agency (p : PatchId) (a' : AgencyId) : (s.clearFloor p).agency a' = s.agency a' :=
  congrArg (fun d : Directory => d.agencies.get a') (clearFloor_directory s p)

@[simp] theorem clearFloor_planEntry (p : PatchId) (i' : PlanId) : (s.clearFloor p).planEntry i' = s.planEntry i' :=
  congrArg (fun d : Directory => d.plans.get i') (clearFloor_directory s p)

@[simp] theorem freePatch_pending (p : PatchId) : (s.freePatch p).pending = s.pending := by
  unfold State.freePatch; try dsimp only
  (repeat' split) <;> simp

@[simp] theorem freePatch_legs (p : PatchId) : (s.freePatch p).legs = s.legs := by
  unfold State.freePatch; try dsimp only
  (repeat' split) <;> simp

@[simp] theorem freePatch_directory (p : PatchId) : (s.freePatch p).directory = s.directory := by
  unfold State.freePatch; try dsimp only
  (repeat' split) <;> simp

@[simp] theorem freePatch_routes (p : PatchId) : (s.freePatch p).routes = s.routes := by
  unfold State.freePatch; try dsimp only
  (repeat' split) <;> simp

@[simp] theorem freePatch_clips (p : PatchId) : (s.freePatch p).clips = s.clips := by
  unfold State.freePatch; try dsimp only
  (repeat' split) <;> simp

@[simp] theorem freePatch_link (p : PatchId) : (s.freePatch p).link = s.link := by
  unfold State.freePatch; try dsimp only
  (repeat' split) <;> simp

@[simp] theorem freePatch_order (p : PatchId) : (s.freePatch p).order = s.order := by
  unfold State.freePatch; try dsimp only
  (repeat' split) <;> simp

@[simp] theorem freePatch_walk (p : PatchId) : (s.freePatch p).walk = s.walk := by
  unfold State.freePatch; try dsimp only
  (repeat' split) <;> simp

@[simp] theorem freePatch_freeCount (p : PatchId) : (s.freePatch p).freeCount = s.freeCount := by
  unfold State.freePatch; try dsimp only
  (repeat' split) <;> simp

@[simp] theorem freePatch_leg (p : PatchId) (l' : LegId) : (s.freePatch p).leg l' = s.leg l' :=
  congrArg (fun v : Vector Leg 20 => v.get l') (freePatch_legs s p)

@[simp] theorem freePatch_entry (p : PatchId) (e' : EntryId) : (s.freePatch p).entry e' = s.entry e' :=
  congrArg (fun r : Routes => r.entries.get e') (freePatch_routes s p)

@[simp] theorem freePatch_slot (p : PatchId) (n' : SlotId) : (s.freePatch p).slot n' = s.slot n' :=
  congrArg (fun c : Clips => c.slots.get n') (freePatch_clips s p)

@[simp] theorem freePatch_context (p : PatchId) : (s.freePatch p).context = s.context :=
  congrArg (Clips.context) (freePatch_clips s p)

@[simp] theorem freePatch_agency (p : PatchId) (a' : AgencyId) : (s.freePatch p).agency a' = s.agency a' :=
  congrArg (fun d : Directory => d.agencies.get a') (freePatch_directory s p)

@[simp] theorem freePatch_planEntry (p : PatchId) (i' : PlanId) : (s.freePatch p).planEntry i' = s.planEntry i' :=
  congrArg (fun d : Directory => d.plans.get i') (freePatch_directory s p)

@[simp] theorem freePatch_now (p : PatchId) : (s.freePatch p).now = s.now :=
  congrArg (Link.stamp) (freePatch_link s p)

@[simp] theorem freePatch_work (p : PatchId) : (s.freePatch p).work = s.work :=
  congrArg (fun k : Link => k.inProgress.map InProgress.work) (freePatch_link s p)

@[simp] theorem revokeLeg_pending (l : LegId) (w : Option PatchId) (a : AgencyId) : (s.revokeLeg l w a).pending = s.pending := by
  unfold State.revokeLeg; try dsimp only
  (repeat' split) <;> simp

@[simp] theorem revokeLeg_directory (l : LegId) (w : Option PatchId) (a : AgencyId) : (s.revokeLeg l w a).directory = s.directory := by
  unfold State.revokeLeg; try dsimp only
  (repeat' split) <;> simp

@[simp] theorem revokeLeg_routes (l : LegId) (w : Option PatchId) (a : AgencyId) : (s.revokeLeg l w a).routes = s.routes := by
  unfold State.revokeLeg; try dsimp only
  (repeat' split) <;> simp

@[simp] theorem revokeLeg_clips (l : LegId) (w : Option PatchId) (a : AgencyId) : (s.revokeLeg l w a).clips = s.clips := by
  unfold State.revokeLeg; try dsimp only
  (repeat' split) <;> simp

@[simp] theorem revokeLeg_order (l : LegId) (w : Option PatchId) (a : AgencyId) : (s.revokeLeg l w a).order = s.order := by
  unfold State.revokeLeg; try dsimp only
  (repeat' split) <;> simp

@[simp] theorem revokeLeg_walk (l : LegId) (w : Option PatchId) (a : AgencyId) : (s.revokeLeg l w a).walk = s.walk := by
  unfold State.revokeLeg; try dsimp only
  (repeat' split) <;> simp

@[simp] theorem revokeLeg_freeCount (l : LegId) (w : Option PatchId) (a : AgencyId) : (s.revokeLeg l w a).freeCount = s.freeCount := by
  unfold State.revokeLeg; try dsimp only
  (repeat' split) <;> simp

@[simp] theorem revokeLeg_entry (l : LegId) (w : Option PatchId) (a : AgencyId) (e' : EntryId) : (s.revokeLeg l w a).entry e' = s.entry e' :=
  congrArg (fun r : Routes => r.entries.get e') (revokeLeg_routes s l w a)

@[simp] theorem revokeLeg_slot (l : LegId) (w : Option PatchId) (a : AgencyId) (n' : SlotId) : (s.revokeLeg l w a).slot n' = s.slot n' :=
  congrArg (fun c : Clips => c.slots.get n') (revokeLeg_clips s l w a)

@[simp] theorem revokeLeg_context (l : LegId) (w : Option PatchId) (a : AgencyId) : (s.revokeLeg l w a).context = s.context :=
  congrArg (Clips.context) (revokeLeg_clips s l w a)

@[simp] theorem revokeLeg_agency (l : LegId) (w : Option PatchId) (a : AgencyId) (a' : AgencyId) : (s.revokeLeg l w a).agency a' = s.agency a' :=
  congrArg (fun d : Directory => d.agencies.get a') (revokeLeg_directory s l w a)

@[simp] theorem revokeLeg_planEntry (l : LegId) (w : Option PatchId) (a : AgencyId) (i' : PlanId) : (s.revokeLeg l w a).planEntry i' = s.planEntry i' :=
  congrArg (fun d : Directory => d.plans.get i') (revokeLeg_directory s l w a)

@[simp] theorem handToFloor_pending (p : PatchId) (l : LegId) (e : EntryId) : (s.handToFloor p l e).pending = s.pending := by
  unfold State.handToFloor; try dsimp only
  (repeat' split) <;> simp

@[simp] theorem handToFloor_directory (p : PatchId) (l : LegId) (e : EntryId) : (s.handToFloor p l e).directory = s.directory := by
  unfold State.handToFloor; try dsimp only
  (repeat' split) <;> simp

@[simp] theorem handToFloor_walk (p : PatchId) (l : LegId) (e : EntryId) : (s.handToFloor p l e).walk = s.walk := by
  unfold State.handToFloor; try dsimp only
  (repeat' split) <;> simp

@[simp] theorem handToFloor_freeCount (p : PatchId) (l : LegId) (e : EntryId) : (s.handToFloor p l e).freeCount = s.freeCount := by
  unfold State.handToFloor; try dsimp only
  (repeat' split) <;> simp

@[simp] theorem handToFloor_agency (p : PatchId) (l : LegId) (e : EntryId) (a' : AgencyId) : (s.handToFloor p l e).agency a' = s.agency a' :=
  congrArg (fun d : Directory => d.agencies.get a') (handToFloor_directory s p l e)

@[simp] theorem handToFloor_planEntry (p : PatchId) (l : LegId) (e : EntryId) (i' : PlanId) : (s.handToFloor p l e).planEntry i' = s.planEntry i' :=
  congrArg (fun d : Directory => d.plans.get i') (handToFloor_directory s p l e)

@[simp] theorem patchReset_pending (p : PatchId) : (s.patchReset p).pending = s.pending := by
  unfold State.patchReset; try dsimp only
  (repeat' split) <;> simp

@[simp] theorem patchReset_legs (p : PatchId) : (s.patchReset p).legs = s.legs := by
  unfold State.patchReset; try dsimp only
  (repeat' split) <;> simp

@[simp] theorem patchReset_directory (p : PatchId) : (s.patchReset p).directory = s.directory := by
  unfold State.patchReset; try dsimp only
  (repeat' split) <;> simp

@[simp] theorem patchReset_routes (p : PatchId) : (s.patchReset p).routes = s.routes := by
  unfold State.patchReset; try dsimp only
  (repeat' split) <;> simp

@[simp] theorem patchReset_clips (p : PatchId) : (s.patchReset p).clips = s.clips := by
  unfold State.patchReset; try dsimp only
  (repeat' split) <;> simp

@[simp] theorem patchReset_order (p : PatchId) : (s.patchReset p).order = s.order := by
  unfold State.patchReset; try dsimp only
  (repeat' split) <;> simp

@[simp] theorem patchReset_walk (p : PatchId) : (s.patchReset p).walk = s.walk := by
  unfold State.patchReset; try dsimp only
  (repeat' split) <;> simp

@[simp] theorem patchReset_freeCount (p : PatchId) : (s.patchReset p).freeCount = s.freeCount := by
  unfold State.patchReset; try dsimp only
  (repeat' split) <;> simp

@[simp] theorem patchReset_leg (p : PatchId) (l' : LegId) : (s.patchReset p).leg l' = s.leg l' :=
  congrArg (fun v : Vector Leg 20 => v.get l') (patchReset_legs s p)

@[simp] theorem patchReset_entry (p : PatchId) (e' : EntryId) : (s.patchReset p).entry e' = s.entry e' :=
  congrArg (fun r : Routes => r.entries.get e') (patchReset_routes s p)

@[simp] theorem patchReset_slot (p : PatchId) (n' : SlotId) : (s.patchReset p).slot n' = s.slot n' :=
  congrArg (fun c : Clips => c.slots.get n') (patchReset_clips s p)

@[simp] theorem patchReset_context (p : PatchId) : (s.patchReset p).context = s.context :=
  congrArg (Clips.context) (patchReset_clips s p)

@[simp] theorem patchReset_agency (p : PatchId) (a' : AgencyId) : (s.patchReset p).agency a' = s.agency a' :=
  congrArg (fun d : Directory => d.agencies.get a') (patchReset_directory s p)

@[simp] theorem patchReset_planEntry (p : PatchId) (i' : PlanId) : (s.patchReset p).planEntry i' = s.planEntry i' :=
  congrArg (fun d : Directory => d.plans.get i') (patchReset_directory s p)

@[simp] theorem removeMember_pending (p : PatchId) (l : LegId) (r : Requester) : (s.removeMember p l r).1.pending = s.pending := by
  simp [State.removeMember]

@[simp] theorem removeMember_directory (p : PatchId) (l : LegId) (r : Requester) : (s.removeMember p l r).1.directory = s.directory := by
  simp [State.removeMember]

@[simp] theorem removeMember_order (p : PatchId) (l : LegId) (r : Requester) : (s.removeMember p l r).1.order = s.order := by
  simp [State.removeMember]

@[simp] theorem removeMember_walk (p : PatchId) (l : LegId) (r : Requester) : (s.removeMember p l r).1.walk = s.walk := by
  simp [State.removeMember]

@[simp] theorem removeMember_freeCount (p : PatchId) (l : LegId) (r : Requester) : (s.removeMember p l r).1.freeCount = s.freeCount := by
  simp [State.removeMember]

@[simp] theorem endInTeardown_pending (p : PatchId) (r : EndReason) : (s.endInTeardown p r).1.pending = s.pending := by
  unfold State.endInTeardown; dsimp only; (repeat' split) <;> simp

@[simp] theorem endInTeardown_legs (p : PatchId) (r : EndReason) : (s.endInTeardown p r).1.legs = s.legs := by
  unfold State.endInTeardown; dsimp only; (repeat' split) <;> simp

@[simp] theorem endInTeardown_directory (p : PatchId) (r : EndReason) : (s.endInTeardown p r).1.directory = s.directory := by
  unfold State.endInTeardown; dsimp only; (repeat' split) <;> simp

@[simp] theorem endInTeardown_patches (p : PatchId) (r : EndReason) : (s.endInTeardown p r).1.patches = s.patches := by
  unfold State.endInTeardown; dsimp only; (repeat' split) <;> simp

@[simp] theorem endInTeardown_routes (p : PatchId) (r : EndReason) : (s.endInTeardown p r).1.routes = s.routes := by
  unfold State.endInTeardown; dsimp only; (repeat' split) <;> simp

@[simp] theorem endInTeardown_order (p : PatchId) (r : EndReason) : (s.endInTeardown p r).1.order = s.order := by
  unfold State.endInTeardown; dsimp only; (repeat' split) <;> simp

@[simp] theorem endInTeardown_walk (p : PatchId) (r : EndReason) : (s.endInTeardown p r).1.walk = s.walk := by
  unfold State.endInTeardown; dsimp only; (repeat' split) <;> simp

@[simp] theorem endInTeardown_freeCount (p : PatchId) (r : EndReason) : (s.endInTeardown p r).1.freeCount = s.freeCount := by
  unfold State.endInTeardown; dsimp only; (repeat' split) <;> simp

theorem releaseAll_keeps {α : Type} (g : State → α) (hg : ∀ s l, g (State.modLeg s l Leg.released) = g s)
    (ms : List LegId) : g (ms.foldl (fun s l => s.modLeg l Leg.released) s) = g s := by
  induction ms generalizing s with
  | nil => rfl
  | cons m ms ih => rw [List.foldl_cons, ih, hg]

@[simp] theorem teardown_pending (p : PatchId) (r : EndReason) (q : Requester) : (s.teardown p r q).1.pending = s.pending := by
  unfold State.teardown
  dsimp only
  split <;> simp [releaseAll_keeps _ State.pending (fun _ _ => rfl)]

@[simp] theorem teardown_directory (p : PatchId) (r : EndReason) (q : Requester) : (s.teardown p r q).1.directory = s.directory := by
  unfold State.teardown
  dsimp only
  split <;> simp [releaseAll_keeps _ State.directory (fun _ _ => rfl)]

@[simp] theorem teardown_order (p : PatchId) (r : EndReason) (q : Requester) : (s.teardown p r q).1.order = s.order := by
  unfold State.teardown
  dsimp only
  split <;> simp [releaseAll_keeps _ State.order (fun _ _ => rfl)]

@[simp] theorem teardown_walk (p : PatchId) (r : EndReason) (q : Requester) : (s.teardown p r q).1.walk = s.walk := by
  unfold State.teardown
  dsimp only
  split <;> simp [releaseAll_keeps _ State.walk (fun _ _ => rfl)]

@[simp] theorem teardown_freeCount (p : PatchId) (r : EndReason) (q : Requester) : (s.teardown p r q).1.freeCount = s.freeCount := by
  unfold State.teardown
  dsimp only
  split <;> simp [releaseAll_keeps _ State.freeCount (fun _ _ => rfl)]

/-! ### Further purges and the tick -/

/-- A further purge between frames, with no other left before the next tick, is what a walk does not ask for yet. -/
theorem asksPurge_eq_none {further : Bool} : s.asksPurge further = none ↔
    further = true ∧ s.routes.frame = none ∧ s.walk.beforeTick = some 0 := by
  unfold State.asksPurge
  cases further <;> cases hf : s.routes.frame <;> rcases hw : s.walk.beforeTick with _ | _ | _ <;> simp

/-- The first purge of a request is asked for at once, with nothing changed. -/
@[simp] theorem asksPurge_first : s.asksPurge false = some s := rfl

/-- In a frame a purge is asked for at once, with nothing changed. -/
theorem asksPurge_inFrame {further : Bool} (hf : s.routes.frame.isSome = true) : s.asksPurge further = some s := by
  unfold State.asksPurge
  rw [if_neg]
  rw [Option.isSome_iff_ne_none] at hf
  simp [hf]

/-- With no bound on the further purges before the tick, each is asked for at once, with nothing changed. -/
theorem asksPurge_unbounded {further : Bool} (hw : s.walk.beforeTick = none) : s.asksPurge further = some s := by
  unfold State.asksPurge
  rw [hw]
  exact ite_self _

/-- Asking for a purge changes at most the number of further purges left before the tick. -/
theorem asksPurge_keeps {α : Type} (g : State → α) (hg : ∀ (s : State) (w : Walk), g { s with walk := w } = g s)
    {further : Bool} {t : State} (h : s.asksPurge further = some t) : g t = g s := by
  unfold State.asksPurge at h
  split at h
  · split at h
    · injection h with h; rw [← h]
    · cases h
    · injection h with h; rw [← h, hg]
  · injection h with h; rw [← h]

/-! ### Walks -/

@[simp] theorem disbandWalk_pending (force further : Bool) (ps : List PatchId) (n : Nat) :
    (s.disbandWalk force further ps n).pending = s.pending := by
  induction ps generalizing s further n with
  | nil => simp [State.disbandWalk]
  | cons p ps ih =>
    unfold State.disbandWalk
    dsimp only
    (repeat' split) <;> first
      | simp [ih, asksPurge_keeps s State.pending (fun _ _ => rfl) ‹s.asksPurge _ = some _›]
      | simp [ih]

@[simp] theorem revokeWalk_pending (further : Bool) (a : AgencyId) (n : Nat) (ls : List LegId) :
    (s.revokeWalk further a n ls).pending = s.pending := by
  induction ls generalizing s further with
  | nil => simp [State.revokeWalk]
  | cons l ls ih =>
    unfold State.revokeWalk
    dsimp only
    (repeat' split) <;> first
      | simp [ih, asksPurge_keeps s State.pending (fun _ _ => rfl) ‹s.asksPurge _ = some _›]
      | simp [ih]

@[simp] theorem walkOn_pending : s.walkOn.pending = s.pending := by
  unfold State.walkOn; dsimp only; (repeat' split) <;> simp

@[simp] theorem resetEach_pending (ps : List PatchId) : (s.resetEach ps).pending = s.pending := by
  induction ps generalizing s with
  | nil => simp [State.resetEach]
  | cons p ps ih => unfold State.resetEach; dsimp only; rw [ih]; split <;> simp

@[simp] theorem tell_pending (r : Requester) : (s.tell r).pending = s.pending := by
  unfold State.tell; (repeat' split) <;> simp

@[simp] theorem completePurges_pending : s.completePurges.pending = s.pending := by
  unfold State.completePurges
  dsimp only
  have h : ∀ (rs : List Purge) (t : State), (rs.foldl (fun s r => s.tell r.requester) t).pending = t.pending := by
    intro rs
    induction rs with
    | nil => intro t; rfl
    | cons r rs ih => intro t; rw [List.foldl_cons, ih]; simp
  rw [h]; simp

@[simp] theorem disbandWalk_directory (force further : Bool) (ps : List PatchId) (n : Nat) :
    (s.disbandWalk force further ps n).directory = s.directory := by
  induction ps generalizing s further n with
  | nil => simp [State.disbandWalk]
  | cons p ps ih =>
    unfold State.disbandWalk
    dsimp only
    (repeat' split) <;> first
      | simp [ih, asksPurge_keeps s State.directory (fun _ _ => rfl) ‹s.asksPurge _ = some _›]
      | simp [ih]

@[simp] theorem revokeWalk_directory (further : Bool) (a : AgencyId) (n : Nat) (ls : List LegId) :
    (s.revokeWalk further a n ls).directory = s.directory := by
  induction ls generalizing s further with
  | nil => simp [State.revokeWalk]
  | cons l ls ih =>
    unfold State.revokeWalk
    dsimp only
    (repeat' split) <;> first
      | simp [ih, asksPurge_keeps s State.directory (fun _ _ => rfl) ‹s.asksPurge _ = some _›]
      | simp [ih]

@[simp] theorem walkOn_directory : s.walkOn.directory = s.directory := by
  unfold State.walkOn; dsimp only; (repeat' split) <;> simp

@[simp] theorem resetEach_directory (ps : List PatchId) : (s.resetEach ps).directory = s.directory := by
  induction ps generalizing s with
  | nil => simp [State.resetEach]
  | cons p ps ih => unfold State.resetEach; dsimp only; rw [ih]; split <;> simp

@[simp] theorem tell_directory (r : Requester) : (s.tell r).directory = s.directory := by
  unfold State.tell; (repeat' split) <;> simp

@[simp] theorem completePurges_directory : s.completePurges.directory = s.directory := by
  unfold State.completePurges
  dsimp only
  have h : ∀ (rs : List Purge) (t : State), (rs.foldl (fun s r => s.tell r.requester) t).directory = t.directory := by
    intro rs
    induction rs with
    | nil => intro t; rfl
    | cons r rs ih => intro t; rw [List.foldl_cons, ih]; simp
  rw [h]; simp

@[simp] theorem disbandWalk_order (force further : Bool) (ps : List PatchId) (n : Nat) :
    (s.disbandWalk force further ps n).order = s.order := by
  induction ps generalizing s further n with
  | nil => simp [State.disbandWalk]
  | cons p ps ih =>
    unfold State.disbandWalk
    dsimp only
    (repeat' split) <;> first
      | simp [ih, asksPurge_keeps s State.order (fun _ _ => rfl) ‹s.asksPurge _ = some _›]
      | simp [ih]

@[simp] theorem revokeWalk_order (further : Bool) (a : AgencyId) (n : Nat) (ls : List LegId) :
    (s.revokeWalk further a n ls).order = s.order := by
  induction ls generalizing s further with
  | nil => simp [State.revokeWalk]
  | cons l ls ih =>
    unfold State.revokeWalk
    dsimp only
    (repeat' split) <;> first
      | simp [ih, asksPurge_keeps s State.order (fun _ _ => rfl) ‹s.asksPurge _ = some _›]
      | simp [ih]

@[simp] theorem walkOn_order : s.walkOn.order = s.order := by
  unfold State.walkOn; dsimp only; (repeat' split) <;> simp

@[simp] theorem resetEach_order (ps : List PatchId) : (s.resetEach ps).order = s.order := by
  induction ps generalizing s with
  | nil => simp [State.resetEach]
  | cons p ps ih => unfold State.resetEach; dsimp only; rw [ih]; split <;> simp

@[simp] theorem tell_order (r : Requester) : (s.tell r).order = s.order := by
  unfold State.tell; (repeat' split) <;> simp

@[simp] theorem completePurges_order : s.completePurges.order = s.order := by
  unfold State.completePurges
  dsimp only
  have h : ∀ (rs : List Purge) (t : State), (rs.foldl (fun s r => s.tell r.requester) t).order = t.order := by
    intro rs
    induction rs with
    | nil => intro t; rfl
    | cons r rs ih => intro t; rw [List.foldl_cons, ih]; simp
  rw [h]; simp

@[simp] theorem disbandWalk_freeCount (force further : Bool) (ps : List PatchId) (n : Nat) :
    (s.disbandWalk force further ps n).freeCount = s.freeCount := by
  induction ps generalizing s further n with
  | nil => simp [State.disbandWalk]
  | cons p ps ih =>
    unfold State.disbandWalk
    dsimp only
    (repeat' split) <;> first
      | simp [ih, asksPurge_keeps s State.freeCount (fun _ _ => rfl) ‹s.asksPurge _ = some _›]
      | simp [ih]

@[simp] theorem revokeWalk_freeCount (further : Bool) (a : AgencyId) (n : Nat) (ls : List LegId) :
    (s.revokeWalk further a n ls).freeCount = s.freeCount := by
  induction ls generalizing s further with
  | nil => simp [State.revokeWalk]
  | cons l ls ih =>
    unfold State.revokeWalk
    dsimp only
    (repeat' split) <;> first
      | simp [ih, asksPurge_keeps s State.freeCount (fun _ _ => rfl) ‹s.asksPurge _ = some _›]
      | simp [ih]

@[simp] theorem walkOn_freeCount : s.walkOn.freeCount = s.freeCount := by
  unfold State.walkOn; dsimp only; (repeat' split) <;> simp

@[simp] theorem resetEach_freeCount (ps : List PatchId) : (s.resetEach ps).freeCount = s.freeCount := by
  induction ps generalizing s with
  | nil => simp [State.resetEach]
  | cons p ps ih => unfold State.resetEach; dsimp only; rw [ih]; split <;> simp

@[simp] theorem tell_freeCount (r : Requester) : (s.tell r).freeCount = s.freeCount := by
  unfold State.tell; (repeat' split) <;> simp

@[simp] theorem completePurges_freeCount : s.completePurges.freeCount = s.freeCount := by
  unfold State.completePurges
  dsimp only
  have h : ∀ (rs : List Purge) (t : State), (rs.foldl (fun s r => s.tell r.requester) t).freeCount = t.freeCount := by
    intro rs
    induction rs with
    | nil => intro t; rfl
    | cons r rs ih => intro t; rw [List.foldl_cons, ih]; simp
  rw [h]; simp

end Sys2Proof.Machine
end

