-- ==== Sys2Proof/Laws/PerInstr.lean ====
section
/-! SUPPORT. Statements made of every command, one lemma per constructor.

`BodyFits`: the body of a well-formed request is at most 252 bytes (R168). -/

namespace Sys2Proof.Laws

/-- The body of a well-formed request is at most 252 bytes (R168). -/
def BodyFits.Statement (i : Instr) : Prop :=
  i.wellFormed = true → (i.asRequest.elim 0 fun r => r.2.2.length) ≤ 252

theorem BodyFits.powerOn (address : BitVec 6) (rate : BitVec 2) :
    BodyFits.Statement (.powerOn address rate) :=
  fun _ => Nat.le_of_ble_eq_true rfl

theorem BodyFits.resetLine (address : BitVec 6) (rate : BitVec 2) :
    BodyFits.Statement (.resetLine address rate) :=
  fun _ => Nat.le_of_ble_eq_true rfl

theorem BodyFits.frameReceived :
    BodyFits.Statement .frameReceived :=
  fun _ => Nat.le_of_ble_eq_true rfl

theorem BodyFits.replySent :
    BodyFits.Statement .replySent :=
  fun _ => Nat.le_of_ble_eq_true rfl

theorem BodyFits.status (h : Header) :
    BodyFits.Statement (.status h) :=
  fun _ => Nat.le_of_ble_eq_true rfl

theorem BodyFits.fetch (h : Header) (max : Byte) :
    BodyFits.Statement (.fetch h max) :=
  fun _ => Nat.le_of_ble_eq_true rfl

theorem BodyFits.resetAll (h : Header) :
    BodyFits.Statement (.resetAll h) :=
  fun _ => Nat.le_of_ble_eq_true rfl

theorem BodyFits.resetAllTakesPlace :
    BodyFits.Statement .resetAllTakesPlace :=
  fun _ => Nat.le_of_ble_eq_true rfl

theorem BodyFits.resetPatches (h : Header) :
    BodyFits.Statement (.resetPatches h) :=
  fun _ => Nat.le_of_ble_eq_true rfl

theorem BodyFits.events (h : Header) :
    BodyFits.Statement (.events h) :=
  fun _ => Nat.le_of_ble_eq_true rfl

theorem BodyFits.setLeg (h : Header) (a : SetLegArgs) :
    BodyFits.Statement (.setLeg h a) :=
  fun _ => Nat.le_of_ble_eq_true rfl

theorem BodyFits.park (h : Header) (leg : Byte) :
    BodyFits.Statement (.park h leg) :=
  fun _ => Nat.le_of_ble_eq_true rfl

theorem BodyFits.unpark (h : Header) (leg : Byte) :
    BodyFits.Statement (.unpark h leg) :=
  fun _ => Nat.le_of_ble_eq_true rfl

theorem BodyFits.legq (h : Header) (leg : Byte) :
    BodyFits.Statement (.legq h leg) :=
  fun _ => Nat.le_of_ble_eq_true rfl

theorem BodyFits.agency (h : Header) (a : AgencyArgs) :
    BodyFits.Statement (.agency h a) := by
  simp [BodyFits.Statement, Instr.asRequest]

theorem BodyFits.plan (h : Header) (first : Byte) (entries : List PlanArgs) :
    BodyFits.Statement (.plan h first entries) := by
  intro hw
  simp only [Instr.wellFormed, decide_eq_true_eq] at hw
  simp [Instr.asRequest, PlanArgs.bytes, bytes16]
  omega

theorem BodyFits.revoke (h : Header) (agency : Byte) :
    BodyFits.Statement (.revoke h agency) :=
  fun _ => Nat.le_of_ble_eq_true rfl

theorem BodyFits.bind (h : Header) (a : BindArgs) :
    BodyFits.Statement (.bind h a) :=
  fun _ => Nat.le_of_ble_eq_true rfl

theorem BodyFits.unbind (h : Header) (leg : Byte) :
    BodyFits.Statement (.unbind h leg) :=
  fun _ => Nat.le_of_ble_eq_true rfl

theorem BodyFits.dirq (h : Header) (table first count : Byte) :
    BodyFits.Statement (.dirq h table first count) :=
  fun _ => Nat.le_of_ble_eq_true rfl

theorem BodyFits.openPatch (h : Header) (a : OpenArgs) :
    BodyFits.Statement (.openPatch h a) := by
  simp [BodyFits.Statement, Instr.asRequest, bytes16, AccessArgs.bytes, bytes64]

theorem BodyFits.join (h : Header) (patch leg options : Byte) :
    BodyFits.Statement (.join h patch leg options) :=
  fun _ => Nat.le_of_ble_eq_true rfl

theorem BodyFits.leave (h : Header) (leg : Byte) :
    BodyFits.Statement (.leave h leg) :=
  fun _ => Nat.le_of_ble_eq_true rfl

theorem BodyFits.disband (h : Header) (first count options : Byte) :
    BodyFits.Statement (.disband h first count options) :=
  fun _ => Nat.le_of_ble_eq_true rfl

theorem BodyFits.access (h : Header) (patch : Byte) (list : AccessArgs) :
    BodyFits.Statement (.access h patch list) :=
  fun _ => Nat.le_of_ble_eq_true rfl

theorem BodyFits.monitorOn (h : Header) (leg patch gain : Byte) :
    BodyFits.Statement (.monitorOn h leg patch gain) :=
  fun _ => Nat.le_of_ble_eq_true rfl

theorem BodyFits.monitorOff (h : Header) (leg patch gain : Byte) :
    BodyFits.Statement (.monitorOff h leg patch gain) :=
  fun _ => Nat.le_of_ble_eq_true rfl

theorem BodyFits.patchq (h : Header) (patch : Byte) :
    BodyFits.Statement (.patchq h patch) :=
  fun _ => Nat.le_of_ble_eq_true rfl

theorem BodyFits.talkPress (h : Header) (leg : Byte) :
    BodyFits.Statement (.talkPress h leg) :=
  fun _ => Nat.le_of_ble_eq_true rfl

theorem BodyFits.talkRelease (h : Header) (leg : Byte) :
    BodyFits.Statement (.talkRelease h leg) :=
  fun _ => Nat.le_of_ble_eq_true rfl

theorem BodyFits.seize (h : Header) (patch leg : Byte) :
    BodyFits.Statement (.seize h patch leg) :=
  fun _ => Nat.le_of_ble_eq_true rfl

theorem BodyFits.seizeClear (h : Header) (patch : Byte) :
    BodyFits.Statement (.seizeClear h patch) :=
  fun _ => Nat.le_of_ble_eq_true rfl

theorem BodyFits.floorq (h : Header) (patch : Byte) :
    BodyFits.Statement (.floorq h patch) :=
  fun _ => Nat.le_of_ble_eq_true rfl

theorem BodyFits.declareOn (h : Header) (leg : Byte) :
    BodyFits.Statement (.declareOn h leg) :=
  fun _ => Nat.le_of_ble_eq_true rfl

theorem BodyFits.declareOff (h : Header) (leg : Byte) :
    BodyFits.Statement (.declareOff h leg) :=
  fun _ => Nat.le_of_ble_eq_true rfl

theorem BodyFits.routeq (h : Header) (patch : Byte) :
    BodyFits.Statement (.routeq h patch) :=
  fun _ => Nat.le_of_ble_eq_true rfl

theorem BodyFits.loadDefine (h : Header) (slot : Byte) (length : Word32) (level : Byte) :
    BodyFits.Statement (.loadDefine h slot length level) :=
  fun _ => Nat.le_of_ble_eq_true rfl

theorem BodyFits.loadWrite (h : Header) (slot : Byte) (offset : Word32) (samples : List Sample) :
    BodyFits.Statement (.loadWrite h slot offset samples) := by
  intro hw
  simp only [Instr.wellFormed, decide_eq_true_eq] at hw
  simp [Instr.asRequest, bytes16, bytes32]
  omega

theorem BodyFits.loadRelease (h : Header) (slot : Byte) :
    BodyFits.Statement (.loadRelease h slot) :=
  fun _ => Nat.le_of_ble_eq_true rfl

theorem BodyFits.streamDefine (h : Header) (slot : Byte) (length : Word32) (level : Byte) :
    BodyFits.Statement (.streamDefine h slot length level) :=
  fun _ => Nat.le_of_ble_eq_true rfl

theorem BodyFits.streamData (h : Header) (slot : Byte) (samples : List Sample) :
    BodyFits.Statement (.streamData h slot samples) := by
  intro hw
  simp only [Instr.wellFormed, decide_eq_true_eq] at hw
  simp [Instr.asRequest, bytes16]
  omega

theorem BodyFits.play (h : Header) (slot patch mode priority repeats : Byte) :
    BodyFits.Statement (.play h slot patch mode priority repeats) :=
  fun _ => Nat.le_of_ble_eq_true rfl

theorem BodyFits.halt (h : Header) :
    BodyFits.Statement (.halt h) :=
  fun _ => Nat.le_of_ble_eq_true rfl

theorem BodyFits.clipq (h : Header) :
    BodyFits.Statement (.clipq h) :=
  fun _ => Nat.le_of_ble_eq_true rfl

theorem BodyFits.carrierConditionChange (leg : LegId) (high : Bool) :
    BodyFits.Statement (.carrierConditionChange leg high) :=
  fun _ => Nat.le_of_ble_eq_true rfl

theorem BodyFits.riseQualifyExpiry (leg : LegId) :
    BodyFits.Statement (.riseQualifyExpiry leg) :=
  fun _ => Nat.le_of_ble_eq_true rfl

theorem BodyFits.dropQualifyExpiry (leg : LegId) :
    BodyFits.Statement (.dropQualifyExpiry leg) :=
  fun _ => Nat.le_of_ble_eq_true rfl

theorem BodyFits.barredDropExpiry (leg : LegId) :
    BodyFits.Statement (.barredDropExpiry leg) :=
  fun _ => Nat.le_of_ble_eq_true rfl

theorem BodyFits.auxInputChange (leg : RadioId) (high : Bool) :
    BodyFits.Statement (.auxInputChange leg high) :=
  fun _ => Nat.le_of_ble_eq_true rfl

theorem BodyFits.auxRiseQualifyExpiry (leg : RadioId) :
    BodyFits.Statement (.auxRiseQualifyExpiry leg) :=
  fun _ => Nat.le_of_ble_eq_true rfl

theorem BodyFits.auxDropQualifyExpiry (leg : RadioId) :
    BodyFits.Statement (.auxDropQualifyExpiry leg) :=
  fun _ => Nat.le_of_ble_eq_true rfl

theorem BodyFits.leadTimerExpiry (leg : RadioId) :
    BodyFits.Statement (.leadTimerExpiry leg) :=
  fun _ => Nat.le_of_ble_eq_true rfl

theorem BodyFits.tailTimerExpiry (leg : RadioId) :
    BodyFits.Statement (.tailTimerExpiry leg) :=
  fun _ => Nat.le_of_ble_eq_true rfl

theorem BodyFits.transmitTimeLimit (leg : RadioId) :
    BodyFits.Statement (.transmitTimeLimit leg) :=
  fun _ => Nat.le_of_ble_eq_true rfl

theorem BodyFits.lockoutExpiry (leg : RadioId) :
    BodyFits.Statement (.lockoutExpiry leg) :=
  fun _ => Nat.le_of_ble_eq_true rfl

theorem BodyFits.confirmWindowExpiry (leg : RadioId) :
    BodyFits.Statement (.confirmWindowExpiry leg) :=
  fun _ => Nat.le_of_ble_eq_true rfl

theorem BodyFits.hangExpiry (patch : PatchId) :
    BodyFits.Statement (.hangExpiry patch) :=
  fun _ => Nat.le_of_ble_eq_true rfl

theorem BodyFits.talkLimitExpiry (patch : PatchId) :
    BodyFits.Statement (.talkLimitExpiry patch) :=
  fun _ => Nat.le_of_ble_eq_true rfl

theorem BodyFits.frameStart (inbound : Vector Block 20) (order : List LegId) :
    BodyFits.Statement (.frameStart inbound order) :=
  fun _ => Nat.le_of_ble_eq_true rfl

theorem BodyFits.clipComplete :
    BodyFits.Statement .clipComplete :=
  fun _ => Nat.le_of_ble_eq_true rfl

theorem BodyFits.cutToneEnd :
    BodyFits.Statement .cutToneEnd :=
  fun _ => Nat.le_of_ble_eq_true rfl

theorem BodyFits.frameDone (beforeTick : Option Nat) :
    BodyFits.Statement (.frameDone beforeTick) :=
  fun _ => Nat.le_of_ble_eq_true rfl

theorem BodyFits.byteReceived (event : LineEvent) :
    BodyFits.Statement (.byteReceived event) :=
  fun _ => Nat.le_of_ble_eq_true rfl

end Sys2Proof.Laws
end

