-- ==== Sys2Proof/Laws/Requests.lean ====
section
/-! SUPPORT. What the taking of a request can do (R172, R173), what the forming of a reply can do (R174), and when a
command is taken on the state as it stands. -/

namespace Sys2Proof.Machine

variable {s : State} {h : Header} {k : Kind} {take : State → State}

/-! ## Settling -/

theorem settle_of_settled (hs : s.Settled) : s.settle = s := by
  unfold State.settle State.takeDueEnd
  rw [hs.1, hs.2]
  rfl

theorem event_of_settled (hs : s.Settled) : s.event take = take s := by
  unfold State.event
  rw [settle_of_settled hs]

/-! ## Taking -/

theorem request_of_ready (hr : s.Ready h) : s.request h k take = take s := by
  obtain ⟨hs, hp, hw⟩ := hr
  unfold State.request
  rw [settle_of_settled hs]
  cases hb : h.broadcast with
  | true => simp [hp]
  | false =>
    rcases hw with hw | ⟨h1, h2⟩
    · simp [hb] at hw
    · simp [hp, h1, Nat.not_le.mpr h2]

theorem request_of_busy (hs : s.Settled) (hb : h.broadcast = false) (ha : s.hasStation = true)
    (hw : s.link.waiting.length < Config.replyLimit) (hp : s.link.inProgress.isSome = true)
    (hk : servedBeside k = false) : s.request h k take = s.refuse h k .busy := by
  unfold State.request
  simp [settle_of_settled hs, hb, ha, hp, hk, Nat.not_le.mpr hw]

theorem request_served_beside (hs : s.Settled) (hb : h.broadcast = false) (ha : s.hasStation = true)
    (hw : s.link.waiting.length < Config.replyLimit) (hk : servedBeside k = true) :
    s.request h k take = take s := by
  unfold State.request
  simp [settle_of_settled hs, hb, ha, hk, Nat.not_le.mpr hw]

theorem request_dropped (hs : s.Settled) (hb : h.broadcast = false)
    (hd : s.hasStation = false ∨ Config.replyLimit ≤ s.link.waiting.length) : s.request h k take = s := by
  unfold State.request
  rcases hd with hd | hd <;> simp [settle_of_settled hs, hb, hd]

theorem request_broadcast_ignored (hs : s.Settled) (hb : h.broadcast = true)
    (hp : s.link.inProgress.isSome = true) : s.request h k take = s := by
  unfold State.request
  simp [settle_of_settled hs, hb, hp]

/-- A request is ignored, refused with BUSY, or taken by the block that owns it, on the settled state. -/
theorem request_cases : s.request h k take = s.settle ∨ s.request h k take = s.settle.refuse h k .busy ∨
    s.request h k take = take s.settle := by
  unfold State.request
  dsimp only
  split <;> split <;> first
    | exact .inl rfl
    | exact .inr (.inr rfl)
    | (split
       · exact .inr (.inl rfl)
       · exact .inr (.inr rfl))

/-! ## Replies -/

theorem startReply_replies : s.startReply.replies = s.replies := by
  unfold State.startReply State.replies
  split <;> simp_all

theorem startReply_silent : s.startReply.silent = s.silent := by
  unfold State.startReply State.silent
  split <;> rfl

theorem formReply_replies (r : Reply) : (s.formReply r).replies = s.replies ++ [r] := by
  unfold State.formReply
  rw [startReply_replies]
  simp [State.replies]

theorem formReply_silent (r : Reply) : (s.formReply r).silent = s.silent := by
  unfold State.formReply
  rw [startReply_silent]
  rfl

/-- A reply formed is one reply more, or for a broadcast none, and nothing else. -/
theorem answer_replied (code : Byte) (body : List Byte) (hd : s.discardsReplies = false) :
    Replied h code body s (s.answer h code body) := by
  unfold State.answer Replied replyTo
  rw [hd]
  cases h.broadcast with
  | true => simp
  | false => simp [formReply_silent, formReply_replies]

theorem refuse_replied (r : Result) (hd : s.discardsReplies = false) :
    Replied h k.code [r.code] s (s.refuse h k r) := answer_replied _ _ hd

theorem grantReply_replied (results : List Byte) (hd : s.discardsReplies = false) :
    Replied h k.code (Result.ok.code :: results) s (s.grantReply h k results) := answer_replied _ _ hd

/-- With nothing in progress no reply is discarded. -/
theorem discardsReplies_of_idle (hp : s.link.inProgress = none) : s.discardsReplies = false := by
  unfold State.discardsReplies
  rw [hp]

/-- The completion of a request in progress is its reply, with nothing in progress after it. -/
theorem finish_replied (p : InProgress) (r : Result) (results : List Byte) (hp : s.link.inProgress = some p) :
    Replied p.header p.kind.code (r.code :: results) { s with link := { s.link with inProgress := none } }
      (s.finish r results) := by
  unfold State.finish
  rw [hp]
  exact answer_replied _ _ (discardsReplies_of_idle rfl)

theorem answer_waiting_le (code : Byte) (body : List Byte) (n : Nat) (hn : s.link.waiting.length ≤ n) :
    (s.answer h code body).link.waiting.length ≤ n + 1 := by
  unfold State.answer
  split
  · omega
  · unfold State.formReply State.startReply
    dsimp only
    split
    · rename_i hw
      have := congrArg List.length hw
      simp at this ⊢
      omega
    · simp
      omega

/-- A command whose meaning is a reply of results on u completes with u. -/
theorem completes_of_grant {i : Instr} {u : State} (results : List Byte)
    (he : exec i s = .next (u.grantReply h k results)) (hd : u.discardsReplies = false) :
    Completes i s h k.code (Result.ok.code :: results) u :=
  ⟨_, he, grantReply_replied results hd⟩

/-- A command whose meaning is a refusal completes with nothing else changed. -/
theorem completes_of_refuse {i : Instr} (r : Result) (he : exec i s = .next (s.refuse h k r))
    (hd : s.discardsReplies = false) : Completes i s h k.code [r.code] s :=
  ⟨_, he, refuse_replied r hd⟩

/-- Whether replies are discarded depends on the request in progress alone. -/
theorem discardsReplies_congr {u : State} (hp : u.link.inProgress = s.link.inProgress) :
    u.discardsReplies = s.discardsReplies := by
  unfold State.discardsReplies
  rw [hp]

/-! ## The Notice Queue -/

/-- A notice offered is appended or dropped: 32 notices are never exceeded (R185). -/
theorem offer_notices_le (d : Detail) (l : Option LegId) (p : Option PatchId)
    (hn : s.link.notices.length ≤ Config.noticeCapacity) :
    (s.offer d l p).link.notices.length ≤ Config.noticeCapacity := by
  unfold State.offer
  split
  · rename_i hlt
    simp only [List.length_append, List.length_cons, List.length_nil]
    omega
  · exact hn

/-- What an offer does to the queue: appended where there is room, and otherwise only the gap flag is set (R185). -/
theorem offer_room (d : Detail) (l : Option LegId) (p : Option PatchId)
    (hn : s.link.notices.length < Config.noticeCapacity) :
    (s.offer d l p).link = { s.link with notices := s.link.notices ++ [⟨d, s.now, l, p⟩] } := by
  unfold State.offer
  rw [if_pos hn]

theorem offer_full (d : Detail) (l : Option LegId) (p : Option PatchId)
    (hn : Config.noticeCapacity ≤ s.link.notices.length) :
    (s.offer d l p).link = { s.link with gap := true } := by
  unfold State.offer
  rw [if_neg (Nat.not_lt.mpr hn)]

end Sys2Proof.Machine
end

