-- ==== Sys2Proof/Laws/Walks.lean ====
section
/-! SUPPORT. What the start of a frame writes, said once, and what a walk of DISBAND or REVOKE does with the patch or leg
it comes to. -/

namespace Sys2Proof.Machine

variable {s : State}

/-! ## The start of a frame -/

/-- Two states that agree field by field are equal. -/
theorem State.eq_of_fields {t : State} (pending : s.pending = t.pending) (legs : s.legs = t.legs)
    (directory : s.directory = t.directory) (patches : s.patches = t.patches) (routes : s.routes = t.routes)
    (clips : s.clips = t.clips) (link : s.link = t.link) (order : s.order = t.order) (walk : s.walk = t.walk)
    (freeCount : s.freeCount = t.freeCount) : s = t := by
  cases s
  cases t
  simp_all

/-- The Clip Player's block depends on the clips and the count of free values alone, and its supply writes no other
field. -/
theorem supplyClip_congr {t : State} (clips : t.clips = s.clips) (count : t.freeCount = s.freeCount) :
    t.supplyClip.1 = s.supplyClip.1 ∧
      t.supplyClip.2 = { t with clips := s.supplyClip.2.clips, freeCount := s.supplyClip.2.freeCount } := by
  cases t
  simp only at clips count
  subst clips
  subst count
  unfold State.supplyClip State.context State.slot
  dsimp only
  (repeat' split) <;> simp_all

/-- The set of a frame is read from the chains and the entries alone. -/
theorem takeSet_congr {t : State} (block : Party → Block) (patches : s.patches = t.patches)
    (entries : s.routes.entries = t.routes.entries) : s.takeSet block = t.takeSet block := by
  unfold State.takeSet State.patch State.entry
  rw [patches, entries]

/-- The start of a frame writes the entries, the frame in progress, the clips and the count of free values, and no other
field. -/
theorem beginFrame_eq (inbound : Vector Block 20) : s.beginFrame inbound =
    { s with
      routes := { s.applyPending.routes with frame := some (s.applyPending.takeSet (sourceBlock inbound s.supplyClip.1)) }
      clips := s.supplyClip.2.clips
      freeCount := s.supplyClip.2.freeCount } := by
  have supply := supplyClip_congr (t := s.applyPending) (s := s) (by simp) (by simp)
  unfold State.beginFrame
  dsimp only
  rw [supply.1, supply.2]
  apply State.eq_of_fields <;> simp
  exact takeSet_congr _ (by simp) rfl

/-! ## The walk of DISBAND -/

variable {force further : Bool} {p : PatchId} {rest : List PatchId} {done : Nat}

/-- A patch that is not ACTIVE is done at once (R65). -/
theorem disbandWalk_passes (h : (s.patch p).state ≠ .active) :
    s.disbandWalk force further (p :: rest) done = s.disbandWalk force further rest (done + 1) := by
  rw [State.disbandWalk]
  split <;> simp_all

/-- An ACTIVE patch with a member in emergency halts the walk without FORCE, whatever the place of the next tick (R66). -/
theorem disbandWalk_halts (h : (s.patch p).state = .active) (he : s.holdsEmergency p = true) :
    s.disbandWalk false further (p :: rest) done = s.finish .halted [byte done, byte (patchNumber p)] := by
  rw [State.disbandWalk, h, he]
  rfl

/-- An ACTIVE patch that passes its test waits for the next tick when that comes first (R139). -/
theorem disbandWalk_waits (h : (s.patch p).state = .active) (he : force = true ∨ s.holdsEmergency p = false)
    (ha : s.asksPurge further = none) :
    s.disbandWalk force further (p :: rest) done = s.waitForTick (.disband none (p :: rest) done force) := by
  rw [State.disbandWalk, h]
  dsimp only
  rw [if_neg (by rcases he with he | he <;> simp [he]), ha]

/-- An ACTIVE patch that passes its test is torn down when its purge is asked for (R67, R68). -/
theorem disbandWalk_tearsDown {u : State} (h : (s.patch p).state = .active)
    (he : force = true ∨ s.holdsEmergency p = false) (ha : s.asksPurge further = some u) :
    s.disbandWalk force further (p :: rest) done =
      if (u.teardown p .disbanded .disband).2 then
        ((u.teardown p .disbanded .disband).1.freePatch p).disbandWalk force true rest (done + 1)
      else (u.teardown p .disbanded .disband).1.setWork (.disband (some p) rest done force) := by
  rw [State.disbandWalk, h]
  dsimp only
  rw [if_neg (by rcases he with he | he <;> simp [he]), ha]

/-! ## The walk of REVOKE -/

variable {a : AgencyId} {total : Nat} {l : LegId} {legs : List LegId}

/-- A leg that is no member is unbound at once (R44). -/
theorem revokeWalk_unbinds (h : (s.leg l).membership = none) :
    s.revokeWalk further a total (l :: legs) = (s.revokeLeg l none a).revokeWalk further a total legs := by
  rw [State.revokeWalk, h]

/-- A member waits for the next tick when that comes before its purge (R139). -/
theorem revokeWalk_waits (h : (s.leg l).membership = some p) (ha : s.asksPurge further = none) :
    s.revokeWalk further a total (l :: legs) = s.waitForTick (.revoke none (l :: legs) a total) := by
  rw [State.revokeWalk, h]
  dsimp only
  rw [ha]

/-- A member leaves its patch when its purge is asked for, and is unbound when that completes (R44). -/
theorem revokeWalk_removes {u : State} (h : (s.leg l).membership = some p) (ha : s.asksPurge further = some u) :
    s.revokeWalk further a total (l :: legs) =
      if (u.removeMember p l .revoke).2 then
        ((u.removeMember p l .revoke).1.revokeLeg l (some p) a).revokeWalk true a total legs
      else (u.removeMember p l .revoke).1.setWork (.revoke (some (l, p)) legs a total) := by
  rw [State.revokeWalk, h]
  dsimp only
  rw [ha]

end Sys2Proof.Machine
end

