-- ==== Sys2Proof/Tests/Slice0.lean ====
section
/-! SUPPORT. Tests of the model: ill-formed commands, the reading of frames, one step of the commands, and for every
statement with hypotheses a concrete state and operands that meet them. -/

namespace Sys2Proof.Tests

open Machine

set_option Elab.async false

/-! ## Helpers -/

/-- An addressed request's header. -/
def h0 : Header := ⟨0x2A, false⟩

/-- A broadcast's header. -/
def hb : Header := ⟨0x2A, true⟩

/-- Whether a command answers a next state with this property. -/
def after (i : Instr) (s : State) (f : State → Bool) : Bool :=
  match exec i s with
  | .next t => f t
  | .fault _ | .refused _ => false

/-- Whether a request is answered at once with this body. -/
def answers (i : Instr) (s : State) (body : List Byte) : Bool := after i s fun t => t.replies.map Reply.body = [body]

/-- The part after power-on. -/
def base : State := State.reset

/-- A binding through agency 1, channel 2. -/
def bound : Binding :=
  { agency := 1, channel := 2, planIndex := 4, generation := 0, authority := 3, priority := 5, ceiling := 9,
    defaultPriority := 4, duplex := false, keyLead := 0, timeLimit := 10, lockout := 1, gain := 2 }

/-- The directory with agency 1 of channels 0–2 on plan entries 2–4, the last two of them good. -/
def listed : State :=
  ((base.modAgency 1 fun x => { x with valid := true, base := 2, count := 3 }).setPlan 3
    { valid := true, agency := 0 }).setPlan 4
    { valid := true, agency := 1, authority := 3, ceiling := 9, defaultPriority := 4, timeLimit := 10, lockout := 1,
      gain := 2 }

/-- A leg bound through agency 1. -/
def bindLeg (s : State) (l : LegId) : State := s.modLeg l fun x => { x with binding := some bound }

/-- A patch opened with margin 3 and hang time 50 ms for every leg. -/
def openAt (s : State) (p : PatchId) : State :=
  s.modPatch p fun _ => { state := .active, access := .all, margin := 3, hang := 50, talkLimit := 5 }

/-- A bound leg as the only member of a patch, with route entry 0. -/
def member (l : LegId) : State :=
  (((openAt (bindLeg base l) 0).modLeg l fun x => { x with membership := some 0 }).modPatch 0 fun x =>
    { x with members := [l], chain := [0] }).modEntry 0 fun _ =>
      { state := .reserved, tag := some 0, kind := some .member, dest := some l }

/-- The floor of patch 1 held by a party. -/
def holds (s : State) (o : Party) : State := s.modFloor 0 fun _ => { state := .held, owner := some o }

/-- A claim of a party, the k-th to have arrived. -/
def claim (party : Party) (priority k : Nat) : Claim := ⟨party, priority, ⟨0, k⟩, none⟩

/-- A frame in progress that took nothing. -/
def inFrame (s : State) : State := { s with routes := { s.routes with frame := some [] } }

/-- A request in progress. -/
def busy (s : State) (h : Header) (k : Kind) (w : Work) : State :=
  { s with link := { s.link with inProgress := some ⟨k, h, w⟩ } }

/-- The receiver in a frame with this content. -/
def received (s : State) (content : List Byte) (escapePending : Bool) : State :=
  s.setReceiver (.inFrame content escapePending)

/-- Four replies waiting behind one being sent. -/
def crowded : State :=
  { base with link := { base.link with waiting := List.replicate 4 ⟨1, 0, []⟩, sending := some ⟨1, 0, []⟩ } }

/-- A slot, and the playback context. -/
def slotted (s : State) (n : SlotId) (x : Slot) : State := s.modSlot n fun _ => x

/-- A stored clip of 20 samples in one block. -/
def storedSlot : Slot := { state := .ready, mode := some .stored, length := 20, blocks := [0] }

/-- A stream clip of 20 samples. -/
def streamSlot : Slot := { state := .stream, mode := some .stream, length := 20 }

/-- A playback of slot 0 on patch 1. -/
def playing (s : State) (phase : Phase) (mode : PlayMode) : State :=
  (s.modContext fun _ => { phase, patch := some 0, mode, repeats := 1 }).modSlot 0 fun x => { x with state := .playing }

/-- Every route entry taken. -/
def noEntry (s : State) : State := s.mapEntries fun _ x => { x with state := .purging }

/-- The arguments of a SETLEG with every time at the end of its range. -/
def setArgs (leg inputMode options : Byte) : SetLegArgs := ⟨leg, inputMode, 1, 500, 2000, 0xCE, 2, 1, 1000, 7, options⟩

/-- A plan entry at the ends of its ranges. -/
def planArgs : PlanArgs := ⟨1, 31, 63, 14, 14, 500, 600, 120, 1, 15⟩

/-- An OPEN at the ends of its ranges. -/
def openArgs (patch : Byte) : OpenArgs := ⟨patch, Vector.replicate 8 0x7E, ⟨1, 0⟩, 15, 5000, 300, 1⟩

/-! ## Ill-formed commands -/

theorem test_illformed_plan : (Instr.plan h0 0 (List.replicate 21 planArgs)).wellFormed = false := by decide
theorem test_illformed_loadWrite : (Instr.loadWrite h0 0 0 (List.replicate 123 0)).wellFormed = false := by
  decide +kernel
theorem test_illformed_streamData : (Instr.streamData h0 0 (List.replicate 125 0)).wellFormed = false := by
  decide +kernel
theorem test_illformed_seize : (Instr.seize h0 1 255).wellFormed = false := by decide
theorem test_illformed_frameStart : (Instr.frameStart (Vector.replicate 20 silence) [3, 3]).wellFormed = false := by
  decide

/-! ## Reading the link -/

/-- The JOIN of 10.5: station 12, leg 9, patch 7, OVERRIDE_ACCESS, tag 0x2A. -/
theorem test_reads_join :
    readBody h0 .join [0x07, 0x09, 0x02] = .request (.join h0 7 9 2) ∧ Kind.ofCode 0x31 = some .join := by decide

/-- With a fourth body byte the length does not agree (10.5). -/
theorem test_reads_longJoin : readBody h0 .join [0x07, 0x09, 0x02, 0x00] = .wrongLength := by decide

/-- The check value of this cyclic redundancy check over the nine digits. -/
theorem test_checkWord : checkWord [0x31, 0x32, 0x33, 0x34, 0x35, 0x36, 0x37, 0x38, 0x39] = 0xAEE7 := by decide +kernel

/-- Delimiters and escapes in the content go on the line as two bytes (R168). -/
theorem test_escaped : [0xE7, 0xE6, 0x05].flatMap escaped = [0xE6, 0xF7, 0xE6, 0xF6, 0x05] := by decide

/-- A form byte out of range, and a SEIZE of leg 255. -/
theorem test_reads_forms :
    readBody h0 .load [3, 0] = .outOfRange ∧ readBody h0 .reset [2] = .outOfRange ∧
      readBody h0 .seize [1, 255] = .request (.seizeClear h0 1) := by decide

/-- The host asks for no word of this part. -/
theorem test_noWord : decodeTableWord 8 1 = none ∧ base.withFetchWord 8 1 = base := ⟨rfl, rfl⟩

/-! ## One step -/

theorem test_idle : step base = .next base := rfl

/-- A good frame at its closing delimiter (10.5): no patch is open, so PATCH_STATE. -/
theorem test_frame :
    after (.byteReceived (.byte 0xE7)) (received base (withCheckWord [0x01, 0x31, 0x2A, 7, 9, 2]) false)
      (fun t => t.replies = [⟨0x31, 0x2A, [0x0A]⟩] && t.link.receiver = .inFrame [] false) = true := by decide +kernel

theorem test_openPatch :
    after (.openPatch h0 (openArgs 0)) base (fun t =>
      (t.patch 0).state = .active && (t.patch 0).hang = 5000 && t.replies.map Reply.body = [[0, 1]]) = true := by
  decide +kernel

theorem test_join :
    after (.join h0 1 2 0) (openAt (bindLeg listed 2) 0) (fun t =>
      (t.patch 0).members = [2] && (t.leg 2).membership = some 0 && (t.entry 0).gain = 2 &&
        t.replies.map Reply.body = [[0, 0, 5, 0]]) = true := by decide +kernel

/-- Pass-through on a rise: the claim is granted, and the other radio is keyed. -/
theorem test_claim :
    after (.riseQualifyExpiry 2) ((member 2).modLeg 2 fun x => { x with rx := { state := .rising, riseTimer := some 0 } })
      (fun t => (t.patch 0).floor.owner = some (.leg 2) && (t.leg 2).flags.rose && (t.leg 2).demand = false) = true := by
  decide +kernel

theorem test_talkLimit :
    after (.talkLimitExpiry 0) ((holds (member 2) (.leg 2)).modFloor 0 fun f => { f with talkTimer := some 0 })
      (fun t => (t.patch 0).floor.state = .idle) = true := by decide +kernel

theorem test_seize :
    after (.seize h0 1 2) (member 2) (fun t =>
      (t.patch 0).floor.owner = some (.leg 2) && (t.patch 0).floor.seized && (t.patch 0).floor.talkTimer = none) =
      true := by decide +kernel

theorem test_leave :
    after (.leave h0 2) (member 2) (fun t =>
      (t.patch 0).members = [] && (t.entry 0).state = .free && t.replies.map Reply.body = [[0]]) = true := by
  decide +kernel

/-- A purge that waits for the frame done. -/
theorem test_leaveInFrame :
    after (.leave h0 2) (inFrame (member 2)) (fun t =>
      (t.entry 0).state = .purging && t.replies = [] &&
        after (.frameDone none) t fun u => (u.entry 0).state = .free && u.replies.map Reply.body = [[0]]) = true := by
  decide +kernel

theorem test_disband :
    after (.disband h0 1 12 1) (member 2) (fun t =>
      (t.patch 0).state = .free && (t.leg 2).membership = none && t.replies.map Reply.body = [[0, 12, 0]]) = true := by
  decide +kernel

theorem test_frameStart :
    after (.frameStart (Vector.replicate 20 silence) []) base (fun t => t.link.stamp = 1 && t.routes.frame = some []) =
      true := by decide +kernel

theorem test_loadDefine :
    after (.loadDefine h0 0 513 2) base (fun t =>
      (t.slot 0).blocks = [0, 1] && t.replies.map Reply.body = [[0, 0, 254]]) = true := by decide +kernel

theorem test_status : after (.status h0) base (fun t => t.replies.map (fun r => r.body.length) = [45]) = true := by
  decide +kernel

theorem test_resetLine : after (.resetLine 5 2) base (fun t => t.link.address = 5 && t.link.rate = 2) = true := by
  decide +kernel

theorem test_bindNoAgency : answers (.bind h0 ⟨0, 0, 0, 0, 255, 0⟩) base [0x0F] = true := by decide +kernel

theorem test_revoke :
    after (.revoke h0 1) (member 2) (fun t =>
      (t.leg 2).binding = none && (t.agency 1).generation = 1 && t.replies.map Reply.body = [[0, 1]]) = true := by
  decide +kernel

theorem test_declare :
    after (.declareOn h0 2) (member 2) (fun t =>
      (t.leg 2).emergency = some .declare && t.replies.map Reply.body = [[0, 1, 2]] && t.attentionLow) = true := by
  decide +kernel

/-! ## What meets the hypotheses of the statements -/

theorem test_hyps_StepTakesTheFrontCommand : { base with pending := [.clipq h0] }.pending = Instr.clipq h0 :: [] := rfl

theorem test_hyps_FullReset :
    FullReset (.powerOn 5 1) base ∧ FullReset (.resetLine 5 1) base ∧
      FullReset .resetAllTakesPlace (busy base h0 .reset (.resetAll 0)) := 
    ⟨trivial, trivial, show (busy base h0 .reset (.resetAll 0)).resetIsDue = true by decide⟩

theorem test_hyps_TablesAfterAFullReset : base.Settled := by decide

theorem test_hyps_ResetAllWaitsForItsReply :
    base.Ready h0 ∧ base.Ready hb ∧ (busy base h0 .reset (.resetAll 0)).resetIsDue = true ∧
      (crowded.Settled ∧ crowded.link.sending = some ⟨1, 0, []⟩ ∧ crowded.work = none) ∧
      (busy crowded h0 .reset (.resetAll 2)).Settled ∧
      (busy crowded h0 .reset (.resetAll 2)).work = some (.resetAll 2) ∧
      (busy crowded h0 .reset (.resetAll 1)).Settled ∧
      (busy crowded h0 .reset (.resetAll 1)).work = some (.resetAll 1) := by decide +kernel

theorem test_patchLaw (s : State) (hs : s = member 2 ∨ s = member 16) : PatchLaw s := by
  rcases hs with rfl | rfl <;> constructor <;>
    first | decide +kernel | (intros; contradiction)

theorem test_floorLaw (s : State) (hs : s = member 2 ∨ s = holds (member 2) (.leg 2)) : FloorLaw s := by
  rcases hs with rfl | rfl <;> constructor <;> decide +kernel

theorem test_routeLaw : RouteLaw (member 2) := by
  constructor
  case disbanding => exact fun _ _ _ _ h => nomatch h
  all_goals decide +kernel

theorem test_playbackLaw (s : State)
    (hs : s = slotted base 7 streamSlot ∨ s = playing (slotted base 0 storedSlot) .playing .take) : PlaybackLaw s := by
  rcases hs with rfl | rfl <;> constructor <;> decide +kernel

theorem test_hyps_ResetPatchesFreesEveryActivePatch :
    (member 2).Ready h0 ∧ (member 2).routes.frame = none ∧ PatchLaw (member 2) :=
  ⟨by decide +kernel, by decide +kernel, test_patchLaw _ (.inl rfl)⟩

theorem test_hyps_RequestsTurnedAway_busy :
    (Instr.clipq h0).asRequest = some (h0, .clipq, []) ∧ h0.broadcast = false ∧
      ((busy base h0 .leave .leave).Settled ∧ (busy base h0 .leave .leave).Admits ∧
        (busy base h0 .leave .leave).link.inProgress.isSome = true ∧
        (busy base h0 .leave .leave).discardsReplies = false) ∧
      ((busy base hb .reset (.resetAll 1)).Settled ∧ (busy base hb .reset (.resetAll 1)).Admits ∧
        (busy base hb .reset (.resetAll 1)).discardsReplies = true) := by decide +kernel

theorem test_hyps_RequestsTurnedAway_dropped :
    (Instr.clipq hb).asRequest = some (hb, .clipq, []) ∧ ({ base with link := { base.link with address := 0 } }).Settled ∧
      ({ base with link := { base.link with address := 63 } }).Settled ∧
      (crowded.Settled ∧ 4 ≤ crowded.link.waiting.length) ∧ hb.broadcast = true ∧
      (busy base h0 .leave .leave).link.inProgress.isSome = true := by decide +kernel

theorem test_hyps_OutOfRangeIsRefused :
    (Instr.fetch h0 0).asRequest = some (h0, .fetch, [0]) ∧ ¬ ArgumentsInRange (.fetch h0 0) ∧
      ¬ ArgumentsInRange (.fetch h0 9) ∧ ¬ ArgumentsInRange (.park h0 20) ∧ base.Ready h0 := by
  unfold ArgumentsInRange
  dsimp only
  decide +kernel

theorem test_hyps_QueriesOnlyReply :
    base.Ready h0 ∧ (19 : Byte).toNat = (19 : LegId).val ∧
      (1 ≤ (1 : Byte).toNat ∧ (31 : Byte).toNat + (1 : Byte).toNat ≤ 32) ∧
      ((8 : Byte).toNat ≤ 8 ∧ (248 : Byte).toNat + (8 : Byte).toNat ≤ 256) ∧
      (12 : Byte).toNat = (11 : PatchId).val + 1 := by decide +kernel

theorem test_hyps_StatusAndFetchAreServed :
    base.Serves h0 ∧ base.Serves hb ∧ (busy base h0 .leave .leave).Serves h0 ∧
      (1 ≤ (1 : Byte).toNat ∧ (8 : Byte).toNat ≤ 8) := by decide +kernel

theorem test_hyps_EventsTakesTheLowestFlaggedLeg :
    base.Ready h0 ∧ (∀ l : LegId, (base.leg l).flags.any = false) ∧
      let s := base.modLeg 19 fun x => { x with flags := { transmit := true } }
      s.Ready h0 ∧ (s.leg 19).flags.any = true ∧ ∀ m, m < 19 → (s.leg m).flags.any = false := by decide +kernel

theorem test_hyps_ReceiverTakesEachByte_bytes :
    base.Settled ∧ base.link.receiver = .hunt ∧
      (received base [] false).link.receiver = .inFrame [] false ∧
      (received base (List.replicate 257 0) false).link.receiver = .inFrame (List.replicate 257 0) false ∧
      (received base (List.replicate 256 0) true).link.receiver = .inFrame (List.replicate 256 0) true ∧
      (0xE6 : Byte) ≠ 0xE7 := by decide +kernel

theorem test_hyps_ReceiverTakesEachByte_discards :
    (received base [1, 2, 3, 4] false).Settled ∧ [1, 2, 3, 4].length < 5 ∧
      [1, 1, 0, 0, 0].drop 3 ≠ bytes16 (checkWord ([1, 1, 0, 0, 0].take 3)) ∧
      ∀ address : Byte, (withCheckWord [2, 1, 0]).head? = some address →
        address ≠ 63 ∧ (base.hasStation = true → address.toNat ≠ base.link.address.toNat) := by
  refine ⟨by decide +kernel, by decide, by decide +kernel, ?_⟩
  intro address h
  cases h
  decide +kernel

theorem test_hyps_ReceiverTakesEachByte_turnedAway :
    base.Settled ∧ base.Admits ∧ base.discardsReplies = false ∧
      (received base (withCheckWord ([1, 0x55, 9] ++ [])) false).link.receiver =
        .inFrame (withCheckWord ([base.link.address.setWidth 8, 0x55, 9] ++ [])) false ∧
      Kind.ofCode 0x55 = none ∧ Kind.ofCode 0x31 = some .join ∧
      readBody ⟨9, false⟩ .join [7, 9, 2, 0] = .wrongLength := by decide +kernel

/-- A form byte and a choice byte out of range, with no request in progress and with one; and broadcasts of no known kind
and of a wrong length. -/
theorem test_hyps_ReceiverTakesEachByte_range :
    let load := received base (withCheckWord ([1, Kind.load.code, 9] ++ [3, 0])) false
    let talk := received (busy base h0 .leave .leave) (withCheckWord ([1, Kind.talk.code, 9] ++ [16, 2])) false
    (load.Settled ∧ load.Admits ∧ load.discardsReplies = false ∧ 2 < (3 : Byte).toNat ∧
        load.link.receiver =
          .inFrame (withCheckWord ([load.link.address.setWidth 8, Kind.load.code, 9] ++ [3, 0])) false) ∧
      (talk.Settled ∧ talk.Admits ∧ talk.discardsReplies = false ∧ 1 < (2 : Byte).toNat ∧
        talk.link.inProgress.isSome = true) ∧
      readBody ⟨9, true⟩ .join [7, 9, 2, 0] = .wrongLength ∧
      (received base (withCheckWord ([63, 0x55, 9] ++ [])) false).Settled := by decide +kernel

theorem test_hyps_GoodFrameIsItsRequest :
    (received base (withCheckWord ([1, Kind.join.code, 0x2A] ++ [7, 9, 2])) false).Settled ∧
      (Instr.join h0 7 9 2).wellFormed = true ∧ (Instr.join h0 7 9 2).asRequest = some (h0, .join, [7, 9, 2]) ∧
      (h0.broadcast = false ∧ base.hasStation = true ∧ (1 : Byte).toNat = base.link.address.toNat) ∧
      (Instr.clipq hb).asRequest = some (hb, .clipq, []) ∧ hb.broadcast = true := by decide +kernel

theorem test_hyps_FramesReadAsTheyAreWritten :
    (Instr.clipq h0).wellFormed = true ∧ (Instr.clipq h0).asRequest = some (h0, .clipq, []) ∧
      (withCheckWord (List.replicate 255 0xE7)).length ≤ 257 := by decide +kernel

theorem test_hyps_SetLegWritesTheConfiguration_ranges :
    ArgumentsInRange (.setLeg h0 (setArgs 19 0 0)) ∧ ArgumentsInRange (.setLeg h0 (setArgs 0 2 0)) ∧
      ArgumentsInRange (.setLeg h0 (setArgs 2 1 0)) ∧ ArgumentsInRange (.setLeg h0 (setArgs 15 2 1)) := by
  unfold ArgumentsInRange inSteps
  dsimp only
  refine ⟨?_, ?_, ?_, ?_⟩ <;> decide +kernel

theorem test_hyps_SetLegWritesTheConfiguration :
    base.Ready h0 ∧ (setArgs 19 0 0).leg.toNat = (19 : LegId).val ∧ (base.leg 19).membership = none ∧
      (base.leg 19).tx.state ≠ .fault ∧ hasOption (setArgs 19 0 0).options 0 = false ∧ (member 2).Ready h0 ∧
      ((member 2).leg 2).membership.isSome = true ∧
      inputModeOf (setArgs 2 1 0).inputMode ≠ ((member 2).leg 2).config.inputMode := by decide +kernel

theorem test_hyps_ClearFaultLeavesTheFault :
    let s := base.modLeg 15 fun x => { x with tx := { x.tx with state := .fault } }
    s.Ready h0 ∧ (setArgs 15 2 1).leg.toNat = (15 : LegId).val ∧ (s.leg 15).membership = none ∧
      (s.leg 15).tx.state = .fault ∧ hasOption (setArgs 15 2 1).options 0 = true := by decide +kernel

theorem test_hyps_ParkLatchesAndUnparkCompares :
    ((member 2).Ready h0 ∧ ((member 2).leg 2).membership.isSome = true) ∧
      (base.Ready h0 ∧ (base.leg 19).membership = none ∧ (base.leg 19).park.parked = false) ∧
      let s := base.modLeg 0 fun x => { x with park := { parked := true } }
      s.Ready h0 ∧ (s.leg 0).membership = none ∧ (s.leg 0).park.parked = true ∧ RxState.idle ≠ .rising ∧
        RxState.idle ≠ .falling ∧ (s.leg 0).rx = { state := .idle } ∧ (s.leg 0).aux = { active := false } ∧
        (s.leg 0).tx.state = .off := by decide +kernel

theorem test_hyps_CarrierChangeMovesTheReceiveMachine :
    (base.Settled ∧ (base.leg 0).park.parked = false ∧ (base.leg 0).masked 0 = false ∧ (base.leg 0).config.rise ≠ 0 ∧
        (base.leg 0).config.drop ≠ 0) ∧
      let s := (bindLeg base 0).modLeg 0 fun x => { x with tx := { x.tx with state := .on } }
      s.Settled ∧ (s.leg 0).masked 0 = true := by decide +kernel

/-- Each receive state, with the condition that moves it, and a parked leg. -/
theorem test_hyps_CarrierChangeMovesTheReceiveMachine_arms :
    (∀ (st : RxState) (high : Bool),
      (st, high) ∈ [(RxState.idle, true), (.rising, false), (.active, false), (.falling, true), (.barred, true),
        (.barred, false)] →
      let s := base.modLeg 19 fun x => { x with rx := { state := st } }
      s.Settled ∧ (s.leg 19).park.parked = false ∧ (s.leg 19).masked 19 = false ∧ (s.leg 19).rx.state = st ∧
        ({ s.leg 19 with inputs := { (s.leg 19).inputs with carrierHigh := high } } : Leg).condition 19 = high ∧
        (s.leg 19).config.rise ≠ 0 ∧ (s.leg 19).config.drop ≠ 0) ∧
      let s := base.modLeg 0 fun x => { x with park := { parked := true } }
      s.Settled ∧ (s.leg 0).park.parked = true := by
  refine ⟨?_, by decide +kernel⟩
  intro st high h
  simp only [List.mem_cons, List.not_mem_nil, or_false, Prod.mk.injEq] at h
  rcases h with h | h | h | h | h | h <;> obtain ⟨rfl, rfl⟩ := h <;> decide +kernel

theorem test_hyps_KeyDemandMovesTheTransmitMachine :
    let off := bindLeg base 15
    let placed (st : TxState) (on : Bool) := off.modLeg 15 fun x => { x with demand := on, tx := { x.tx with state := st } }
    (15 : LegId).val < 16 ∧ (off.leg 15).demand = false ∧ (off.leg 15).tx.state = .off ∧
      (((placed .tail false).leg 15).demand = false ∧ ((placed .tail false).leg 15).tx.state = .tail) ∧
      (((placed .on true).leg 15).demand = true ∧ ((placed .on true).leg 15).tx.state = .on) ∧
      ((placed .lockout true).leg 15).tx.state = .lockout ∧
      (∀ st : RxState, (((member 2).modLeg 2 fun x => { x with rx := { state := st } }).leg 2).rx.state = st) := by
  repeat' apply And.intro
  case right.right.right.right.right => exact fun st => by cases st <;> decide +kernel
  all_goals decide +kernel

/-- Key demand on masks a leg whose carrier was present: RX_IDLE, the flag, and its queued claim gone. -/
theorem test_keyDemandMasks :
    let s := ((holds (member 2) .clip).modFloor 0 fun f => { f with queue := [claim (.leg 2) 5 0] }).modLeg 2 fun x =>
      { x with rx := { state := .active } }
    let t := s.setDemand 2 true
    (t.leg 2).rx.state = .idle ∧ (t.leg 2).flags.fell = true ∧ (t.patch 0).floor.queue = [] ∧
      (t.leg 2).tx.state = .on := by decide +kernel
theorem test_hyps_RiseQualifiesIntoAClaim :
    (let s := (member 2).modLeg 2 fun x => { x with rx := { state := .rising, riseTimer := some 0 } }
     s.Settled ∧ (s.leg 2).rx.state = .rising ∧ (s.leg 2).rx.riseTimer = some 0 ∧ (s.leg 2).membership = some 0) ∧
      let s := base.modLeg 19 fun x => { x with config := { x.config with rise := 0 } }
      s.Settled ∧ (s.leg 19).park.parked = false ∧ (s.leg 19).masked 19 = false ∧ (s.leg 19).rx = {} ∧
        (s.leg 19).config.rise = 0 ∧
        ({ s.leg 19 with inputs := { (s.leg 19).inputs with carrierHigh := true } } : Leg).condition 19 = true := by
  decide +kernel

theorem test_hyps_DropQualifiesIntoAWithdrawal :
    (let s := (member 2).modLeg 2 fun x => { x with rx := { state := .falling, dropTimer := some 0 } }
     s.Settled ∧ (s.leg 2).rx.state = .falling ∧ (s.leg 2).rx.dropTimer = some 0) ∧
      let s := (member 16).modLeg 16 fun x => { x with rx := { state := .barred, barTimer := some 0 }, talk := true }
      s.Settled ∧ (s.leg 16).rx.state = .barred ∧ (s.leg 16).rx.barTimer = some 0 ∧ 16 ≤ (16 : LegId).val ∧
        (s.leg 16).talk = true ∧ (2 : LegId).val < 16 := by decide +kernel

/-- With a rise qualify of 0 the aux input qualifies as it changes. -/
theorem test_auxAtOnce :
    after (.auxInputChange 2 true) (base.modLeg 2 fun x =>
        { x with config := { x.config with rise := 0, auxFunction := .emergency } })
      (fun t => (t.leg 2).aux = { active := true } && (t.leg 2).emergency = some .aux && (t.leg 2).flags.aux) =
      true := by decide +kernel

theorem test_hyps_AuxInputIsQualified :
    (base.Settled ∧ (base.leg (radioLeg 15)).park.parked = false) ∧
      (let s := base.modLeg 15 fun x => { x with config := { x.config with rise := 0, drop := 0 } }
       let d := s.modLeg 15 fun x => { x with aux := { active := true } }
       s.Settled ∧ (true != (s.leg 15).config.auxLow) = true ∧ (s.leg 15).aux.active = false ∧
         (s.leg 15).aux.riseTimer = none ∧ (s.leg 15).config.rise = 0 ∧ d.Settled ∧
         (false != (d.leg 15).config.auxLow) = false ∧ (d.leg 15).aux.active = true ∧
         (d.leg 15).aux.dropTimer = none ∧ (d.leg 15).config.drop = 0) ∧
      (let s := base.modLeg 0 fun x => { x with park := { parked := true } }
       s.Settled ∧ (s.leg (radioLeg 0)).park.parked = true) ∧
      let s := base.modLeg 15 fun x => { x with aux := { active := true, riseTimer := some 0, dropTimer := some 0 } }
      s.Settled ∧ (s.leg (radioLeg 15)).aux.riseTimer = some 0 ∧ (s.leg (radioLeg 15)).aux.dropTimer = some 0 := by
  decide +kernel

theorem test_hyps_KeyingOpensAndEnds :
    let s (f : Tx → Tx) : State := base.modLeg 15 fun x => { x with tx := f x.tx }
    let t (f : Tx → Tx) : Tx := ((s f).leg (radioLeg 15)).tx
    let lead (x : Tx) : Tx := { x with state := .lead, leadTimer := some 0 }
    let tail (x : Tx) : Tx := { x with state := .tail, tailTimer := some 0 }
    let limit (x : Tx) : Tx := { x with state := .on, timeLimit := 1, lockout := 1, keyed := some 1000 }
    let window (x : Tx) : Tx := { x with state := .on, confirm := .window 0 }
    ((s lead).Settled ∧ (t lead).state = .lead ∧ (t lead).leadTimer = some 0) ∧
      ((s tail).Settled ∧ (t tail).state = .tail ∧ (t tail).tailTimer = some 0) ∧
      ((t limit).state.keyAsserted = true ∧ (t limit).timeLimit ≠ 0 ∧ (t limit).lockout ≠ 0 ∧
        (t limit).keyed = some (1000 * (t limit).timeLimit)) ∧
      ((t window).state = .on ∧ (t window).confirm = .window 0 ∧
        ((s window).leg (radioLeg 15)).aux.active = false ∧
        (((s window).modLeg 15 fun x => { x with aux := { active := true } }).leg 15).aux.active = true) := by
  decide +kernel

theorem test_hyps_LockoutEndsByTheDemand :
    let s := base.modLeg 15 fun x => { x with tx := { x.tx with state := .lockout, lockoutTimer := some 0 } }
    let d := s.modLeg 15 fun x => { x with demand := true, config := { x.config with mask := { transmit := true } } }
    s.Settled ∧ (s.leg (radioLeg 15)).tx.state = .lockout ∧ (s.leg (radioLeg 15)).tx.lockoutTimer = some 0 ∧
      (s.leg 15).demand = false ∧ (d.leg 15).demand = true ∧ (d.leg 15).config.mask.transmit = true ∧
      d.link.notices.length < 32 := by decide +kernel

theorem test_hyps_AgencyWritesAndCounts :
    base.Ready h0 ∧ (31 : Byte).toNat = (31 : AgencyId).val ∧
      ArgumentsInRange (.agency h0 ⟨31, 1, #v[0x20, 0x7E, 0x41, 0x41], 192, 64⟩) := by
  unfold ArgumentsInRange inText
  dsimp only
  decide +kernel

theorem test_hyps_PlanWritesAndCounts :
    base.Ready h0 ∧ ¬ ArgumentsInRange (.plan h0 249 (List.replicate 8 planArgs)) ∧
      ArgumentsInRange (.plan h0 248 (List.replicate 8 planArgs)) ∧
      ((255 : PlanId).val = (248 : Byte).toNat + 7 ∧ (List.replicate 8 planArgs)[7]? = some planArgs) ∧
      (247 : PlanId).val < (248 : Byte).toNat := by
  unfold ArgumentsInRange PlanArgs.InRange inSteps
  dsimp only
  decide +kernel

theorem test_hyps_TranslationChecksInOrder :
    (base.agency 1).valid = false ∧ (listed.agency 1).valid = true ∧ (5 : Byte) ≠ (listed.agency 1).generation ∧
      (listed.agency 1).count ≤ 3 ∧ (2 < (listed.agency 1).count ∧ (listed.agency 1).base + 2 = (4 : PlanId).val) ∧
      (listed.planEntry 2).valid = false ∧ ((listed.planEntry 3).valid = true ∧ (listed.planEntry 3).agency ≠ 1) ∧
      ((listed.planEntry 4).valid = true ∧ (listed.planEntry 4).agency = 1 ∧ (listed.planEntry 4).ceiling < 10 ∧
        9 ≤ (listed.planEntry 4).ceiling) := by decide +kernel

theorem test_hyps_BindTakesOneOfTwoPaths :
    ((member 2).Ready h0 ∧ ((member 2).leg 2).membership.isSome = true) ∧
      (let s := bindLeg listed 2
       s.Ready h0 ∧ (s.leg 2).membership = none ∧ (s.leg 2).binding = some bound ∧ bound.agency.val = (1 : Byte).toNat ∧
         bound.channel = (2 : Byte).toNat ∧ bound.generation = (s.agency bound.agency).generation ∧
         (2 : Byte).getLsbD 0 = false ∧ bound.ceiling < (10 : Byte).toNat ∧ (9 : Byte).toNat ≤ bound.ceiling) ∧
      ((1 : Byte).getLsbD 0 = true ∧ (base.leg 2).binding = none ∧
        base.translate 1 2 none none = .refused .agencyInvalid ∧
        listed.translate 1 2 none none = .found (listed.planEntry 4)) := by decide +kernel

/-- Channel 2 of a leg keyed as a duplex radio is now half duplex, and of one keyed as none now duplex. -/
theorem test_hyps_BindTakesOneOfTwoPaths_masking :
    let keyed (s : State) (was : Bool) := s.modLeg 2 fun x =>
      { x with binding := some { bound with duplex := was }, tx := { x.tx with state := .tail } }
    let duplex := listed.setPlan 4 { listed.planEntry 4 with duplex := true }
    (2 : LegId).val < 16 ∧ ((keyed listed true).Ready h0 ∧ ((keyed listed true).leg 2).membership = none ∧
        ((keyed listed true).leg 2).tx.state.keyAsserted = true ∧
        ((keyed listed true).leg 2).binding.any Binding.duplex = true ∧
        (keyed listed true).translate 1 2 none none = .found (listed.planEntry 4) ∧
        (listed.planEntry 4).duplex = false) ∧
      ((keyed duplex false).Ready h0 ∧ ((keyed duplex false).leg 2).tx.state.keyAsserted = true ∧
        ((keyed duplex false).leg 2).binding.any Binding.duplex = false ∧
        (keyed duplex false).translate 1 2 none none = .found (duplex.planEntry 4) ∧
        (duplex.planEntry 4).duplex = true) := by decide +kernel

theorem test_hyps_BindTakesOneOfTwoPaths_ranges :
    ArgumentsInRange (.bind h0 ⟨2, 1, 2, 0, 255, 2⟩) ∧ ArgumentsInRange (.bind h0 ⟨19, 31, 63, 0, 14, 3⟩) := by
  unfold ArgumentsInRange
  dsimp only
  decide +kernel

theorem test_hyps_UnbindClearsTheBinding :
    ((member 2).Ready h0 ∧ ((member 2).leg 2).membership.isSome = true) ∧
      (base.Ready h0 ∧ (base.leg 19).membership = none ∧ (base.leg 19).tx.state.keyAsserted = false ∧
        (base.leg 19).tx.state ≠ .fault) ∧
      let keyed (duplex : Bool) := base.modLeg 15 fun x =>
        { x with binding := some { bound with duplex := duplex }, tx := { x.tx with state := .tail } }
      (keyed true).Ready h0 ∧ ((keyed true).leg 15).membership = none ∧ ((keyed true).leg 15).tx.state ≠ .fault ∧
        (15 : LegId).val < 16 ∧ ((keyed true).leg 15).tx.state.keyAsserted = true ∧
        ((keyed true).leg 15).binding.any Binding.duplex = true ∧
        (keyed false).Ready h0 ∧ ((keyed false).leg 15).binding.any Binding.duplex = false := by decide +kernel

theorem test_hyps_RevokeUnbindsEveryLegOfTheAgency :
    (member 2).Ready h0 ∧ (1 : Byte).toNat = (1 : AgencyId).val ∧ (member 2).routes.frame = none ∧ (member 2).Paced 1 ∧
      (((member 2).leg 2).binding.any fun b => b.agency = 1) = true ∧
      (((member 2).leg 3).binding.any fun b => b.agency = 1) = false := by decide +kernel

theorem test_hyps_OpenAndAccessWriteTheSettings :
    base.Ready h0 ∧ ((openArgs 12).patch.toNat = (11 : PatchId).val + 1 ∧ (base.patch 11).state = .free) ∧
      ((openArgs 0).patch = 0 ∧ ((openAt base 0).patch 1).state = .free ∧
        ∀ q : PatchId, q < 1 → ((openAt base 0).patch q).state ≠ .free) ∧
      (openAt base 11).Ready h0 ∧ ((openAt base 11).patch 11).state ≠ .free ∧
      (∀ q, ((base.mapPatches fun x => { x with state := .active }).patch q).state ≠ .free) ∧
      ((openAt base 11).patch 11).state = .active ∧ (base.patch 0).state ≠ .active := by decide +kernel

theorem test_hyps_OpenAndAccessWriteTheSettings_ranges :
    ArgumentsInRange (.openPatch h0 (openArgs 0)) ∧ ArgumentsInRange (.openPatch h0 (openArgs 12)) := by
  unfold ArgumentsInRange inText inSteps
  dsimp only
  decide +kernel

theorem test_hyps_JoinChecksInOrder :
    let o := openAt base 11
    let b := bindLeg o 19
    let full := b.modPatch 11 fun x => { x with members := [0, 1, 2, 3, 4, 5, 6, 7] }
    let set := b.modPatch 11 fun x => { x with access := .set 0 }
    base.Ready h0 ∧ o.Ready h0 ∧ b.Ready h0 ∧ (base.patch 11).state ≠ .active ∧
      ((o.patch 11).state = .active ∧ (o.leg 19).binding = none) ∧
      ((b.patch 11).state = .active ∧ (b.leg 19).binding = some bound ∧ (b.leg 19).park.parked = false ∧
        (b.leg 19).membership = none) ∧
      ((b.modLeg 19 fun x => { x with park := { parked := true } }).leg 19).park.parked = true ∧
      ((b.modLeg 19 fun x => { x with membership := some 3 }).leg 19).membership.isSome = true ∧
      ((19 : LegId), 3) ∈ ((b.modPatch 11 fun x => { x with monitors := [(19, 3)] }).patch 11).monitors ∧
      8 ≤ (full.patch 11).members.length ∧
      ((1 : Byte).getLsbD 0 = true ∧ b.translate 1 2 none none = .refused .agencyInvalid) ∧
      (bound.generation = (set.agency 1).generation ∧ (set.patch 11).access.admits bound.authority = false) ∧
      ((b.patch 11).access.admits bound.authority = true ∧ ∀ e, ((noEntry b).entry e).state ≠ .free) := by
  decide +kernel

theorem test_hyps_JoinAdmitsTheLeg :
    let s := bindLeg (openAt listed 11) 19
    s.Ready h0 ∧ (12 : Byte).toNat = (11 : PatchId).val + 1 ∧ (s.patch 11).state = .active ∧
      (s.leg 19).binding = some bound ∧ (s.leg 19).park.parked = false ∧ (s.leg 19).membership = none ∧
      (s.patch 11).monitors = [] ∧ (s.patch 11).members.length < 8 ∧
      ((0 : Byte).getLsbD 0 || bound.generation != (s.agency bound.agency).generation) = false ∧
      (((1 : Byte).getLsbD 0 || bound.generation != (s.agency bound.agency).generation) = true ∧
        s.translate bound.agency bound.channel none none = .found (s.planEntry 4)) ∧
      (s.patch 11).access.admits bound.authority = true ∧ (s.entry 0).state = .free ∧
      ∀ f : EntryId, f < 0 → (s.entry f).state ≠ .free := by decide +kernel

/-- Leg 3 joins the patch of leg 2: with no claim on an IDLE and on a HELD floor, and with a claim on each. -/
theorem test_hyps_JoinHandsADestinationToTheFloor :
    let s := (bindLeg (member 2) 3)
    let held := holds s (.leg 2)
    let stands (x : State) := x.modLeg 3 fun y => { y with rx := { state := .active } }
    (s.Ready h0 ∧ (1 : Byte).toNat = (0 : PatchId).val + 1 ∧ (s.patch 0).state = .active ∧
        (s.leg 3).binding = some bound ∧ (s.leg 3).park.parked = false ∧ (s.leg 3).membership = none ∧
        (s.patch 0).monitors = [] ∧ (s.patch 0).members.length < 8 ∧
        ((0 : Byte).getLsbD 0 || bound.generation != (s.agency bound.agency).generation) = false ∧
        (s.patch 0).access.admits bound.authority = true ∧ (s.entry 1).state = .free ∧
        (∀ f : EntryId, f < 1 → (s.entry f).state ≠ .free)) ∧
      ((s.leg 3).rx.state = .idle ∧ (s.patch 0).floor.state = .idle ∧ (s.patch 0).floor.queue = []) ∧
      (held.Ready h0 ∧ (held.patch 0).floor.state = .held ∧ (held.patch 0).floor.owner ≠ some (.leg 3)) ∧
      ((stands s).Ready h0 ∧ ((stands s).leg 3).rx.state = .active) ∧
      ((stands held).Ready h0 ∧ ((stands held).leg 3).rx.state = .active) := by decide +kernel

/-- A JOIN with a standing claim on a HELD floor, whose margin of 3 it does not reach: queued, and then, as a destination
that is keyed, masked, with its claim gone again; its entry is to carry the owner. -/
theorem test_joinOnAHeldFloor :
    after (.join h0 1 3 0) ((holds (bindLeg (member 2) 3) (.leg 2)).modLeg 3 fun y =>
        { y with rx := { state := .active } }) (fun t =>
      (t.patch 0).floor.owner = some (.leg 2) && (t.leg 3).demand && (t.leg 3).rx.state = .idle &&
        (t.patch 0).floor.queue = [] && (t.entry 1).pendingSource = some (.leg 2)) = true := by decide +kernel

theorem test_hyps_LeaveTakesTheLegOut :
    ((member 2).Ready h0 ∧ ((member 2).leg 2).membership = some 0 ∧ (member 2).routes.frame = none) ∧
      FloorLaw (member 2) ∧ (base.Ready h0 ∧ (base.leg 19).membership = none) ∧
      (inFrame (member 2)).Ready h0 ∧ ((inFrame (member 2)).leg 2).membership = some 0 ∧
      (inFrame (member 2)).routes.frame.isSome = true ∧ (inFrame (member 2)).routes.purges = [] ∧
      (inFrame (member 2)).purged (.dest 0 2) ≠ [] :=
  ⟨by decide +kernel, test_floorLaw _ (.inl rfl), by decide +kernel⟩

theorem test_hyps_DisbandFreesTheRangeOrHalts :
    ((member 2).Ready h0 ∧ 1 ≤ (1 : Byte).toNat ∧ (1 : Byte).toNat + (12 : Byte).toNat ≤ 13 ∧
        (1 : Byte).getLsbD 0 = true ∧ (member 2).routes.frame = none ∧ (member 2).Paced 1) ∧ PatchLaw (member 2) ∧
      ((12 : Byte).toNat + (1 : Byte).toNat ≤ 13 ∧ ∀ p : PatchId, (base.patch p).state = .free) ∧
      let s := (member 2).modLeg 2 fun x => { x with emergency := some .aux }
      s.Ready h0 ∧ (0 : Byte).getLsbD 0 = false ∧ (1 : Byte).toNat ≤ (0 : PatchId).val + 1 ∧
        (∀ q : PatchId, q < 0 → (1 : Byte).toNat ≤ q.val + 1 → (s.patch q).state = .free) ∧
        (s.patch 0).state = .active ∧ ∃ l ∈ (s.patch 0).members, (s.leg l).emergency.isSome = true :=
  ⟨by decide +kernel, test_patchLaw _ (.inl rfl), by decide +kernel, by decide +kernel⟩

theorem test_hyps_MonitorStartsAdjustsAndStops :
    let o := openAt base 11
    let on := o.modPatch 11 fun x => { x with monitors := [(19, 3)] }
    let four := [0, 1, 2, 3].foldl (fun (s : State) (p : PatchId) => s.modPatch p fun x =>
      { x with monitors := [(19, 3)] }) o
    (base.Ready h0 ∧ 16 ≤ (19 : LegId).val ∧ (15 : Byte).toNat ≤ 15 ∧ (base.patch 11).state ≠ .active) ∧
      ((member 16).Ready h0 ∧ ((member 16).patch 0).state = .active ∧ ((member 16).leg 16).membership = some 0) ∧
      (o.Ready h0 ∧ (o.patch 11).state = .active ∧ (o.leg 19).membership ≠ some 11 ∧ (o.patch 11).monitors = [] ∧
        ((List.finRange 12).filter fun q => (o.patch q).monitors.any fun m => m.1 = 19).length < 4 ∧
        (o.entry 0).state = .free) ∧
      (on.Ready h0 ∧ ((19 : LegId), 3) ∈ (on.patch 11).monitors ∧ on.routes.frame = none) ∧
      4 ≤ ((List.finRange 12).filter fun q => (four.patch q).monitors.any fun m => m.1 = 19).length ∧
      ∀ e, ((noEntry o).entry e).state ≠ .free := by decide +kernel

/-- Console 19 on the monitor list of patch 12 with its MONITOR entry 39, between frames. -/
def monitored : State :=
  ((openAt base 11).modPatch 11 fun x => { x with monitors := [(19, 3)], chain := [39] }).modEntry 39 fun _ =>
    { state := .reserved, tag := some 11, kind := some .monitor, dest := some 19, gain := 3 }

theorem test_routeLaw_monitored : RouteLaw monitored := by
  constructor
  case disbanding => exact fun _ _ _ _ h => nomatch h
  all_goals decide +kernel

theorem test_hyps_MonitorStartsAdjustsAndStops_entry :
    monitored.Ready h0 ∧ ((19 : LegId), 3) ∈ (monitored.patch 11).monitors ∧
      monitored.feeding 11 .monitor 19 = [39] ∧
      answers (.monitorOn h0 19 12 7) monitored [0x00, 39] = true := by decide +kernel

theorem test_hyps_ClaimOnAFreeFloorIsGranted :
    ((member 2).patch 0).floor.state ≠ .held ∧ ((member 2).patch 0).floor.queue = [] := by decide +kernel

theorem test_hyps_GrantMovesTheFloor : ((member 2).patch 0).members.Nodup := by decide +kernel

/-- A grant to CLIP keeps the claims of a console and of a duplex radio, and takes that of a half-duplex one it masks. -/
theorem test_grantMasks :
    let active (s : State) (l : LegId) (duplex : Bool) := s.modLeg l fun x =>
      { x with
        binding := some { bound with duplex := duplex }, membership := some 0, rx := { state := .active } }
    let s := (active (active (active (member 2) 2 false) 3 true) 16 false).modPatch 0 fun x =>
      { x with
        members := [2, 3, 16]
        floor := { x.floor with queue := [claim (.leg 2) 7 0, claim (.leg 3) 6 1, claim .clip 5 2, claim (.leg 16) 5 3] } }
    ((s.grant 0 .clip false ⟨0, 2⟩).patch 0).floor.queue = [claim (.leg 3) 6 1, claim (.leg 16) 5 3] := by decide +kernel

theorem test_hyps_ClaimOnAHeldFloorIsJudged :
    let s := holds (bindLeg (member 2) 3) (.leg 2)
    let e := s.modLeg 3 fun x => { x with emergency := some .aux }
    (s.patch 0).floor.state = .held ∧ (s.patch 0).floor.owner = some (.leg 2) ∧ Party.leg 3 ≠ .leg 2 ∧
      (e.leg 3).emergency.isSome = true ∧ (s.leg 2).emergency = none ∧ (s.patch 0).floor.seized = false ∧
      (s.patch 0).margin = 3 := by decide +kernel

theorem test_hyps_QueueKeepsItsOrder :
    [claim (.leg 1) 7 4, claim (.leg 3) 5 1, claim .clip 5 2].Pairwise (fun a b => b.ahead a = false) := by decide

theorem test_hyps_WithdrawalsAreTakenByPlace :
    let s := holds (member 2) (.leg 2)
    let z := s.modFloor 0 fun f => { f with seized := true }
    let q := s.modFloor 0 fun f => { f with queue := [claim .clip 5 0] }
    (s.patch 0).floor.owner = some (.leg 2) ∧ (s.patch 0).floor.seized = false ∧ (s.patch 0).floor.queue = [] ∧
      (s.patch 0).hang ≠ 0 ∧ (z.patch 0).floor.seized = true ∧ (q.patch 0).floor.queue = [claim .clip 5 0] ∧
      ((s.modPatch 0 fun x => { x with hang := 0 }).patch 0).hang = 0 ∧ (s.patch 0).floor.owner ≠ some .clip := by
  decide +kernel

/-- CLIP waits in the queue, owning no floor, and a leg's claim is queued: the context and the ring stay. CLIP plays as
the owner and is displaced: it loses the floor. -/
theorem test_hyps_FloorWork :
    let s := holds (playing (slotted (bindLeg (member 2) 3) 0 storedSlot) .waiting .take) (.leg 2)
    let t := s.claimArrives 0 (.leg 3)
    let c := holds (playing (slotted (member 2) 0 storedSlot) .playing .take) .clip
    (∀ p, ((t.patch p).floor.owner = some .clip ↔ (s.patch p).floor.owner = some .clip)) ∧
      s.context.phase = .waiting ∧ (∀ p, (s.patch p).floor.owner ≠ some .clip) ∧
      (c.patch 0).floor.owner = some .clip ∧ ((c.pass 0).patch 0).floor.owner = none := by decide +kernel

theorem test_hyps_TalkPressesAndReleases :
    let s := member 16
    let p := s.modLeg 16 fun x => { x with talk := true }
    let b := p.modLeg 16 fun x => { x with rx := { state := .barred } }
    (base.Ready h0 ∧ 16 ≤ (19 : LegId).val ∧ (base.leg 19).membership = none) ∧
      (s.Ready h0 ∧ (s.leg 16).membership = some 0 ∧ (s.leg 16).talk = false ∧ (s.leg 16).rx.state = .idle) ∧
      (p.Ready h0 ∧ (p.leg 16).talk = true ∧ (p.leg 16).rx.state = .idle) ∧
      (b.Ready h0 ∧ (b.leg 16).rx.state = .barred ∧ (b.leg 16).rx.barDropDone = false) := by decide +kernel

theorem test_hyps_SeizeTakesTheFloor :
    let s := holds (member 2) (.leg 2)
    let z := s.modFloor 0 fun f => { f with seized := true }
    let a := z.modLeg 2 fun x => { x with rx := { state := .active } }
    (base.Ready h0 ∧ (base.patch 11).state ≠ .active) ∧
      ((member 2).Ready h0 ∧ ((member 2).patch 0).state = .active ∧ ((member 2).leg 3).membership ≠ some 0 ∧
        ((member 2).leg 2).membership = some 0 ∧ ((member 2).patch 0).floor.owner ≠ some (.leg 2)) ∧
      (s.Ready h0 ∧ (s.patch 0).floor.owner = some (.leg 2) ∧ (s.patch 0).floor.seized = false) ∧
      (z.Ready h0 ∧ (z.patch 0).floor.seized = true ∧ (z.leg 2).stands 2 = false ∧ (a.leg 2).stands 2 = true) := by
  decide +kernel

theorem test_hyps_FloorTimersExpire :
    let s := holds (member 2) (.leg 2)
    let t := s.modFloor 0 fun f => { f with talkTimer := some 0 }
    let h := (member 2).modFloor 0 fun _ => { state := .hang, hangTimer := some 0 }
    (h.Settled ∧ (h.patch 0).floor.state = .hang ∧ (h.patch 0).floor.hangTimer = some 0) ∧
      ((h.patch 0).members.Nodup ∧ (h.patch 0).floor.queue = []) ∧
      (t.Settled ∧ (t.patch 0).floor.state = .held ∧ (t.patch 0).floor.owner = some (.leg 2) ∧
        (t.patch 0).floor.talkTimer = some 0 ∧ (t.leg 2).park.parked = false ∧ (t.leg 2).masked 2 = false) := by
  decide +kernel

theorem test_hyps_DeclareSetsAndClearsTheFlag :
    base.Ready h0 ∧ (base.leg 19).emergency = none ∧
      let s := base.modLeg 19 fun x => { x with emergency := some .aux }
      s.Ready h0 ∧ (s.leg 19).emergency = some .aux := by decide +kernel

theorem test_hyps_EmergencyChangeReplacesAQueuedClaim :
    let s := (holds (member 2) (.leg 3)).modFloor 0 fun f => { f with queue := [claim (.leg 2) 5 0] }
    let e := s.modLeg 2 fun x => { x with emergency := some .aux }
    let b := e.modLeg 3 fun x => { x with emergency := some .declare }
    (base.leg 19).membership = none ∧ ((member 2).leg 2).membership = some 0 ∧ ((member 2).patch 0).floor.queue = [] ∧
      claim (.leg 2) 5 0 ∈ (s.patch 0).floor.queue ∧ ((s.patch 0).floor.queue.map Claim.party).Nodup ∧
      (s.patch 0).floor.owner = some (.leg 3) ∧ (s.leg 2).emergency = none ∧
      ((e.leg 2).emergency.isSome = true ∧ (e.leg 3).emergency = none) ∧
      ((b.leg 3).emergency.isSome = true ∧ (b.patch 0).margin ≠ 0) := by decide +kernel

theorem test_hyps_FrameStartTakesTheActiveEntries :
    base.Settled ∧ base.routes.frame = none ∧ base.walk.due = false ∧
      ∀ l : LegId, l.val < 16 → (base.leg l).config.inputMode = .line := by decide +kernel

/-- One leg that listens to its level; and with it, in each mode, a playback whose last block this frame supplies. -/
theorem test_hyps_FrameStartTakesTheActiveEntries_vox :
    let vox (s : State) := s.modLeg 15 fun x => { x with config := { x.config with inputMode := .vox } }
    let s := vox base
    let last (m : PlayMode) := (playing (slotted (vox (member 2)) 0 storedSlot) .playing m).modContext fun c =>
      { c with position := 12 }
    let laid := ((last .overlay).modEntry 1 fun _ =>
      { state := .reserved, tag := some 0, kind := some .overlay, dest := some 2 }).modPatch 0 fun x =>
        { x with chain := [0, 1] }
    (s.Settled ∧ s.routes.frame = none ∧ s.walk.due = false ∧ (15 : LegId).val < 16 ∧
        (s.leg 15).config.inputMode ≠ .line ∧
        (∀ l : LegId, l ≠ 15 → l.val < 16 → (s.leg l).config.inputMode = .line) ∧ (s.leg 15).park.parked = false ∧
        (s.leg 15).masked 15 = false ∧ (s.leg 15).config.rise ≠ 0 ∧ (s.leg 15).config.drop ≠ 0 ∧
        s.supplyClip.2.context.endDue = none) ∧
      ((last .take).Settled ∧ (last .take).routes.frame = none ∧ (last .take).context.mode = .take ∧
        (last .take).context.patch = some 0 ∧ (last .take).supplyClip.2.context.endDue = some .complete) ∧
      (laid.Settled ∧ laid.context.mode = .overlay ∧ laid.supplyClip.2.context.endDue = some .complete ∧
        (∃ e ∈ (laid.patch 0).chain, (laid.entry e).live = true ∧ (laid.entry e).tag = some 0 ∧
          (laid.entry e).kind = some .overlay) ∧
        ∀ q, (laid.patch q).floor.owner ≠ some .clip ∧ ∀ c ∈ (laid.patch q).floor.queue, c.party ≠ .clip) := by
  decide +kernel

/-- A VOX level above its threshold starts the rise; a clip whose last block the same frame supplies has ended first. -/
theorem test_vox :
    after (.frameStart (Vector.replicate 20 (Vector.replicate 8 0x7FFF)) [])
      (((playing (slotted base 0 storedSlot) .playing .take).modContext fun c => { c with position := 12 }).modLeg 3
        fun x => { x with config := { x.config with inputMode := .vox } })
      (fun t => (t.leg 3).rx.state = .rising && (t.leg 3).rx.riseTimer = some 40 && t.context = {} &&
        t.link.notices.map Notice.detail = [.clip 0 .complete 8]) = true := by decide +kernel

/-- Two legs that listen to their level, the second named first and with a rise qualify of 0: it claims at once. -/
theorem test_hyps_FrameStartTakesTheActiveEntries_order :
    let vox (s : State) (l : LegId) (rise : Nat) := s.modLeg l fun x =>
      { x with config := { x.config with inputMode := .vox, rise := rise } }
    let s := vox (vox (member 5) 5 0) 3 40
    (s.Settled ∧ s.routes.frame = none ∧ s.walk.due = false ∧ s.supplyClip.2.context.endDue = none) ∧
      after (.frameStart (Vector.replicate 20 (Vector.replicate 8 0x7FFF)) [5]) s (fun t =>
        (t.leg 3).rx.state = .rising && (t.leg 5).rx.state = .active &&
          (t.patch 0).floor.owner = some (.leg 5)) = true := by decide +kernel

/-- The confirm window loses a millisecond at the tick (R17, log 3). -/
theorem test_confirmWindow :
    after (.frameStart (Vector.replicate 20 silence) [])
      (base.modLeg 15 fun x => { x with tx := { x.tx with state := .on, confirm := .window 250 } })
      (fun t => (t.leg 15).tx.confirm = .window 249) = true := by decide +kernel

theorem test_hyps_FrameDoneHandsOutTheFrames :
    (inFrame base).Settled ∧ (inFrame base).routes.frame = some [] ∧ (inFrame base).routes.purges = [] ∧
      let s := (inFrame (member 2)).purge (.dest 0 2) .leave
      s.1.Settled ∧ s.1.routes.frame = some [] ∧ s.1.routes.purges = [⟨.leave, [0]⟩] := by
  decide +kernel

theorem test_hyps_MixingIsExact :
    let loud (g : Nat) (v : Sample) : Taken := ⟨.clip, 0, g, Vector.replicate 8 v⟩
    let sum (xs : List Taken) : Int := (xs.map fun t => attenuate t.gain (t.block.get 0).toInt).sum
    sum [loud 0 32767] = 32767 ∧ sum [loud 0 32767, loud 0 1] = 32768 ∧ sum [loud 0 0x8000] = -32768 ∧
      sum [loud 0 0x8000, loud 0 0xFFFF] = -32769 := by decide +kernel

theorem test_hyps_LoadWritesTheSlots :
    let r := slotted base 7 storedSlot
    let x := slotted base 7 streamSlot
    (base.Ready h0 ∧ (7 : Byte).toNat = (7 : SlotId).val ∧ (base.slot 7).state = .empty) ∧
      (r.Ready h0 ∧ (r.slot 7).state = .ready ∧ (r.slot 7).length < 1 + 20 ∧ 0 + 20 ≤ (r.slot 7).length ∧
        (r.slot 7).length ≤ 512 * (r.slot 7).blocks.length ∧ (r.slot 7).blocks.Nodup ∧ r.clips.memory.wf) ∧
      (x.Ready h0 ∧ (x.slot 7).state = .stream) ∧
      ((playing r .playing .take).Ready h0 ∧ ((playing r .playing .take).slot 0).state = .playing) ∧
      ((131072 + 511) / 512 = 256 ∧
        ((List.finRange 256).filter fun b : BlockId => decide (∀ m : SlotId, m ≠ 0 → b ∉ (r.slot m).blocks)).length <
          256 ∧
        256 ≤ ((List.finRange 256).filter fun b : BlockId =>
          decide (∀ m : SlotId, m ≠ 7 → b ∉ (r.slot m).blocks)).length) := by decide +kernel

theorem test_hyps_StreamFillsTheRing :
    let x := slotted base 7 streamSlot
    let late := { x with clips := { x.clips with accepted := 19 } }
    let full := { x with clips := { x.clips with ring := List.replicate 1024 0 } }
    base.Ready h0 ∧ ((base.slot 7).state = .empty ∧ ∀ m, (base.slot m).mode ≠ some .stream) ∧ x.Ready h0 ∧
      (x.slot 7).state ≠ .empty ∧ (x.slot 7).mode = some .stream ∧
      (late.Ready h0 ∧ (late.slot 7).length < late.clips.accepted + 2 ∧
        late.clips.accepted + 1 ≤ (late.slot 7).length) ∧
      (full.Ready h0 ∧ full.clips.accepted + 1 ≤ (full.slot 7).length ∧ 1024 - full.clips.ring.length < 1) ∧
      (base.slot 7).mode ≠ some .stream := by decide +kernel

theorem test_hyps_PlayStartsByItsMode :
    let r := slotted (member 2) 7 storedSlot
    let x := slotted (member 2) 7 streamSlot
    (r.Ready h0 ∧ (7 : Byte).toNat = (7 : SlotId).val ∧ (1 : Byte).toNat = (0 : PatchId).val + 1 ∧
        (14 : Byte).toNat ≤ 14 ∧ r.context.phase = .none ∧ (r.slot 7).state = .ready ∧
        (r.patch 0).state = .active ∧ (r.patch 0).floor.state ≠ .held ∧ (r.patch 0).floor.queue = []) ∧
      (x.Ready h0 ∧ (x.slot 7).state = .stream ∧ (2 : Byte) ≠ 1) ∧
      ((playing r .playing .take).Ready h0 ∧ (playing r .playing .take).context.phase ≠ .none) ∧
      ((base.slot 7).state ≠ .ready ∧ (base.slot 7).state ≠ .stream) ∧
      (slotted base 7 storedSlot).Ready h0 ∧ ((slotted base 7 storedSlot).patch 0).state ≠ .active ∧
      ((List.finRange 40).filter fun e => ((noEntry r).entry e).state = .free).length <
        ((r.patch 0).members ++ (r.patch 0).monitors.map fun m => m.1).length ∧
      ((r.patch 0).members ++ (r.patch 0).monitors.map fun m => m.1).length ≤
        ((List.finRange 40).filter fun e => (r.entry e).state = .free).length ∧
      let h := (holds r (.leg 2)).modPatch 0 fun x => { x with margin := 0 }
      h.Ready h0 ∧ (h.patch 0).floor.state = .held ∧ (h.patch 0).floor.owner = some (.leg 2) ∧
        (h.patch 0).margin = 0 := by decide +kernel

theorem test_hyps_ClipPlayerSuppliesItsBlock :
    let p := (playing (slotted base 0 storedSlot) .playing .overlay)
    let e := p.modContext fun c => { c with position := 12 }
    let x := (playing (slotted base 0 streamSlot) .playing .overlay)
    let t := (playing (slotted base 0 streamSlot) .tone .overlay).modContext fun c => { c with tone := 1592 }
    (p.context.mode = .overlay ∧ p.context.endDue = none ∧ p.context.phase = .playing ∧
        (p.slot 0).mode = some .stored ∧ p.context.position + 8 < (p.slot 0).length) ∧
      (e.context.position + 8 = (e.slot 0).length ∧ e.context.repeats = 1) ∧
      ((x.slot 0).mode = some .stream ∧ x.clips.ring.length < 8 ∧ x.context.tone = 0 ∧ x.context.phase = .playing) ∧
      (t.context.phase = .tone ∧ t.context.tone + 8 = 1600) ∧
      (playing base .waiting .overlay).context.phase = .waiting := by decide +kernel

theorem test_hyps_PlaybacksEnd :
    let w := playing (slotted (member 2) 0 storedSlot) .waiting .take
    let p := holds (playing (slotted (member 2) 0 storedSlot) .playing .take) .clip
    let o := (playing (slotted (member 2) 0 storedSlot) .playing .overlay).modEntry 1 fun _ =>
      { state := .reserved, tag := some 0, kind := some .overlay, dest := some 2 }
    let d := p.modContext fun c => { c with endDue := some .complete }
    let u := o.modContext fun c => { c with endDue := some .underrun }
    (base.Ready h0 ∧ base.context.phase = .none) ∧
      (w.Ready h0 ∧ w.context.patch = some 0 ∧ w.context.phase = .waiting ∧ (w.patch 0).floor.owner ≠ some .clip ∧
        w.context.mode = .take) ∧
      (p.Ready h0 ∧ p.context.phase = .playing ∧ (p.patch 0).floor.owner = some .clip) ∧
      (o.Ready h0 ∧ o.context.mode = .overlay ∧ o.routes.frame = none) ∧
      ((inFrame o).Ready h0 ∧ (inFrame o).routes.frame.isSome = true ∧ ((inFrame o).entry 1).live = true ∧
        ((inFrame o).entry 1).tag = some 0 ∧ ((inFrame o).entry 1).kind = some .overlay) ∧
      (d.resetIsDue = false ∧ d.context.endDue = some .complete) ∧
      (u.resetIsDue = false ∧ u.work ≠ some .halt ∧ u.context.endDue = some .underrun ∧ u.routes.frame = none) ∧
      ((inFrame u).resetIsDue = false ∧ (inFrame u).context.endDue = some .underrun ∧
        (inFrame u).routes.frame.isSome = true) := by
  decide +kernel

/-- An overlay playback in ENDING with its purge outstanding: it takes a HALT, and the frame done ends it, with a HALT
waiting and without one. -/
theorem test_hyps_PlaybacksEnd_ending :
    let o := (playing (slotted (member 2) 0 storedSlot) .playing .overlay).modEntry 1 fun _ =>
      { state := .reserved, tag := some 0, kind := some .overlay, dest := some 2 }
    let e := (inFrame o).endOverlay .complete
    (e.Ready h0 ∧ e.context.patch = some 0 ∧ e.context.phase = .ending ∧ e.context.mode = .overlay ∧
        e.context.reason = some .complete ∧ e.routes.purges = [⟨.overlayEnd, [1]⟩] ∧
        e.routes.frame.isSome = true ∧ e.work ≠ some .halt) ∧
      (busy e h0 .halt .halt).Settled ∧
      after (.halt h0) e (fun t => t.replies = [] && after (.frameDone none) t fun u =>
        u.context = {} && u.replies.map Reply.body = [[0, 1, 0, 0, 0, 0]] && (u.slot 0).state = .ready) = true := by
  decide +kernel

/-- The end of a stream clip empties the ring and sets the accepted count to 0 (R146). -/
theorem test_streamEnds :
    let s := holds (playing (slotted (member 2) 0 streamSlot) .playing .take) .clip
    let x := { s with clips := { s.clips with ring := [1, 2, 3], accepted := 3 } }
    x.context.patch = some 0 ∧ (x.slot x.context.slot).mode = some .stream ∧
      after (.halt h0) x (fun t => t.clips.ring = [] && t.clips.accepted = 0 && (t.slot 0).state = .stream) = true := by
  decide +kernel

theorem test_hyps_LawsAreKept :
    (∃ t, step { member 2 with pending := [.clipq h0] } = .next t) ∧ PatchLaw (member 2) ∧
      FloorLaw (holds (member 2) (.leg 2)) ∧ RouteLaw (member 2) ∧ PlaybackLaw (slotted base 7 streamSlot) :=
  ⟨⟨_, rfl⟩, test_patchLaw _ (.inl rfl), test_floorLaw _ (.inr rfl), test_routeLaw, test_playbackLaw _ (.inl rfl)⟩

theorem test_hyps_BoundsAreKept :
    BufferLaw (member 2) ∧ ReplyLaw crowded ∧ BlockLaw (slotted base 0 storedSlot) :=
  ⟨⟨by decide, by decide, by decide +kernel⟩, ⟨by decide, fun _ h => (by cases h)⟩,
    ⟨by decide +kernel, by decide +kernel, by decide +kernel⟩⟩

theorem test_hyps_BoundsAreKept_priorities : PriorityLaw (member 2) := by
  refine ⟨by decide +kernel, ?_, by decide⟩
  intro l b h
  have all : ∀ l, ((member 2).leg l).binding.all (fun b =>
      decide (b.ceiling ≤ 14 ∧ b.priority ≤ b.ceiling ∧ b.defaultPriority ≤ b.ceiling)) = true := by decide +kernel
  have := all l
  rw [h] at this
  simpa using this

/-! ## The clauses that wait, and those at the ends of a range -/

theorem test_hyps_StatusAndFetchAreServed_range :
    ¬ (1 ≤ (0 : Byte).toNat ∧ (0 : Byte).toNat ≤ 8) ∧ ¬ (1 ≤ (9 : Byte).toNat ∧ (9 : Byte).toNat ≤ 8) := by decide

theorem test_hyps_DropQualifiesIntoAWithdrawal_atOnce :
    let s := (holds (member 2) (.leg 2)).modLeg 2 fun x =>
      { x with rx := { state := .active }, config := { x.config with drop := 0 },
               inputs := { x.inputs with carrierHigh := true } }
    s.Settled ∧ (s.leg 2).park.parked = false ∧ (s.leg 2).masked 2 = false ∧ (s.leg 2).rx.state = .active ∧
      (s.leg 2).config.drop = 0 ∧
      ({ s.leg 2 with inputs := { (s.leg 2).inputs with carrierHigh := false } } : Leg).condition 2 = false := by
  decide +kernel

theorem test_hyps_Ranges :
    ¬ ArgumentsInRange (.agency h0 ⟨32, 1, #v[0x20, 0x7E, 0x41, 0x41], 192, 64⟩) ∧
      ¬ ArgumentsInRange (.access h0 13 ⟨1, 0⟩) ∧ 19 < (20 : Byte).toNat ∧
      ¬ ArgumentsInRange (.loadDefine h0 0 0 0) ∧ ¬ ArgumentsInRange (.loadWrite h0 8 0 [0]) ∧
      ¬ ArgumentsInRange (.loadRelease h0 8) ∧ ¬ ArgumentsInRange (.streamDefine h0 0 0 0) ∧
      ¬ ArgumentsInRange (.streamData h0 0 []) := by
  unfold ArgumentsInRange inText inPatches
  dsimp only
  decide +kernel

theorem test_hyps_PatchLaw_inFrame : PatchLaw (inFrame (member 2)) := by
  constructor <;>
    first | decide +kernel | (intros; contradiction)

/-- Patch 1 with leg 2, and patch 2 open with no member. -/
def twoPatches : State := openAt (member 2) 1

theorem test_patchLaw_twoPatches (s : State)
    (hs : s = inFrame twoPatches ∨ s = (openAt (member 2) 1).modPatch 1 fun x => { x with members := [] }) :
    PatchLaw s := by
  rcases hs with rfl | rfl <;> constructor <;>
    first | decide +kernel | (intros; contradiction)

/-- A DISBAND of patches 1 and 2 in a frame, with and without the tick before the second; its next tick goes on with it. -/
theorem test_hyps_DisbandFreesTheRangeOrHalts_waits :
    let s := inFrame twoPatches
    (s.Ready h0 ∧ s.routes.frame.isSome = true ∧ s.context.phase = .none ∧ s.routes.purges = [] ∧
        (1 : Byte).toNat + (12 : Byte).toNat ≤ 13 ∧
        (∀ q : PatchId, (s.patch q).state = .active → ∀ l ∈ (s.patch q).members, (s.leg l).emergency = none) ∧
        (s.patch 0).state = .active ∧ (s.patch 1).state = .active ∧ s.purged (.tag 0) ≠ []) ∧
      after (.disband h0 1 12 0) s (fun t => after (.frameDone (some 0)) t fun u =>
        u.walk.due && (u.patch 0).state = .free && (u.patch 1).state = .active &&
          after (.frameStart (Vector.replicate 20 silence) []) u fun v => (v.patch 1).state = .free) = true := by
  decide +kernel

/-- Between frames, with one further purge before the next tick. -/
def tickAfterOne (s : State) : State := { s with walk := { s.walk with beforeTick := some 1 } }

theorem test_patchLaw_threePatches : PatchLaw (tickAfterOne (openAt twoPatches 2)) := by
  constructor <;>
    first | decide +kernel | (intros; contradiction)

/-- A DISBAND of patches 1 to 3 between frames, with the next tick before the third. -/
theorem test_hyps_DisbandFreesTheRangeOrHalts_tickInside :
    let s := tickAfterOne (openAt twoPatches 2)
    (s.Ready h0 ∧ (1 : Byte).toNat + (12 : Byte).toNat ≤ 13 ∧ s.routes.frame = none ∧ s.walk.beforeTick = some 1 ∧
        (∀ q : PatchId, (s.patch q).state = .active → ∀ l ∈ (s.patch q).members, (s.leg l).emergency = none) ∧
        1 + 1 < ((List.finRange 12).filter fun q => (s.patch q).state = .active).length ∧ ¬ s.Paced 3 ∧ s.Paced 2) ∧
      after (.disband h0 1 12 0) s (fun t =>
        t.walk.due && t.replies = [] && (t.patch 1).state = .free && (t.patch 2).state = .active &&
          after (.frameStart (Vector.replicate 20 silence) []) t fun u =>
            (u.patch 2).state = .free && u.replies.map Reply.body = [[0, 12, 0]]) = true := by
  decide +kernel

/-- A REVOKE of three members between frames, with the next tick before the third. -/
theorem test_hyps_RevokeUnbindsEveryLegOfTheAgency_tickInside :
    let joins (s : State) (l : LegId) := (bindLeg s l).modLeg l fun x => { x with membership := some 0 }
    let s := tickAfterOne ((joins (joins (member 2) 3) 16).modPatch 0 fun x => { x with members := [2, 3, 16] })
    (s.Ready h0 ∧ s.routes.frame = none ∧ s.walk.beforeTick = some 1 ∧
        ((List.finRange 20).filter fun l =>
          ((s.leg l).binding.any fun b => b.agency = 1) && (s.leg l).membership.isSome) = [2, 3, 16]) ∧
      after (.revoke h0 1) s (fun t =>
        t.walk.due && t.replies = [] && (t.leg 3).binding = none && (t.leg 16).membership = some 0 &&
          after (.frameStart (Vector.replicate 20 silence) []) t fun u =>
            (u.leg 16).membership = none && u.replies.map Reply.body = [[0, 3]]) = true := by
  decide +kernel

/-- A DISBAND without FORCE that halts at patch 1's emergency after it has torn down none, and one of patches 2 to 12 that
halts at patch 3 after patch 2 is torn down. -/
theorem test_hyps_DisbandFreesTheRangeOrHalts_halts :
    let s := ((openAt (openAt (bindLeg base 5) 1) 2).modLeg 5 fun x =>
      { x with membership := some 2, emergency := some .aux }).modPatch 2 fun x => { x with members := [5] }
    (s.Ready h0 ∧ (0 : Byte).getLsbD 0 = false ∧ s.routes.frame = none ∧ s.Paced 1 ∧
        (2 : Byte).toNat ≤ (2 : PatchId).val + 1 ∧
        (s.patch 1).state = .active ∧ (s.patch 1).members = [] ∧ (s.patch 2).state = .active ∧
        ∃ l ∈ (s.patch 2).members, (s.leg l).emergency.isSome = true) ∧
      after (.disband h0 2 11 0) s (fun t =>
        t.replies.map Reply.body = [[1, 1, 3]] && (t.patch 1).state = .free && (t.patch 2).state = .active) = true := by
  decide +kernel

/-- Of ResetPatchesFreesEveryActivePatch, DisbandFreesTheRangeOrHalts and RevokeUnbindsEveryLegOfTheAgency. -/
theorem test_hyps_TeardownsWait :
    let s := inFrame (bindLeg (member 2) 1)
    s.Ready h0 ∧ s.routes.purges = [] ∧ s.routes.frame.isSome = true ∧ s.context.phase = .none ∧ (s.patch 0).state = .active ∧
      s.purged (.tag 0) ≠ [] ∧ s.purged (.dest 0 2) ≠ [] ∧ (s.leg 2).membership = some 0 ∧
      ((s.leg 2).binding.any fun b => b.agency = 1) = true ∧
      (∀ m : LegId, m < 2 → (s.leg m).membership = none) ∧ ((s.leg 1).binding.any fun b => b.agency = 1) = true := by
  decide +kernel

theorem test_hyps_MonitorStops_waits :
    let s := (inFrame ((openAt base 11).modPatch 11 fun x => { x with monitors := [(19, 3)], chain := [0] })).modEntry 0
      fun _ => { state := .reserved, tag := some 11, kind := some .monitor, dest := some 19, gain := 3 }
    s.Ready h0 ∧ ((19 : LegId), 3) ∈ (s.patch 11).monitors ∧ s.routes.frame.isSome = true ∧
      s.purged (.monitor 11 19) ≠ [] ∧ s.routes.purges = [] := by decide +kernel

/-- A leg displaced whose claim stands, with floor notices on, and CLIP displaced, by an emergency and by a SEIZE. -/
theorem test_hyps_Displaced :
    let s := (holds (bindLeg (member 2) 3) (.leg 2)).modPatch 0 fun x => { x with floorNotices := true }
    let e := (s.modLeg 3 fun x => { x with emergency := some .aux, membership := some 0 }).modLeg 2 fun x =>
      { x with rx := { state := .active } }
    let c := holds (playing (slotted e 0 storedSlot) .playing .take) .clip
    ((e.patch 0).floor.state = .held ∧ (e.patch 0).floor.owner = some (.leg 2) ∧ (e.leg 2).stands 2 = true ∧
        (e.leg 3).emergency.isSome = true ∧ (e.patch 0).floorNotices = true) ∧
      ((c.patch 0).floor.owner = some .clip ∧ c.context.phase = .playing) ∧
      (e.Ready h0 ∧ c.Ready h0 ∧ (e.leg 3).membership = some 0 ∧ (e.patch 0).floor.owner ≠ some (.leg 3) ∧
        (c.patch 0).floor.owner ≠ some (.leg 3)) := by decide +kernel

/-- The displaced duplex leg is back in the queue with the preempted marker, and the notices are PREEMPTED and GRANTED. -/
theorem test_preempted :
    let s := (holds (bindLeg (member 2) 3) (.leg 2)).modPatch 0 fun x => { x with floorNotices := true }
    let t := ((s.modLeg 3 fun x => { x with emergency := some .aux, membership := some 0 }).modLeg 2 fun x =>
      { x with rx := { state := .active }, binding := some { bound with duplex := true } }).claimArrives 0 (.leg 3)
    (t.patch 0).floor.owner = some (.leg 3) ∧
      (t.patch 0).floor.queue.map (fun c => (c.party, c.priority, c.marker.isSome)) = [(.leg 2, 5, true)] ∧
      t.link.notices.map Notice.detail = [.floor .preempted false, .floor .granted false] := by decide +kernel

theorem test_hyps_LeaveTakesTheLegOut_purgesNothing :
    let s := (inFrame (member 2)).modEntry 0 fun _ => {}
    s.Ready h0 ∧ (s.leg 2).membership = some 0 ∧ s.purged (.dest 0 2) = [] := by decide +kernel

theorem test_hyps_ClaimOnAHeldFloorIsJudged_own :
    let s := holds (member 2) (.leg 2)
    (s.patch 0).floor.state = .held ∧ (s.patch 0).floor.owner = some (.leg 2) := by decide +kernel

theorem test_hyps_TalkReleases_endsTheBar :
    let s := (member 16).modLeg 16 fun x => { x with talk := true, rx := { state := .barred, barDropDone := true } }
    s.Ready h0 ∧ (s.leg 16).membership = some 0 ∧ (s.leg 16).talk = true ∧ (s.leg 16).rx.state = .barred ∧
      (s.leg 16).rx.barDropDone = true := by decide +kernel

theorem test_hyps_EmergencyChangeReplacesAQueuedClaim_clip :
    let s := (holds (member 2) .clip).modFloor 0 fun f => { f with queue := [claim (.leg 2) 5 0] }
    let e := s.modLeg 2 fun x => { x with emergency := some .aux }
    claim (.leg 2) 5 0 ∈ (e.patch 0).floor.queue ∧ ((e.patch 0).floor.queue.map Claim.party).Nodup ∧
      (e.patch 0).floor.owner = some .clip ∧ (e.leg 2).emergency.isSome = true := by decide +kernel

theorem test_hyps_ClipPlayerSuppliesItsBlock_passes :
    let p := (playing (slotted base 0 storedSlot) .playing .take).modContext fun c => { c with position := 16 }
    let repeating (n : Nat) := p.modContext fun c => { c with repeats := n }
    (p.context.mode = .take ∧ p.context.endDue = none ∧ p.context.phase = .playing ∧
        (p.slot 0).mode = some .stored ∧ p.context.position < (p.slot 0).length ∧
        (p.slot 0).length ≤ p.context.position + 8 ∧ p.context.repeats = 1) ∧
      (repeating 0).context.repeats = 0 ∧ (2 ≤ (repeating 2).context.repeats ∧ 8 ≤ ((repeating 2).slot 0).length) ∧
      (let x := { playing (slotted base 0 streamSlot) .playing .take with
          clips := { (playing (slotted base 0 streamSlot) .playing .take).clips with ring := List.replicate 8 5 } }
       min 8 ((x.slot 0).length - x.context.played.toNat) ≤ x.clips.ring.length) ∧
      let t := (playing (slotted base 0 streamSlot) .tone .take).modContext fun c => { c with tone := 1596 }
      t.context.phase = .tone ∧ t.context.tone ≤ 1600 ∧ 1600 ≤ t.context.tone + 8 := by decide +kernel

theorem test_hyps_KeyingEnds_noLockout :
    let s := base.modLeg 15 fun x => { x with tx := { x.tx with state := .on, timeLimit := 1, keyed := some 1000 } }
    s.Settled ∧ (s.leg (radioLeg 15)).tx.state.keyAsserted = true ∧ (s.leg (radioLeg 15)).tx.timeLimit ≠ 0 ∧
      (s.leg (radioLeg 15)).tx.keyed = some (1000 * (s.leg (radioLeg 15)).tx.timeLimit) ∧
      (s.leg (radioLeg 15)).tx.lockout = 0 := by decide +kernel

end Sys2Proof.Tests
end

/-! SUPPORT. The legs after a reset of the whole part (R28), and what of a leg record the floor's work before a reset
leaves as it was. -/

namespace Sys2Proof.Machine

variable {s : State}

/-! ## The fixed part of a leg record

`Leg.fixed` is all of a record but the two machines, the key demand and the event flags. -/

theorem inputs_eq_of_fixed {x y : Leg} (h : x.fixed = y.fixed) : x.inputs = y.inputs :=
  show x.fixed.inputs = y.fixed.inputs from congrArg _ h

/-- An update that keeps the fixed part of the record it writes keeps that of every leg. -/
theorem modLeg_fixed (l m : LegId) {f : Leg → Leg} (hf : ∀ x, (f x).fixed = x.fixed) :
    ((s.modLeg l f).leg m).fixed = (s.leg m).fixed := by
  by_cases h : m = l
  · subst h
    rw [leg_modLeg_same, hf]
  · rw [leg_modLeg_ne _ _ h]

@[simp] theorem follow_fixed (present : Bool) (x : Leg) : (x.follow present).fixed = x.fixed := by
  unfold Leg.follow
  split
  case h_6 => split <;> rfl
  all_goals rfl

@[simp] theorem flagFell_fixed (l m : LegId) : ((s.flagFell l).leg m).fixed = (s.leg m).fixed :=
  modLeg_fixed l m fun _ => rfl

@[simp] theorem evaluate_fixed (l m : LegId) : ((s.evaluate l).leg m).fixed = (s.leg m).fixed := by
  unfold State.evaluate
  split
  · exact modLeg_fixed l m fun x => follow_fixed (x.condition l) x
  · rfl

@[simp] theorem rxTo_fixed (l : LegId) (st : RxState) (m : LegId) :
    ((s.modLeg l (Leg.rxTo st)).leg m).fixed = (s.leg m).fixed :=
  modLeg_fixed l m fun _ => rfl

/-- Masking begins in the receive machine and the event flags of its leg alone (R10). -/
@[simp] theorem startMasking_fixed (l m : LegId) : ((s.startMasking l).leg m).fixed = (s.leg m).fixed := by
  unfold State.startMasking
  cases (s.leg l).rx.state with
  | idle => rfl
  | rising => simp
  | active | falling => dsimp only; split <;> simp
  | barred => exact modLeg_fixed l m fun _ => rfl

/-- Masking that a change begins or ends adds nothing to what the change does to the fixed part (R10). -/
theorem maskedChange_fixed (l m : LegId) {f : Leg → Leg} (hf : ∀ x, (f x).fixed = x.fixed) :
    ((s.maskedChange l f).leg m).fixed = (s.leg m).fixed := by
  unfold State.maskedChange
  dsimp only
  split <;> simp [modLeg_fixed l m hf]

@[simp] theorem enterOn_fixed (l m : LegId) : ((s.modLeg l Leg.enterOn).leg m).fixed = (s.leg m).fixed :=
  modLeg_fixed l m fun _ => rfl

@[simp] theorem enterTail_fixed (l m : LegId) : ((s.modLeg l Leg.enterTail).leg m).fixed = (s.leg m).fixed :=
  modLeg_fixed l m fun _ => rfl

@[simp] theorem enterLead_fixed (l m : LegId) : ((s.enterLead l).leg m).fixed = (s.leg m).fixed := by
  unfold State.enterLead
  dsimp only
  split <;> simp [maskedChange_fixed (f := Leg.enterLead) l m fun _ => rfl]

/-- A key demand moves the transmit machine and with it the masking, nothing else (R12, R13). -/
@[simp] theorem setDemand_fixed (l : LegId) (on : Bool) (m : LegId) :
    ((s.setDemand l on).leg m).fixed = (s.leg m).fixed := by
  have written : ((s.modLeg l fun x => { x with demand := on }).leg m).fixed = (s.leg m).fixed :=
    modLeg_fixed l m fun _ => rfl
  unfold State.setDemand
  dsimp only
  split
  · rfl
  · split <;> simp [written]

@[simp] theorem demands_fixed (p : PatchId) (on : LegId → Bool) (m : LegId) :
    ((s.demands p on).leg m).fixed = (s.leg m).fixed := by
  unfold State.demands
  refine List.foldlRecOn (motive := fun t : State => (t.leg m).fixed = (s.leg m).fixed) _ _ rfl ?_
  intro t ih l _
  split
  · rw [setDemand_fixed, ih]
  · exact ih

/-! ## The floor passing at a playback's end -/

@[simp] theorem grant_fixed (p : PatchId) (party : Party) (seized : Bool) (time : ClaimTime) (m : LegId) :
    ((s.grant p party seized time).leg m).fixed = (s.leg m).fixed := by
  unfold State.grant
  cases party <;> simp

@[simp] theorem enterIdle_fixed (p : PatchId) (m : LegId) : ((s.enterIdle p).leg m).fixed = (s.leg m).fixed := by
  unfold State.enterIdle
  simp

@[simp] theorem pass_fixed (p : PatchId) (m : LegId) : ((s.pass p).leg m).fixed = (s.leg m).fixed := by
  unfold State.pass
  split <;> simp

@[simp] theorem endTake_fixed (r : EndReason) (m : LegId) : ((s.endTake r).leg m).fixed = (s.leg m).fixed := by
  unfold State.endTake
  dsimp only
  split
  · simp
  · split <;> simp

/-- A playback's end that has fallen due moves the machines of legs alone (R159). -/
@[simp] theorem takeDueEnd_fixed (m : LegId) : (s.takeDueEnd.leg m).fixed = (s.leg m).fixed := by
  unfold State.takeDueEnd State.endPlayback
  split
  · split <;> simp
  · rfl

/-! ## The leg record after a reset -/

/-- A leg record after a reset of the whole part keeps its pins and nothing else: the aux state is taken from the live
input, and a carrier input or switch that is high starts RX_RISING (R28). -/
theorem afterReset_eq (x : Leg) : x.afterReset =
    { inputs := { x.inputs with peak := 0 }
      aux := { active := x.inputs.auxHigh }
      rx := if x.inputs.carrierHigh then { state := .rising, riseTimer := some 40 } else {} } := by
  cases high : x.inputs.carrierHigh <;> simp [Leg.afterReset, Leg.carrierActive, Leg.follow, high]

theorem leg_resetBlocks (k : Link) (l : LegId) :
    ({ s.resetBlocks with link := k } : State).leg l = (s.leg l).afterReset :=
  get_ofFn _ l

@[simp] theorem leg_takeReset (l : LegId) : s.takeReset.leg l = (s.leg l).afterReset :=
  leg_resetBlocks _ l

/-- What falls due before a command leaves the pins of every leg as they are (log 2). -/
theorem settle_pins (l : LegId) :
    (s.settle.leg l).inputs.carrierHigh = (s.leg l).inputs.carrierHigh ∧
      (s.settle.leg l).inputs.auxHigh = (s.leg l).inputs.auxHigh := by
  unfold State.settle
  split
  · rw [leg_takeReset, afterReset_eq]
    exact ⟨rfl, rfl⟩
  · rw [inputs_eq_of_fixed (takeDueEnd_fixed l)]
    exact ⟨rfl, rfl⟩

/-! ## The commands that reset the whole part -/

/-- A command that resets the whole part answers the state with every block reset, and the Link Controller with some
straps and time stamp. The blocks are those of the state it found, or of that state settled, which RESET_LINE takes
(log 6). -/
theorem exec_of_fullReset {i : Instr} (h : FullReset i s) : ∃ u address rate stamp, (u = s ∨ u = s.settle) ∧
    exec i s = .next { u.resetBlocks with link := Link.afterReset address rate stamp } := by
  cases i
  case powerOn address rate => exact ⟨s, address, rate, 0, .inl rfl, rfl⟩
  case resetLine address rate => exact ⟨s.settle, address, rate, s.settle.now, .inr rfl, rfl⟩
  case resetAllTakesPlace =>
    have taken : s.settle = s.takeReset := if_pos h
    exact ⟨s, s.link.address, s.link.rate, 0, .inl rfl, congrArg Host.Outcome.next taken⟩
  all_goals exact h.elim

/-- Settles O3: of each record a reset keeps the pins, and they are those of the state before, whatever was due then. -/
theorem legsAfterAFullReset : Obligations.LegsAfterAFullReset := by
  intro i s h
  obtain ⟨u, address, rate, stamp, settled, run⟩ := exec_of_fullReset h
  refine ⟨_, run, rfl, fun l => ?_⟩
  obtain ⟨carrier, aux⟩ : (u.leg l).inputs.carrierHigh = (s.leg l).inputs.carrierHigh ∧
      (u.leg l).inputs.auxHigh = (s.leg l).inputs.auxHigh := by
    rcases settled with rfl | rfl
    · exact ⟨rfl, rfl⟩
    · exact settle_pins l
  rw [leg_resetBlocks, afterReset_eq, carrier, aux]
  cases (s.leg l).inputs.carrierHigh <;> simp

end Sys2Proof.Machine

/-! SUPPORT. The tables after a reset of the whole part (R50, R75, R142, R164), and what RESET PATCHES leaves alone
(R76). -/

namespace Sys2Proof.Machine

variable {s : State}

/-! ## The tables after a reset

The state after a reset is `s.resetBlocks` with a Link Controller of its own (`exec_of_fullReset`); `k` is that one. -/

theorem agency_resetBlocks (k : Link) (a : AgencyId) : ({ s.resetBlocks with link := k } : State).agency a = {} :=
  Vector.get_replicate _ _ a

theorem planEntry_resetBlocks (k : Link) (i : PlanId) : ({ s.resetBlocks with link := k } : State).planEntry i = {} :=
  Vector.get_replicate _ _ i

theorem patch_resetBlocks (k : Link) (p : PatchId) : ({ s.resetBlocks with link := k } : State).patch p = {} :=
  Vector.get_replicate _ _ p

theorem entry_resetBlocks (k : Link) (e : EntryId) : ({ s.resetBlocks with link := k } : State).entry e = {} :=
  Vector.get_replicate _ _ e

theorem slot_resetBlocks (k : Link) (n : SlotId) : ({ s.resetBlocks with link := k } : State).slot n = {} :=
  Vector.get_replicate _ _ n

/-- An agency entry that is not valid refuses every translation at the first check (R34). -/
theorem translate_of_invalid {a : AgencyId} (invalid : (s.agency a).valid = false) (channel : Nat)
    (expected : Option Byte) (priority : Option Nat) :
    s.translate a channel expected priority = .refused .agencyInvalid := by
  unfold State.translate
  simp [invalid]

/-- With no block in any slot the whole of clip memory is free (R144). -/
theorem freeBlocks_of_no_blocks (empty : ∀ n, (s.slot n).blocks = []) : s.freeBlocks = List.finRange 256 := by
  have unheld (b : BlockId) : s.blockHeld b = false := by simp [State.blockHeld, empty]
  simp [State.freeBlocks, unheld]

/-! ## RESET PATCHES and the directory

The directory is kept by `resetEach_directory`; the bindings are kept as each teardown keeps them. -/

theorem binding_eq_of_fixed {x y : Leg} (h : x.fixed = y.fixed) : x.binding = y.binding :=
  show x.fixed.binding = y.fixed.binding from congrArg _ h

@[simp] theorem released_binding (l m : LegId) :
    ((s.modLeg l Leg.released).leg m).binding = (s.leg m).binding := by
  by_cases h : m = l
  · subst h
    rw [leg_modLeg_same]
    rfl
  · rw [leg_modLeg_ne _ _ h]

@[simp] theorem demands_binding (p : PatchId) (on : LegId → Bool) (m : LegId) :
    ((s.demands p on).leg m).binding = (s.leg m).binding :=
  binding_eq_of_fixed (demands_fixed p on m)

@[simp] theorem releaseAll_binding (ls : List LegId) (m : LegId) :
    ((ls.foldl (fun s l => s.modLeg l Leg.released) s).leg m).binding = (s.leg m).binding :=
  releaseAll_keeps s (fun t => (t.leg m).binding) (fun _ l => released_binding l m) ls

@[simp] theorem purge_leg (sel : Selector) (r : Requester) (m : LegId) : (s.purge sel r).1.leg m = s.leg m :=
  congrArg (fun v : Vector Leg 20 => v.get m) (purge_legs s sel r)

@[simp] theorem endInTeardown_leg (p : PatchId) (r : EndReason) (m : LegId) :
    (s.endInTeardown p r).1.leg m = s.leg m :=
  congrArg (fun v : Vector Leg 20 => v.get m) (endInTeardown_legs s p r)

/-- The teardown of a patch takes the membership, the TALK latch and the key demand of its members, not their binding
(R67). -/
@[simp] theorem teardown_binding (p : PatchId) (r : EndReason) (q : Requester) (m : LegId) :
    ((s.teardown p r q).1.leg m).binding = (s.leg m).binding := by
  unfold State.teardown
  dsimp only
  split <;> simp

@[simp] theorem resetEach_binding (ps : List PatchId) (m : LegId) :
    ((s.resetEach ps).leg m).binding = (s.leg m).binding := by
  induction ps generalizing s with
  | nil => rfl
  | cons p ps ih =>
    unfold State.resetEach
    dsimp only
    rw [ih]
    split <;> simp

theorem takeResetPatches_directory (h : Header) : (takeResetPatches h s).directory = s.directory := by
  unfold takeResetPatches
  split <;> simp

theorem takeResetPatches_binding (h : Header) (m : LegId) :
    ((takeResetPatches h s).leg m).binding = (s.leg m).binding := by
  unfold takeResetPatches
  split <;> simp

/-- RESET PATCHES, ignored, refused or taken, leaves the directory and every binding alone (R50). -/
theorem resetPatches_keeps (h : Header) (settled : s.Settled) : ∃ t, exec (.resetPatches h) s = .next t ∧
    t.directory = s.directory ∧ ∀ l, (t.leg l).binding = (s.leg l).binding := by
  refine ⟨doResetPatches h s, rfl, ?_⟩
  have cases := request_cases (s := s) (h := h) (k := .reset) (take := takeResetPatches h)
  rw [settle_of_settled settled] at cases
  unfold doResetPatches
  rcases cases with ignored | refused | taken
  · rw [ignored]
    exact ⟨rfl, fun _ => rfl⟩
  · rw [refused]
    exact ⟨refuse_directory _ _ _ _, fun l => congrArg Leg.binding (refuse_leg _ _ _ _ l)⟩
  · rw [taken]
    exact ⟨takeResetPatches_directory h, takeResetPatches_binding h⟩

/-- Settles O4: the blocks hold their default records after a reset, and a teardown writes neither directory nor
binding. -/
theorem tablesAfterAFullReset : Obligations.TablesAfterAFullReset := by
  refine ⟨⟨fun i s h => ?directory, fun h s => resetPatches_keeps h⟩, fun i s h => ?patches, fun i s h => ?routes⟩ <;>
    obtain ⟨u, address, rate, stamp, -, run⟩ := exec_of_fullReset h <;>
    refine ⟨_, run, ?_⟩
  case directory =>
    refine ⟨agency_resetBlocks _, planEntry_resetBlocks _, fun l => ?_, rfl, rfl, rfl, fun a => ?_⟩
    · rw [leg_resetBlocks, afterReset_eq]
    · exact translate_of_invalid (by rw [agency_resetBlocks])
  case patches =>
    refine ⟨fun p => ?_, rfl, rfl, rfl⟩
    rw [patch_resetBlocks]
  case routes =>
    refine ⟨entry_resetBlocks _, fun p => by rw [patch_resetBlocks], rfl, rfl, slot_resetBlocks _, ?_, rfl, rfl, rfl, rfl,
      rfl, rfl, rfl, rfl⟩
    rw [freeBlocks_of_no_blocks fun n => by rw [slot_resetBlocks], List.length_finRange]

end Sys2Proof.Machine

/-! SUPPORT. PLAN: the ranges of its fields, the entries it writes, and the agencies it increments (R31, R37, R38). -/

namespace Sys2Proof.Machine

variable {s : State}

/-! ## The ranges of a PLAN request -/

theorem isChoice_iff (b : Byte) : isChoice b = true ↔ b.toNat ≤ 1 := by simp [isChoice]

theorem onStep_iff (w : Word16) (lo hi step : Nat) : onStep w lo hi step = true ↔ inSteps w lo hi step := by
  simp [onStep, inSteps, and_assoc]

theorem timeLimit_inRange_iff (w : Word16) (lo hi : Nat) :
    (w == 0 || decide (lo ≤ w.toNat) && decide (w.toNat ≤ hi)) = true ↔
      w.toNat = 0 ∨ (lo ≤ w.toNat ∧ w.toNat ≤ hi) := by
  simp [← BitVec.toNat_inj]

/-- The model's check of an entry is R31's ranges. -/
theorem planInRange_iff (e : PlanArgs) : planInRange e = true ↔ PlanArgs.InRange e := by
  simp only [planInRange, PlanArgs.InRange, Bool.and_eq_true, isChoice_iff, onStep_iff, timeLimit_inRange_iff,
    decide_eq_true_eq, and_assoc, Nat.lt_succ_iff]

/-- PLAN refuses exactly the requests with a value out of range (R37). -/
theorem plan_inRange_iff (h : Header) (first : Byte) (entries : List PlanArgs) :
    ArgumentsInRange (.plan h first entries) ↔
      1 ≤ entries.length ∧ entries.length ≤ 8 ∧ first.toNat + entries.length ≤ 256 ∧
        entries.all planInRange = true := by
  simp only [ArgumentsInRange, List.all_eq_true, planInRange_iff]

/-! ## The entries written -/

/-- Writing plan entries changes no field but the directory. -/
theorem writePlans_eq (i : Nat) (es : List PlanArgs) :
    writePlans s i es = { s with directory := (writePlans s i es).directory } := by
  induction es generalizing s i with
  | nil => rfl
  | cons e es ih =>
    rw [writePlans]
    split
    · exact ih (s := s.setPlan _ _) (i + 1)
    · exact ih (i + 1)

/-- Writing plan entries changes no agency entry. -/
theorem agency_writePlans (i : Nat) (es : List PlanArgs) (a : AgencyId) :
    (writePlans s i es).agency a = s.agency a := by
  induction es generalizing s i with
  | nil => rfl
  | cons e es ih =>
    rw [writePlans, ih]
    split <;> rfl

/-- A plan entry outside the range written stays as it was. -/
theorem planEntry_writePlans_outside (i : Nat) (es : List PlanArgs) (j : PlanId)
    (outside : j.val < i ∨ i + es.length ≤ j.val) : (writePlans s i es).planEntry j = s.planEntry j := by
  induction es generalizing s i with
  | nil => rfl
  | cons e es ih =>
    rw [List.length_cons] at outside
    rw [writePlans, ih (i + 1) (by omega)]
    split
    · exact planEntry_setPlan_ne _ _ fun same => by
        have : j.val = i := congrArg Fin.val same
        omega
    · rfl

/-- A plan entry within the range written holds what its part of the request says. -/
theorem planEntry_writePlans (i : Nat) (es : List PlanArgs) (j : PlanId) (k : Nat) (e : PlanArgs)
    (place : j.val = i + k) (part : es[k]? = some e) : (writePlans s i es).planEntry j = planOf e := by
  induction es generalizing s i k with
  | nil => simp at part
  | cons d es ih =>
    rw [writePlans]
    cases k with
    | zero =>
      obtain rfl : d = e := by simpa using part
      obtain rfl : j.val = i := place
      rw [planEntry_writePlans_outside _ _ _ (.inl (Nat.lt_succ_self _)), dif_pos j.isLt]
      exact planEntry_setPlan_same s j _
    | succ k => exact ih (i + 1) k (by omega) (by simpa using part)

/-! ## The agencies named -/

/-- The plan entries with numbers from an index onward, so many of them. -/
def InSpan (first count : Nat) (i : PlanId) : Prop := first ≤ i.val ∧ i.val < first + count

theorem mem_oldAgencies (first count : Nat) (a : AgencyId) :
    a ∈ oldAgencies s first count ↔ ∃ i, InSpan first count i ∧ (s.planEntry i).agency = a := by
  simp only [oldAgencies, List.mem_filterMap, List.mem_range, Option.dite_none_right_eq_some, Option.some.injEq]
  constructor
  · rintro ⟨k, below, inTable, named⟩
    exact ⟨⟨first + k, inTable⟩, ⟨Nat.le_add_right _ _, Nat.add_lt_add_left below _⟩, named⟩
  · rintro ⟨i, ⟨low, high⟩, named⟩
    have place : first + (i.val - first) = i.val := by omega
    refine ⟨i.val - first, by omega, by omega, ?_⟩
    simpa only [place] using named

/-- The agencies that the entries of a request name are those of the plan entries it leaves (R38). -/
theorem mem_newAgencies (first : Nat) (es : List PlanArgs) (fits : first + es.length ≤ 256) (a : AgencyId) :
    a ∈ es.map (fun e => (planOf e).agency) ↔
      ∃ i, InSpan first es.length i ∧ ((writePlans s first es).planEntry i).agency = a := by
  rw [List.mem_map]
  constructor
  · rintro ⟨e, present, named⟩
    obtain ⟨k, part⟩ := List.mem_iff_getElem?.mp present
    obtain ⟨below, -⟩ := List.getElem?_eq_some_iff.mp part
    refine ⟨⟨first + k, by omega⟩, ⟨Nat.le_add_right _ _, Nat.add_lt_add_left below _⟩, ?_⟩
    rw [planEntry_writePlans first es _ k e rfl part, named]
  · rintro ⟨i, ⟨low, high⟩, named⟩
    have part : es[i.val - first]? = some es[i.val - first] := List.getElem?_eq_getElem (by omega)
    refine ⟨_, List.mem_of_getElem? part, ?_⟩
    rw [← named, planEntry_writePlans first es i _ _ (by omega) part]

/-- The agencies of a PLAN request are those that an entry overwritten or an entry written names (R38). -/
theorem mem_namedAgencies (first : Nat) (es : List PlanArgs) (fits : first + es.length ≤ 256) (a : AgencyId) :
    a ∈ namedAgencies s first es ↔ ∃ i, InSpan first es.length i ∧
      ((s.planEntry i).agency = a ∨ ((writePlans s first es).planEntry i).agency = a) := by
  rw [namedAgencies, List.mem_append, mem_oldAgencies, mem_newAgencies (s := s) first es fits, ← exists_or]
  simp only [and_or_left]

/-- An agency named is incremented once, however often it is named, and any other stays as it was (R38). -/
theorem agency_bumpAgencies (named : List AgencyId) (a : AgencyId) :
    (s.bumpAgencies named).agency a = if a ∈ named then (s.agency a).bumped else s.agency a := by
  simp only [← List.contains_iff_mem]
  exact get_ofFn (fun n => if named.contains n then (s.agency n).bumped else s.agency n) a

theorem bumpAgencies_planEntry (named : List AgencyId) (i : PlanId) :
    (s.bumpAgencies named).planEntry i = s.planEntry i := by
  dsimp only [State.bumpAgencies, State.planEntry]

/-! ## PLAN -/

/-- The state a PLAN in range leaves, its reply aside (R37, R38). -/
def planned (s : State) (first : Nat) (es : List PlanArgs) : State :=
  (writePlans s first es).bumpAgencies (namedAgencies s first es)

theorem takePlan_of_inRange {h : Header} {first : Byte} {es : List PlanArgs}
    (inRange : ArgumentsInRange (.plan h first es)) :
    takePlan h first es s = (planned s first.toNat es).grantReply h .plan [] :=
  if_pos ((plan_inRange_iff h first es).mp inRange)

theorem takePlan_of_outOfRange {h : Header} {first : Byte} {es : List PlanArgs}
    (outOfRange : ¬ ArgumentsInRange (.plan h first es)) : takePlan h first es s = s.refuse h .plan .range :=
  if_neg fun inRange => outOfRange ((plan_inRange_iff h first es).mpr inRange)

/-- A PLAN in range changes no field but the directory, so that it touches no binding (R38). -/
theorem planned_eq (first : Nat) (es : List PlanArgs) :
    planned s first es = { s with directory := (planned s first es).directory } := by
  unfold planned
  rw [writePlans_eq]
  dsimp only [State.bumpAgencies]

theorem planned_inProgress (first : Nat) (es : List PlanArgs) :
    (planned s first es).link.inProgress = s.link.inProgress := by
  rw [planned_eq]

theorem planEntry_planned_outside (first : Nat) (es : List PlanArgs) (i : PlanId)
    (outside : i.val < first ∨ first + es.length ≤ i.val) : (planned s first es).planEntry i = s.planEntry i := by
  rw [planned, bumpAgencies_planEntry, planEntry_writePlans_outside first es i outside]

theorem planEntry_planned (first : Nat) (es : List PlanArgs) (i : PlanId) (k : Nat) (e : PlanArgs)
    (place : i.val = first + k) (part : es[k]? = some e) : (planned s first es).planEntry i = planOf e := by
  rw [planned, bumpAgencies_planEntry, planEntry_writePlans first es i k e place part]

/-- The generation of an agency is incremented once if an entry overwritten or an entry written names it, and the agency
entry stays as it was if none does (R38). -/
theorem agency_planned (first : Nat) (es : List PlanArgs) (fits : first + es.length ≤ 256) (a : AgencyId) :
    ((∃ i, InSpan first es.length i ∧ ((s.planEntry i).agency = a ∨ ((planned s first es).planEntry i).agency = a)) →
      (planned s first es).agency a = (s.agency a).bumped) ∧
    ((¬ ∃ i, InSpan first es.length i ∧ ((s.planEntry i).agency = a ∨ ((planned s first es).planEntry i).agency = a)) →
      (planned s first es).agency a = s.agency a) := by
  simp only [planned, bumpAgencies_planEntry, agency_bumpAgencies, agency_writePlans, ← mem_namedAgencies first es fits]
  exact ⟨fun named => if_pos named, fun apart => if_neg apart⟩

/-- The bytes of an entry in range are the numbers that the plan entry holds. -/
theorem planOf_indices {e : PlanArgs} (inRange : PlanArgs.InRange e) :
    (planOf e).agency.val = e.agency.toNat ∧ (planOf e).authority.val = e.authority.toNat := by
  obtain ⟨-, agency, authority, -⟩ := inRange
  exact ⟨Nat.mod_eq_of_lt (Nat.lt_succ_of_le agency), Nat.mod_eq_of_lt (Nat.lt_succ_of_le authority)⟩

theorem exec_plan_of_ready {h : Header} (ready : s.Ready h) (first : Byte) (es : List PlanArgs) :
    exec (.plan h first es) s = .next (takePlan h first es s) :=
  congrArg Host.Outcome.next (request_of_ready ready)

/-- Settles O26: the state left is `planned`. -/
theorem planWritesAndCounts : Obligations.PlanWritesAndCounts := by
  intro h first es s ready
  have run := exec_plan_of_ready ready first es
  obtain ⟨-, idle, -⟩ := ready
  refine ⟨fun outOfRange => ?refusal, fun inRange => ?write⟩
  case refusal =>
    rw [takePlan_of_outOfRange outOfRange] at run
    exact completes_of_refuse .range run (discardsReplies_of_idle idle)
  case write =>
    rw [takePlan_of_inRange inRange] at run
    obtain ⟨-, -, fits, entriesInRange⟩ := inRange
    have heard : (planned s first.toNat es).discardsReplies = false :=
      discardsReplies_of_idle ((planned_inProgress _ _).trans idle)
    refine ⟨planned s first.toNat es, completes_of_grant [] run heard, planned_eq _ _,
      planEntry_planned_outside _ _, fun i k e place part => ?_, fun a => ?_⟩
    · rw [planEntry_planned _ _ i k e place part]
      obtain ⟨agency, authority⟩ := planOf_indices (entriesInRange e (List.mem_of_getElem? part))
      exact ⟨rfl, agency, authority, rfl, rfl, rfl, rfl, rfl, rfl, rfl⟩
    · obtain ⟨bumped, kept⟩ := agency_planned (s := s) first.toNat es fits a
      refine ⟨fun ⟨i, low, high, names⟩ => bumped ⟨i, ⟨low, high⟩, names⟩, fun apart => kept ?_⟩
      rintro ⟨i, ⟨low, high⟩, names⟩
      obtain ⟨notOld, notNew⟩ := apart i low high
      exact names.elim notOld notNew

end Sys2Proof.Machine

/-! SUPPORT. The floor that a grant leaves (R85): the key demands, the retarget and the notice that follow its fields
take claims out of queues, and write no other floor field. -/

namespace Sys2Proof.Machine

variable {s t u : State}

/-! ## Floors that only lose claims -/

/-- Between two states, the floors of all patches stay as they are but for claims taken out of their queues. -/
def ClaimsOnlyLeave (s t : State) : Prop :=
  ∀ p, ∃ rest, rest.Sublist (s.patch p).floor.queue ∧ (t.patch p).floor = { (s.patch p).floor with queue := rest }

theorem claimsOnlyLeave_of_patches (same : t.patches = s.patches) : ClaimsOnlyLeave s t := fun p =>
  ⟨_, .refl _, congrArg (fun v : Vector Patch 12 => (v.get p).floor) same⟩

theorem ClaimsOnlyLeave.trans (first : ClaimsOnlyLeave s t) (second : ClaimsOnlyLeave t u) : ClaimsOnlyLeave s u := by
  intro p
  obtain ⟨kept, keptOf, floorThen⟩ := first p
  obtain ⟨rest, restOf, floorLast⟩ := second p
  rw [floorThen] at restOf floorLast
  exact ⟨rest, restOf.trans keptOf, floorLast⟩

theorem claimsOnlyLeave_unqueue (p : PatchId) (party : Party) : ClaimsOnlyLeave s (s.unqueue p party) := by
  intro q
  by_cases same : q = p
  · subst same
    exact ⟨_, List.filter_sublist, congrArg Patch.floor (patch_modFloor_same s q _)⟩
  · exact ⟨_, .refl _, congrArg Patch.floor (patch_modFloor_ne s _ same)⟩

/-! ## What the key demands of a grant do to floors -/

/-- The withdrawal at the start of masking is all of it that reaches a floor (R10, R94). -/
theorem claimsOnlyLeave_startMasking (l : LegId) : ClaimsOnlyLeave s (s.startMasking l) := by
  unfold State.startMasking
  cases (s.leg l).rx.state with
  | idle => exact claimsOnlyLeave_of_patches rfl
  | rising | barred => exact claimsOnlyLeave_of_patches (modLeg_patches s l _)
  | active | falling =>
    dsimp only
    split
    · exact (claimsOnlyLeave_of_patches (by simp)).trans (claimsOnlyLeave_unqueue _ _)
    · exact claimsOnlyLeave_of_patches (by simp)

theorem claimsOnlyLeave_maskedChange (l : LegId) (f : Leg → Leg) : ClaimsOnlyLeave s (s.maskedChange l f) := by
  have written : ClaimsOnlyLeave s (s.modLeg l f) := claimsOnlyLeave_of_patches (modLeg_patches s l f)
  unfold State.maskedChange
  dsimp only
  split
  · exact written.trans (claimsOnlyLeave_startMasking l)
  · exact written.trans (claimsOnlyLeave_of_patches (evaluate_patches _ l))
  · exact written

theorem claimsOnlyLeave_enterLead (l : LegId) : ClaimsOnlyLeave s (s.enterLead l) := by
  have masked := claimsOnlyLeave_maskedChange (s := s) l Leg.enterLead
  unfold State.enterLead
  dsimp only
  split
  · exact masked.trans (claimsOnlyLeave_of_patches (modLeg_patches _ l _))
  · exact masked

/-- A key demand reaches a floor through the masking of its leg alone (R10, R12). -/
theorem claimsOnlyLeave_setDemand (l : LegId) (on : Bool) : ClaimsOnlyLeave s (s.setDemand l on) := by
  have written : ClaimsOnlyLeave s (s.modLeg l fun x => { x with demand := on }) :=
    claimsOnlyLeave_of_patches (modLeg_patches s l _)
  unfold State.setDemand
  dsimp only
  split
  · exact claimsOnlyLeave_of_patches rfl
  · split
    · exact written.trans (claimsOnlyLeave_enterLead l)
    all_goals exact claimsOnlyLeave_of_patches (by simp)

theorem claimsOnlyLeave_demands (p : PatchId) (on : LegId → Bool) : ClaimsOnlyLeave s (s.demands p on) := by
  unfold State.demands
  refine List.foldlRecOn (motive := ClaimsOnlyLeave s) _ _ (claimsOnlyLeave_of_patches rfl) ?_
  intro t before l _
  split
  · exact before.trans (claimsOnlyLeave_setDemand l _)
  · exact before

/-! ## The floor after a grant -/

/-- Once the floor fields of a grant are written (R85), the rest of it takes claims out of queues at most. -/
theorem claimsOnlyLeave_grant (p : PatchId) (party : Party) (seized : Bool) (time : ClaimTime) :
    ClaimsOnlyLeave (s.modPatch p fun x => { x with floor := x.grantedFloor party seized s.now time })
      (s.grant p party seized time) := by
  refine (claimsOnlyLeave_demands p fun l => party != .leg l).trans (claimsOnlyLeave_of_patches ?_)
  unfold State.grant
  cases party <;> simp

/-- The floor a grant leaves is the floor R85 describes, with claims of its queue taken out by the masking of members. -/
theorem floor_grant (p : PatchId) (party : Party) (seized : Bool) (time : ClaimTime) :
    ∃ rest, rest.Sublist ((s.patch p).floor.queue.filter fun c => c.party != party) ∧
      ((s.grant p party seized time).patch p).floor =
        { (s.patch p).grantedFloor party seized s.now time with queue := rest } := by
  obtain ⟨rest, restOf, floor⟩ := claimsOnlyLeave_grant (s := s) p party seized time p
  rw [patch_modPatch_same] at restOf floor
  exact ⟨rest, restOf, floor⟩

/-! ## Claims on a free floor -/

/-- A claim that finds an IDLE or HANG floor is a grant, with no look at its priority (R81). -/
theorem claimArrives_of_free (p : PatchId) (party : Party) (free : (s.patch p).floor.state ≠ .held) :
    s.claimArrives p party = s.nextEvent.grant p party false s.eventTime := by
  unfold State.claimArrives
  dsimp only
  rw [nextEvent_patch]
  cases state : (s.patch p).floor.state with
  | idle | hang => rfl
  | held => exact absurd state free

/-- Settles O38: the claim is a grant, and an empty queue has no claim to keep. -/
theorem claimOnAFreeFloorIsGranted : Obligations.ClaimOnAFreeFloorIsGranted := by
  intro p party s free empty
  obtain ⟨rest, restOf, floor⟩ := floor_grant (s := s.nextEvent) p party false s.eventTime
  obtain rfl : rest = [] := by simpa [empty] using restOf
  dsimp only
  rw [claimArrives_of_free p party free, floor]
  exact ⟨rfl, rfl, rfl, rfl, rfl, rfl, rfl⟩

end Sys2Proof.Machine

/-! SUPPORT. Attenuation as rounding to the nearest integer (R134), and a sample of the mix as an exact sum limited once
(R135). -/

namespace Sys2Proof.Machine

/-! ## Attenuation -/

/-- The table of R134, row by row. -/
theorem gainFactor_table :
    ∀ row ∈ [(0, 10000), (1, 7943), (2, 6310), (3, 5012), (4, 3981), (5, 3162), (6, 2512), (7, 1995), (8, 1585),
      (9, 1259), (10, 1000), (11, 794), (12, 631), (13, 501), (14, 398), (15, 316)], gainFactor row.1 = row.2 := by
  decide

/-- No gain step amplifies. -/
theorem gainFactor_le {step : Nat} (inTable : step ≤ 15) : gainFactor step ≤ 10000 := by
  interval_cases step <;> decide

theorem attenuate_natCast (step n : Nat) : attenuate step n = ((n * gainFactor step + 5000) / 10000 : Nat) := by
  cases n with
  | zero => simp [attenuate]
  | succ n => rw [attenuate, Int.sign_natCast_of_ne_zero n.succ_ne_zero, one_mul, Int.natAbs_natCast]

/-- Rounding away from zero treats both signs alike. -/
theorem attenuate_neg (step : Nat) (x : Int) : attenuate step (-x) = -attenuate step x := by
  rw [attenuate, attenuate, Int.sign_neg, Int.natAbs_neg, neg_mul]

/-- `y` is the integer nearest to a ten-thousandth of `product`, and of two nearest the one away from zero (R134). -/
def RoundsTo (product y : Int) : Prop :=
  |10000 * y - product| ≤ 5000 ∧ (|10000 * y - product| = 5000 → |product| < 10000 * |y|)

theorem RoundsTo.neg {product y : Int} (rounds : RoundsTo product y) : RoundsTo (-product) (-y) := by
  have mirrored : 10000 * -y - -product = -(10000 * y - product) := by ring
  unfold RoundsTo
  rwa [mirrored, abs_neg, abs_neg, abs_neg]

/-- On what is not negative, adding a half and cutting off rounds a half up. -/
theorem roundsTo_natCast (m : Nat) : RoundsTo m ((m + 5000) / 10000 : Nat) := by
  unfold RoundsTo
  rw [Nat.abs_cast, Nat.abs_cast, abs_le, abs_eq (by decide)]
  omega

theorem roundsTo_attenuate (step : Nat) (x : Int) : RoundsTo (x * gainFactor step) (attenuate step x) := by
  have natural (n : Nat) : RoundsTo (n * gainFactor step) (attenuate step n) := by
    rw [attenuate_natCast, ← Nat.cast_mul]
    exact roundsTo_natCast _
  obtain ⟨n, rfl | rfl⟩ := x.eq_nat_or_neg
  · exact natural n
  · rw [attenuate_neg, neg_mul]
    exact (natural n).neg

/-- Gain step 0 is a factor of 1. -/
theorem attenuate_zero (x : Int) : attenuate 0 x = x := by
  obtain ⟨near, -⟩ := roundsTo_attenuate 0 x
  rw [show gainFactor 0 = 10000 from rfl, abs_le] at near
  omega

/-- Attenuation does not leave the range of a sample, which holds one more value below zero than above. -/
theorem attenuate_sample_range {step : Nat} (inTable : step ≤ 15) (v : Sample) :
    -32768 ≤ attenuate step v.toInt ∧ attenuate step v.toInt ≤ 32767 := by
  have low : -32768 ≤ v.toInt := v.le_toInt
  have high : v.toInt ≤ 32767 := Int.le_of_lt_add_one v.toInt_lt
  have natural (n : Nat) : 0 ≤ attenuate step n ∧ attenuate step n ≤ n := by
    have shrinks : n * gainFactor step ≤ n * 10000 := Nat.mul_le_mul_left n (gainFactor_le inTable)
    rw [attenuate_natCast]
    omega
  obtain ⟨n, value | value⟩ := v.toInt.eq_nat_or_neg
  all_goals
    obtain ⟨nonneg, le⟩ := natural n
    rw [value] at low high ⊢
  · omega
  · rw [attenuate_neg]
    omega

/-! ## The mix -/

/-- The limited value fits a sample. -/
theorem toInt_ofInt_limit (x : Int) : (BitVec.ofInt 16 (limit x)).toInt = limit x := by
  have low : -32768 ≤ limit x := le_max_left _ _
  have high : limit x ≤ 32767 := max_le (by decide) (min_le_left _ _)
  exact BitVec.toInt_ofInt_eq_self (by decide) low (Int.lt_add_one_of_le high)

theorem limit_of_range {x : Int} (low : -32768 ≤ x) (high : x ≤ 32767) : limit x = x := by
  rw [limit, min_eq_right high, max_eq_right low]

theorem limit_of_above {x : Int} (above : 32767 < x) : limit x = 32767 := by
  rw [limit, min_eq_left above.le]
  rfl

theorem limit_of_below {x : Int} (below : x < -32768) : limit x = -32768 :=
  max_eq_left ((min_le_right _ _).trans below.le)

/-- The exact sum of a destination's attenuated samples (R135). -/
def destSum (taken : List Taken) (l : LegId) (i : Fin 8) : Int :=
  ((taken.filter fun t => t.dest = l).map fun t => attenuate t.gain (t.block.get i).toInt).sum

theorem mix_get (taken : List Taken) (l : LegId) (i : Fin 8) :
    (mix taken l).get i = BitVec.ofInt 16 (limit (destSum taken l i)) :=
  get_ofFn _ i

theorem toInt_mix_get (taken : List Taken) (l : LegId) (i : Fin 8) :
    ((mix taken l).get i).toInt = limit (destSum taken l i) := by
  rw [mix_get, toInt_ofInt_limit]

theorem destSum_single (src : Party) (l : LegId) (step : Nat) (b : Block) (i : Fin 8) :
    destSum [⟨src, l, step, b⟩] l i = attenuate step (b.get i).toInt := by
  simp [destSum]

theorem destSum_of_noEntry {taken : List Taken} {l : LegId} (noEntry : ∀ t ∈ taken, t.dest ≠ l) (i : Fin 8) :
    destSum taken l i = 0 := by
  have empty : (taken.filter fun t => t.dest = l) = [] := by simpa using noEntry
  rw [destSum, empty, List.map_nil, List.sum_nil]

/-- A single entry is never limited: its attenuated sample is in range. -/
theorem toInt_mix_single (src : Party) (l : LegId) {step : Nat} (b : Block) (i : Fin 8) (inTable : step ≤ 15) :
    ((mix [⟨src, l, step, b⟩] l).get i).toInt = attenuate step (b.get i).toInt := by
  obtain ⟨low, high⟩ := attenuate_sample_range inTable (b.get i)
  rw [toInt_mix_get, destSum_single, limit_of_range low high]

theorem mix_get_of_noEntry {taken : List Taken} {l : LegId} (noEntry : ∀ t ∈ taken, t.dest ≠ l) (i : Fin 8) :
    (mix taken l).get i = 0 := by
  rw [mix_get, destSum_of_noEntry noEntry]
  rfl

/-- Settles O50: `roundsTo_attenuate` at the factors of the table, and `toInt_mix_get` by the place of the sum. -/
theorem mixingIsExact : Obligations.MixingIsExact := by
  refine ⟨⟨fun step factor x row => ?rounding, attenuate_zero, rfl, rfl, fun src l step b i inTable =>
    toInt_mix_single src l b i inTable⟩, fun taken l i => ?mixing⟩
  case rounding =>
    obtain rfl : gainFactor step = factor := gainFactor_table _ row
    obtain ⟨near, away⟩ := roundsTo_attenuate step x
    rw [abs_mul x, Nat.abs_cast] at away
    exact ⟨near, away⟩
  case mixing =>
    rw [toInt_mix_get]
    exact ⟨fun ⟨low, high⟩ => limit_of_range low high, limit_of_above, limit_of_below,
      fun noEntry => mix_get_of_noEntry noEntry i⟩

end Sys2Proof.Machine

/-! SUPPORT. The stream requests (R151, R152): the slot they name, when a slot is in STREAM mode, when a slot accepts
data, and one equation for what each request does with its arguments out of range and in range. -/

namespace Sys2Proof.Machine

variable {s : State} {h : Header} {slot : Byte} {n : SlotId}

/-! ## Requests that the block owning them refuses or grants -/

/-- A request whose taking is a refusal completes with nothing changed. -/
theorem completes_of_takes_refuse {i : Instr} {k : Kind} {take : State → State} {r : Result} (ready : s.Ready h)
    (meaning : exec i s = .next (s.request h k take)) (takes : take s = s.refuse h k r) :
    Completes i s h k.code [r.code] s := by
  rw [request_of_ready ready, takes] at meaning
  obtain ⟨-, idle, -⟩ := ready
  exact completes_of_refuse r meaning (discardsReplies_of_idle idle)

/-- A request whose taking is a reply of results on u completes with u, if the link is as it was. -/
theorem completes_of_takes_grant {i : Instr} {k : Kind} {take : State → State} {u : State} {results : List Byte}
    (ready : s.Ready h) (meaning : exec i s = .next (s.request h k take))
    (takes : take s = u.grantReply h k results) (link : u.link = s.link) :
    Completes i s h k.code (Result.ok.code :: results) u := by
  rw [request_of_ready ready, takes] at meaning
  obtain ⟨-, idle, -⟩ := ready
  exact completes_of_grant results meaning (discardsReplies_of_idle (link ▸ idle))

/-! ## The slot a request names -/

theorem slotOf_eq_some_iff : slotOf slot = some n ↔ slot.toNat = n.val := by
  rw [slotOf, Option.dite_none_right_eq_some]
  constructor
  · rintro ⟨inTable, named⟩
    exact congrArg Fin.val (Option.some.inj named)
  · intro named
    exact ⟨named ▸ n.isLt, congrArg some (Fin.ext named)⟩

/-- A byte that names a slot is in the range of slot numbers. -/
theorem slot_le_of_slotOf (named : slotOf slot = some n) : slot.toNat ≤ 7 :=
  slotOf_eq_some_iff.mp named ▸ Nat.le_of_lt_succ n.isLt

/-! ## The stream slot -/

/-- The search for the stream slot finds one exactly when some slot is in STREAM mode, whatever its state (R146). -/
theorem streamSlot_isSome_iff : s.streamSlot.isSome = true ↔ ∃ m, (s.slot m).mode = some .stream := by
  simp [State.streamSlot, allSlots]

/-- Check 1 of STREAM DATA (R152). -/
theorem acceptsData_iff : s.acceptsData n = true ↔ (s.slot n).mode = some .stream ∧
    ((s.slot n).state = .stream ∨ (s.slot n).state = .waiting ∨
      ((s.slot n).state = .playing ∧ (s.context.phase = .playing ∨ s.context.phase = .tone))) := by
  unfold State.acceptsData
  cases (s.slot n).state <;> simp

/-! ## STREAM DEFINE -/

/-- The state a STREAM DEFINE leaves that is taken, its reply aside (R151). -/
def streamDefined (s : State) (n : SlotId) (length : Word32) (level : Byte) : State :=
  (s.modSlot n fun _ =>
    { state := .stream, mode := some .stream, length := length.toNat, level := level.toNat }).emptyRing

theorem exec_streamDefine (length : Word32) (level : Byte) :
    exec (.streamDefine h slot length level) s = .next (s.request h .stream (takeStreamDefine h slot length level)) :=
  rfl

theorem takeStreamDefine_of_outOfRange {length : Word32} {level : Byte}
    (outOfRange : ¬ ArgumentsInRange (.streamDefine h slot length level)) :
    takeStreamDefine h slot length level s = s.refuse h .stream .range := by
  unfold takeStreamDefine
  split
  next n named values =>
    obtain ⟨positive, inTable⟩ : 1 ≤ length.toNat ∧ level.toNat ≤ 15 := by simpa using values
    exact absurd ⟨slot_le_of_slotOf named, positive, inTable⟩ outOfRange
  next => rfl

/-- STREAM DEFINE in range is taken at an EMPTY slot while no slot is in STREAM mode, and only there (R151). -/
theorem takeStreamDefine_of_inRange {length : Word32} {level : Byte} (named : slot.toNat = n.val)
    (positive : 1 ≤ length.toNat) (inTable : level.toNat ≤ 15) :
    takeStreamDefine h slot length level s =
      if (s.slot n).state ≠ .empty ∨ ∃ m, (s.slot m).mode = some .stream then s.refuse h .stream .slotState
      else (streamDefined s n length level).grantReply h .stream [] := by
  simp only [takeStreamDefine, slotOf_eq_some_iff.mpr named, positive, inTable, decide_true, Bool.and_self,
    Bool.or_eq_true, decide_eq_true_eq, streamSlot_isSome_iff]
  rfl

/-! ## STREAM DATA -/

theorem exec_streamData (samples : List Sample) :
    exec (.streamData h slot samples) s = .next (s.request h .stream (takeStreamData h slot samples)) :=
  rfl

theorem takeStreamData_of_outOfRange {samples : List Sample}
    (outOfRange : ¬ ArgumentsInRange (.streamData h slot samples)) :
    takeStreamData h slot samples s = s.refuse h .stream .range := by
  unfold takeStreamData
  split
  next n named count =>
    obtain ⟨nonempty, fits⟩ : 1 ≤ samples.length ∧ samples.length ≤ 120 := by simpa using count
    exact absurd ⟨slot_le_of_slotOf named, nonempty, fits⟩ outOfRange
  next => rfl

theorem appendRing_fill (samples : List Sample) :
    (s.appendRing samples).clips.ring.length = s.clips.ring.length + samples.length :=
  List.length_append

/-- STREAM DATA in range makes its checks in the order of R152. -/
theorem takeStreamData_of_inRange {samples : List Sample} (named : slot.toNat = n.val)
    (nonempty : 1 ≤ samples.length) (fits : samples.length ≤ 120) :
    takeStreamData h slot samples s =
      if ¬ s.acceptsData n then s.refuse h .stream .slotState
      else if (s.slot n).length < s.clips.accepted + samples.length then s.refuse h .stream .range
      else if 1024 < s.clips.ring.length + samples.length then s.refuse h .stream .ringFull
      else (s.appendRing samples).grantReply h .stream (num16 (s.appendRing samples).clips.ring.length) := by
  simp only [takeStreamData, slotOf_eq_some_iff.mpr named, nonempty, fits, decide_true, Bool.and_self,
    Bool.not_eq_true', Bool.not_eq_true, Config.ringCapacity]
  rfl

/-- Settles O52: each refusal and each grant is a branch of the two equations in range, or both equations out of it. -/
theorem streamFillsTheRing : Obligations.StreamFillsTheRing := by
  refine ⟨fun h slot length level samples s ready => ?outOfRange, fun h slot n s ready named =>
    ⟨fun length level positive inTable => ?define, fun samples nonempty fits => ?data⟩⟩
  case outOfRange =>
    exact ⟨fun outOfRange => completes_of_takes_refuse ready (exec_streamDefine _ _)
        (takeStreamDefine_of_outOfRange outOfRange),
      fun outOfRange => completes_of_takes_refuse ready (exec_streamData _) (takeStreamData_of_outOfRange outOfRange)⟩
  case define =>
    have takes := takeStreamDefine_of_inRange (s := s) (h := h) named positive inTable
    refine ⟨fun taken => ?refused, fun empty unused => ?made⟩
    case refused =>
      rw [if_pos taken] at takes
      exact completes_of_takes_refuse ready (exec_streamDefine _ _) takes
    case made =>
      have free : ¬ ((s.slot n).state ≠ .empty ∨ ∃ m, (s.slot m).mode = some .stream) :=
        not_or.mpr ⟨not_not.mpr empty, not_exists.mpr unused⟩
      rw [if_neg free] at takes
      exact completes_of_takes_grant ready (exec_streamDefine _ _) takes rfl
  case data =>
    have takes := takeStreamData_of_inRange (s := s) (h := h) named nonempty fits
    refine ⟨fun rejects => ?rejected, fun accepts beyond => ?beyond,
      fun accepts within full => ?full, fun accepts within room => ?appended⟩
    case rejected =>
      rw [if_pos (mt acceptsData_iff.mp rejects)] at takes
      exact completes_of_takes_refuse ready (exec_streamData _) takes
    all_goals rw [if_neg (not_not.mpr (acceptsData_iff.mpr accepts))] at takes
    case beyond =>
      rw [if_pos beyond] at takes
      exact completes_of_takes_refuse ready (exec_streamData _) takes
    case full =>
      have noRoom : 1024 < s.clips.ring.length + samples.length := by omega
      rw [if_neg (Nat.not_lt.mpr within), if_pos noRoom] at takes
      exact completes_of_takes_refuse ready (exec_streamData _) takes
    case appended =>
      rw [if_neg (Nat.not_lt.mpr within), if_neg (Nat.not_lt.mpr room), appendRing_fill] at takes
      exact completes_of_takes_grant ready (exec_streamData _) takes rfl

end Sys2Proof.Machine

/-! SUPPORT. STATUS and FETCH (R177, R186): requests served beside one in progress, and the layouts of the STATUS reply
(R199) and of a notice record (R200). -/

namespace Sys2Proof.Machine

variable {s : State} {h : Header} {k : Kind} {take : State → State}

/-! ## Requests served beside one in progress -/

/-- A request of a kind that is served beside another is taken at once in every state that serves its header. -/
theorem request_of_serves (serves : s.Serves h) (beside : servedBeside k = true) : s.request h k take = take s := by
  obtain ⟨settled, -, ⟨broadcast, idle⟩ | ⟨addressed, station, room⟩⟩ := serves
  · exact request_of_ready ⟨settled, idle, .inl broadcast⟩
  · exact request_served_beside settled addressed station room beside

/-- A served request whose serving is a refusal completes with nothing changed. -/
theorem completes_of_serves_refuse {i : Instr} {r : Result} (serves : s.Serves h) (beside : servedBeside k = true)
    (meaning : exec i s = .next (s.request h k take)) (takes : take s = s.refuse h k r) :
    Completes i s h k.code [r.code] s := by
  rw [request_of_serves serves beside, takes] at meaning
  obtain ⟨-, keepsReplies, -⟩ := serves
  exact completes_of_refuse r meaning keepsReplies

/-- A served request whose serving is a reply of results on u completes with u, if the request in progress stays. -/
theorem completes_of_serves_grant {i : Instr} {u : State} {results : List Byte} (serves : s.Serves h)
    (beside : servedBeside k = true) (meaning : exec i s = .next (s.request h k take))
    (takes : take s = u.grantReply h k results) (progress : u.link.inProgress = s.link.inProgress) :
    Completes i s h k.code (Result.ok.code :: results) u := by
  rw [request_of_serves serves beside, takes] at meaning
  obtain ⟨-, keepsReplies, -⟩ := serves
  exact completes_of_grant results meaning ((discardsReplies_congr progress).trans keepsReplies)

/-! ## STATUS -/

theorem exec_status : exec (.status h) s = .next (s.request h .status (takeStatus h)) := rfl

theorem status_completes (serves : s.Serves h) : Completes (.status h) s h 0x01 (0x00 :: s.statusBytes) s :=
  completes_of_serves_grant serves rfl exec_status rfl rfl

@[simp] theorem length_bytes16 (w : Word16) : (bytes16 w).length = 2 := rfl

@[simp] theorem length_bytes32 (w : Word32) : (bytes32 w).length = 4 := rfl

@[simp] theorem length_legSet (f : LegId → Bool) : (legSet f).length = 3 := rfl

/-- The STATUS reply's 45 bytes less its result code (R199). -/
theorem length_statusBytes (s : State) : s.statusBytes.length = 44 := by
  simp [State.statusBytes, num16, allPatches]

/-! ## FETCH -/

theorem exec_fetch (max : Byte) : exec (.fetch h max) s = .next (s.request h .fetch (takeFetch h max)) := rfl

theorem takeFetch_of_outOfRange {max : Byte} (outOfRange : ¬ (1 ≤ max.toNat ∧ max.toNat ≤ 8)) :
    takeFetch h max s = s.refuse h .fetch .range :=
  if_neg outOfRange

theorem takeFetch_of_inRange {max : Byte} (inRange : 1 ≤ max.toNat ∧ max.toNat ≤ 8) :
    takeFetch h max s =
      (s.dropNotices max.toNat).grantReply h .fetch (fetchBytes (s.link.notices.take max.toNat) s.link.gap) :=
  if_pos inRange

/-- The results of FETCH for the oldest n notices: their count, their records, and the gap flag. -/
theorem fetchBytes_take (notices : List Notice) (gap : Bool) (n : Nat) :
    fetchBytes (notices.take n) gap =
      byte (min n notices.length) :: (notices.take n).flatMap Notice.bytes ++ [flagByte gap] := by
  rw [fetchBytes, counted, List.length_take]

theorem fetch_refused {max : Byte} (serves : s.Serves h) (outOfRange : ¬ (1 ≤ max.toNat ∧ max.toNat ≤ 8)) :
    Completes (.fetch h max) s h 0x02 [0x05] s :=
  completes_of_serves_refuse serves rfl (exec_fetch max) (takeFetch_of_outOfRange outOfRange)

theorem fetch_completes {max : Byte} (serves : s.Serves h) (inRange : 1 ≤ max.toNat ∧ max.toNat ≤ 8) :
    Completes (.fetch h max) s h 0x02
      (0x00 :: byte (min max.toNat s.link.notices.length) ::
        (s.link.notices.take max.toNat).flatMap Notice.bytes ++ [flagByte s.link.gap])
      (s.dropNotices max.toNat) := by
  have takes := takeFetch_of_inRange (s := s) (h := h) inRange
  rw [fetchBytes_take] at takes
  exact completes_of_serves_grant serves rfl (exec_fetch max) takes rfl

/-! ## The notice record -/

theorem Notice.length_bytes (n : Notice) : n.bytes.length = 13 := rfl

/-- Settles O10: the serving of both requests, then the two layouts, each split where the manual's table gives a field
by cases: the request in progress, and the leg, patch and detail of a notice. -/
theorem statusAndFetchAreServed : Obligations.StatusAndFetchAreServed := by
  refine ⟨fun h s serves => status_completes serves, fun s => ⟨?status, congrArg (· + 1) (length_statusBytes s)⟩,
    fun h max s serves => ⟨fetch_refused serves, fun low high => fetch_completes serves ⟨low, high⟩⟩,
    fun n => ⟨n.length_bytes, ?record⟩⟩
  case status =>
    unfold State.statusBytes
    cases s.link.inProgress with
    | none => rfl
    | some r => rfl
  case record =>
    obtain ⟨detail, stamp, leg, patch⟩ := n
    cases leg <;> cases patch
    all_goals cases detail with
    | carrier edge => cases edge <;> rfl
    | aux edge live => cases edge <;> rfl
    | transmit event => cases event <;> rfl
    | floor event clip => rfl
    | emergency set source => rfl
    | revoked agency => rfl
    | clip slot reason played => rfl

end Sys2Proof.Machine

/-! SUPPORT. What every command does before its own meaning: request rows are taken by R172 and R173, every other row
after what has fallen due (log 6). A property that these and the meanings keep is kept by every command. -/

namespace Sys2Proof.Machine

variable {s t : State} {h : Header} {k : Kind} {take : State → State}

/-! ## The taking of each row -/

/-- The header, kind and taking of a request row; none for the rows that are no request. -/
def taking : Instr → Option (Header × Kind × (State → State))
  | .status h => some (h, .status, takeStatus h)
  | .fetch h max => some (h, .fetch, takeFetch h max)
  | .resetAll h => some (h, .reset, takeResetAll h)
  | .resetPatches h => some (h, .reset, takeResetPatches h)
  | .events h => some (h, .events, takeEvents h)
  | .setLeg h a => some (h, .setLeg, takeSetLeg h a)
  | .park h leg => some (h, .park, takePark h leg)
  | .unpark h leg => some (h, .unpark, takeUnpark h leg)
  | .legq h leg => some (h, .legq, takeLegq h leg)
  | .agency h a => some (h, .agency, takeAgency h a)
  | .plan h first entries => some (h, .plan, takePlan h first entries)
  | .revoke h agency => some (h, .revoke, takeRevoke h agency)
  | .bind h a => some (h, .bind, takeBind h a)
  | .unbind h leg => some (h, .unbind, takeUnbind h leg)
  | .dirq h table first count => some (h, .dirq, takeDirq h table first count)
  | .openPatch h a => some (h, .openPatch, takeOpen h a)
  | .join h patch leg options => some (h, .join, takeJoin h patch leg options)
  | .leave h leg => some (h, .leave, takeLeave h leg)
  | .disband h first count options => some (h, .disband, takeDisband h first count options)
  | .access h patch list => some (h, .access, takeAccess h patch list)
  | .monitorOn h leg patch gain => some (h, .monitor, takeMonitorOn h leg patch gain)
  | .monitorOff h leg patch gain => some (h, .monitor, takeMonitorOff h leg patch gain)
  | .patchq h patch => some (h, .patchq, takePatchq h patch)
  | .talkPress h leg => some (h, .talk, takeTalk h leg pressTalk)
  | .talkRelease h leg => some (h, .talk, takeTalk h leg releaseTalk)
  | .seize h patch leg => some (h, .seize, takeSeize h patch leg)
  | .seizeClear h patch => some (h, .seize, takeSeizeClear h patch)
  | .floorq h patch => some (h, .floorq, takeFloorq h patch)
  | .declareOn h leg => some (h, .declare, takeDeclare h leg declareSet declareOnResults)
  | .declareOff h leg => some (h, .declare, takeDeclare h leg declareClear declareOffResults)
  | .routeq h patch => some (h, .routeq, takeRouteq h patch)
  | .loadDefine h slot length level => some (h, .load, takeLoadDefine h slot length level)
  | .loadWrite h slot offset samples => some (h, .load, takeLoadWrite h slot offset samples)
  | .loadRelease h slot => some (h, .load, takeLoadRelease h slot)
  | .streamDefine h slot length level => some (h, .stream, takeStreamDefine h slot length level)
  | .streamData h slot samples => some (h, .stream, takeStreamData h slot samples)
  | .play h slot patch mode priority repeats => some (h, .play, takePlay h slot patch mode priority repeats)
  | .halt h => some (h, .halt, takeHalt h)
  | .clipq h => some (h, .clipq, takeClipq h)
  | _ => none

/-- The taking of an event row other than POWER_ON, once nothing is due. -/
def happening : Instr → Option (State → State)
  | .resetLine address rate => some fun s => { s.resetBlocks with link := Link.afterReset address rate s.now }
  | .frameReceived => some fun s => s.takeByte delimiter
  | .byteReceived (.byte b) => some fun s => s.takeByte b
  | .byteReceived .lineError => some State.takeLineError
  | .replySent => some takeReplySent
  | .resetAllTakesPlace | .clipComplete | .cutToneEnd => some id
  | .carrierConditionChange l high => some fun s =>
      (s.modLeg l fun x => { x with inputs := { x.inputs with carrierHigh := high } }).conditionEvent l
  | .riseQualifyExpiry l => some (takeRiseExpiry l)
  | .dropQualifyExpiry l => some (takeDropExpiry l)
  | .barredDropExpiry l => some (takeBarredExpiry l)
  | .auxInputChange r high => some fun s =>
      (s.modLeg (radioLeg r) fun x => { x with inputs := { x.inputs with auxHigh := high } }).auxEvent (radioLeg r)
  | .auxRiseQualifyExpiry r => some (takeAuxRise (radioLeg r))
  | .auxDropQualifyExpiry r => some (takeAuxDrop (radioLeg r))
  | .leadTimerExpiry r => some (takeLeadExpiry (radioLeg r))
  | .tailTimerExpiry r => some (takeTailExpiry (radioLeg r))
  | .transmitTimeLimit r => some (takeTimeLimit (radioLeg r))
  | .lockoutExpiry r => some (takeLockoutExpiry (radioLeg r))
  | .confirmWindowExpiry r => some (takeConfirmExpiry (radioLeg r))
  | .hangExpiry p => some (takeHangExpiry p)
  | .talkLimitExpiry p => some (takeTalkLimit p)
  | .frameStart inbound order => some (takeFrameStart inbound order)
  | .frameDone beforeTick => some (takeFrameDone beforeTick)
  | _ => none

theorem exec_of_taking {i : Instr} (row : taking i = some (h, k, take)) (s : State) :
    exec i s = .next (s.request h k take) := by
  cases i <;> cases row <;> rfl

theorem handOver_of_taking {i : Instr} (row : taking i = some (h, k, take)) (s : State) :
    handOver i s = s.request h k take := by
  cases i <;> cases row <;> rfl

theorem exec_of_happening {i : Instr} {f : State → State} (row : happening i = some f) (s : State) :
    exec i s = .next (s.event f) := by
  cases i
  case byteReceived event => cases event <;> cases row <;> rfl
  all_goals cases row <;> rfl

/-- The rows that are requests are those that carry a header, kind and body. -/
theorem exists_taking {i : Instr} {body : List Byte} (row : i.asRequest = some (h, k, body)) :
    ∃ take, taking i = some (h, k, take) := by
  cases i <;> cases row <;> exact ⟨_, rfl⟩

/-- Every row is a request, an event, or POWER_ON. -/
theorem row_cases (i : Instr) : (∃ h k take, taking i = some (h, k, take)) ∨ (∃ f, happening i = some f) ∨
    ∃ address rate, i = .powerOn address rate := by
  cases i
  case powerOn address rate => exact .inr (.inr ⟨address, rate, rfl⟩)
  case byteReceived event => cases event <;> exact .inr (.inl ⟨_, rfl⟩)
  all_goals first | exact .inl ⟨_, _, _, rfl⟩ | exact .inr (.inl ⟨_, rfl⟩)

/-! ## What the taking of a request finds -/

/-- A request of kind k reaches its own taking: nothing is in progress, or it is served beside it, and for an addressed
one fewer than 4 replies wait (R172, R173). -/
def Admitted (s : State) (h : Header) (k : Kind) : Prop :=
  (s.link.inProgress = none ∨ (servedBeside k = true ∧ h.broadcast = false)) ∧
    (h.broadcast = true ∨ s.link.waiting.length < 4)

/-- A request is ignored, refused with BUSY while fewer than 4 replies wait, or admitted to its taking. -/
theorem request_split (s : State) (h : Header) (k : Kind) (take : State → State) :
    s.request h k take = s.settle ∨
      (s.settle.link.waiting.length < 4 ∧ s.request h k take = s.settle.refuse h k .busy) ∨
      (Admitted s.settle h k ∧ s.request h k take = take s.settle) := by
  unfold State.request Admitted
  dsimp only
  cases broadcast : h.broadcast with
  | true =>
    cases progress : s.settle.link.inProgress with
    | none => exact .inr (.inr ⟨⟨.inl rfl, .inl rfl⟩, rfl⟩)
    | some r => exact .inl rfl
  | false =>
    by_cases dropped : (!s.settle.hasStation || decide (Config.replyLimit ≤ s.settle.link.waiting.length)) = true
    · exact .inl (by simp [dropped])
    · have room : s.settle.link.waiting.length < 4 := Nat.lt_of_not_le fun full => dropped <| by
        rw [decide_eq_true (show Config.replyLimit ≤ s.settle.link.waiting.length from full), Bool.or_true]
      cases progress : s.settle.link.inProgress with
      | none => exact .inr (.inr ⟨⟨.inl rfl, .inr room⟩, by simp [dropped]⟩)
      | some r =>
        cases beside : servedBeside k with
        | false => exact .inr (.inl ⟨room, by simp [dropped]⟩)
        | true => exact .inr (.inr ⟨⟨.inr ⟨rfl, rfl⟩, .inr room⟩, by simp [dropped]⟩)

/-- A request keeps a property that settling, a refusal and its own taking keep. -/
theorem request_keeps {P : State → Prop} (settle : ∀ s, P s → P s.settle)
    (answer : ∀ s h code body, P s → s.link.waiting.length < 4 → P (s.answer h code body))
    (taken : ∀ s, P s → Admitted s h k → P (take s)) (holds : P s) : P (s.request h k take) := by
  obtain ignored | ⟨room, busy⟩ | ⟨admitted, takes⟩ := request_split s h k take
  · exact ignored ▸ settle s holds
  · exact busy ▸ answer _ _ _ _ (settle s holds) room
  · exact takes ▸ taken _ (settle s holds) admitted

/-! ## Frames from the line -/

theorem turnAway_keeps {P : State → Prop}
    (answer : ∀ s h code body, P s → s.link.waiting.length < 4 → P (s.answer h code body)) (code : Byte) (r : Result)
    (holds : P s) : P (s.turnAway h code r) := by
  unfold State.turnAway
  split
  · exact holds
  next taken =>
    refine answer _ _ _ _ holds (Nat.lt_of_not_le fun full => taken ?_)
    rw [decide_eq_true (show Config.replyLimit ≤ s.link.waiting.length from full), Bool.or_true]

/-- A command from the line is a request row, or nothing. -/
theorem handOver_keeps {P : State → Prop} (i : Instr)
    (request : ∀ h k take, taking i = some (h, k, take) → ∀ s, P s → P (s.request h k take)) (holds : P s) :
    P (handOver i s) := by
  obtain ⟨h, k, take, row⟩ | ⟨f, row⟩ | ⟨address, rate, rfl⟩ := row_cases i
  · exact handOver_of_taking row s ▸ request h k take row s holds
  · have none : handOver i s = s := by
      cases i
      case byteReceived event => rfl
      all_goals cases row <;> rfl
    exact none.symm ▸ holds
  · exact holds

/-- A refusal with RANGE keeps what replies keep. -/
theorem refuse_keeps {P : State → Prop}
    (answer : ∀ s h code body, P s → s.link.waiting.length < 4 → P (s.answer h code body)) (r : Result)
    (holds : P s) (admitted : Admitted s h k) : P (s.refuse h k r) := by
  obtain ⟨-, broadcast | room⟩ := admitted
  · have silent : s.refuse h k r = s := by simp [State.refuse, State.answer, broadcast]
    exact silent.symm ▸ holds
  · exact answer _ _ _ _ holds room

/-- A byte from the line keeps what the receiver, the replies and the requests keep. -/
theorem takeByte_keeps {P : State → Prop} (settle : ∀ s, P s → P s.settle)
    (answer : ∀ s h code body, P s → s.link.waiting.length < 4 → P (s.answer h code body))
    (receiver : ∀ s r, P s → P (s.setReceiver r))
    (request : ∀ i h k take, taking i = some (h, k, take) → ∀ s, P s → P (s.request h k take)) (b : Byte)
    (holds : P s) : P (s.takeByte b) := by
  have handled : ∀ (s : State) (h : Header) (code : Byte) (body : List Byte), P s → P (s.handleRequest h code body) := by
    intro s h code body holds
    unfold State.handleRequest
    split
    · exact turnAway_keeps answer _ _ holds
    · split
      · exact turnAway_keeps answer _ _ holds
      · exact request_keeps settle answer (fun s holds admitted => refuse_keeps answer _ holds admitted) holds
      · exact handOver_keeps _ (request _) holds
  have examined : ∀ (s : State) (content : List Byte), P s → P (s.examine content) := by
    intro s content holds
    unfold State.examine
    dsimp only
    split
    · exact holds
    split
    · exact holds
    split
    · split
      · exact handled _ _ _ _ holds
      · exact holds
    · exact holds
  unfold State.takeByte
  split
  · split
    · exact examined _ _ (receiver _ _ holds)
    · exact receiver _ _ holds
  · exact receiver _ _ holds

/-! ## Every command -/

/-- Whether a row hands a byte of the line to the receiver. -/
def fromLine : Instr → Bool
  | .frameReceived | .byteReceived _ => true
  | _ => false

/-- A reset of the whole part with nothing due before it. -/
abbrev resetWith (s : State) (k : Link) : State := { s.resetBlocks with link := k }

/-- A property is kept by every command when it is kept by what is due before a command, by replies, by the receiver, by
a reset of the whole part, by the taking of every request row that is admitted, and by every other row. -/
theorem exec_keeps {P : State → Prop} {i : Instr} (settle : ∀ s, P s → P s.settle)
    (answer : ∀ s h code body, P s → s.link.waiting.length < 4 → P (s.answer h code body))
    (receiver : ∀ s r, P s → P (s.setReceiver r))
    (reset : ∀ s address rate stamp, P s → P (resetWith s (Link.afterReset address rate stamp)))
    (taken : ∀ i h k take, taking i = some (h, k, take) → ∀ s, P s → Admitted s h k → P (take s))
    (happens : ∀ i f, happening i = some f → fromLine i = false → ∀ s, P s → P (f s))
    (holds : P s) (next : exec i s = .next t) : P t := by
  have request : ∀ i h k take, taking i = some (h, k, take) → ∀ s, P s → P (s.request h k take) :=
    fun i h k take row s holds => request_keeps settle answer (taken i h k take row) holds
  obtain ⟨h, k, take, row⟩ | ⟨f, row⟩ | ⟨address, rate, rfl⟩ := row_cases i
  · rw [exec_of_taking row] at next
    cases next
    exact request i h k take row s holds
  · rw [exec_of_happening row] at next
    cases next
    have settled := settle s holds
    cases line : fromLine i with
    | false => exact happens i f row line _ settled
    | true =>
      unfold fromLine at line
      split at line
      · cases row
        exact takeByte_keeps settle answer receiver request _ settled
      next event =>
        cases event <;> cases row
        · exact takeByte_keeps settle answer receiver request _ settled
        · exact receiver _ _ settled
      · cases line
  · cases next
    exact reset s address rate 0 holds

/-- A step keeps what every command keeps, of a property that does not look at the commands waiting. -/
theorem step_keeps {P : State → Prop} (queue : ∀ s rest, P s → P { s with pending := rest })
    (command : ∀ i s t, P s → exec i s = .next t → P t) (holds : P s) (next : step s = .next t) : P t := by
  unfold step at next
  split at next
  · cases next
    exact holds
  · exact command _ _ _ (queue _ _ holds) next

/-! ## The queue of commands -/

/-- Settles O1. -/
theorem stepTakesTheFrontCommand : Obligations.StepTakesTheFrontCommand := by
  intro c rest s front
  rw [step, front]

end Sys2Proof.Machine

/-! SUPPORT. No command touches the queue of commands waiting (log 2). -/

namespace Sys2Proof.Machine

variable {s : State} {h : Header} {k : Kind} {take : State → State}

/-! ## The effects of single requests -/

theorem pressTalk_pending (l : LegId) : (pressTalk l s).pending = s.pending :=
  claimChange_keeps s State.pending l _ (by simp) (by simp) (by simp)

theorem releaseTalk_pending (l : LegId) : (releaseTalk l s).pending = s.pending := by
  refine claimChange_keeps s State.pending l _ ?_ (by simp) (by simp)
  dsimp only
  (repeat' split) <;> simp

theorem takeTalk_pending {effect : LegId → State → State} (keeps : ∀ l s, (effect l s).pending = s.pending)
    (leg : Byte) : (takeTalk h leg effect s).pending = s.pending := by
  unfold takeTalk
  split
  · simp
  · split <;> simp [keeps]

theorem declareSet_pending (l : LegId) : (declareSet l s).pending = s.pending := by
  unfold declareSet
  split <;> simp

theorem declareClear_pending (l : LegId) : (declareClear l s).pending = s.pending := by
  unfold declareClear
  split <;> simp

theorem takeDeclare_pending {effect : LegId → State → State} (keeps : ∀ l s, (effect l s).pending = s.pending)
    (leg : Byte) (results : Leg → List Byte) : (takeDeclare h leg effect results s).pending = s.pending := by
  unfold takeDeclare
  split <;> simp [keeps]

theorem seizeLeg_pending (p : PatchId) (l : LegId) : (seizeLeg p l s).pending = s.pending := by
  unfold seizeLeg
  split <;> simp

theorem clearSeize_pending (p : PatchId) : (clearSeize p s).pending = s.pending := by
  unfold clearSeize
  dsimp only
  split
  · split <;> simp
  · rfl

theorem writeConfig_pending (l : LegId) (a : SetLegArgs) : (writeConfig l a s).pending = s.pending := by
  unfold writeConfig
  dsimp only
  split <;> simp

theorem parkLeg_pending (l : LegId) : (parkLeg l s).pending = s.pending := by
  unfold parkLeg
  dsimp only
  split <;> simp

theorem unparkLeg_pending (l : LegId) : (unparkLeg l s).pending = s.pending := by simp [unparkLeg]

theorem writePlans_pending (i : Nat) (es : List PlanArgs) : (writePlans s i es).pending = s.pending := by
  rw [writePlans_eq]

theorem joinLeg_pending (p : PatchId) (l : LegId) (b : Binding) (renewed : Bool) (e : EntryId) :
    (joinLeg p l b renewed e s).pending = s.pending := by
  unfold joinLeg
  cases renewed <;> simp [State.writeBinding]

theorem playOverlay_pending (n : SlotId) (p : PatchId) (priority repeats : Byte) :
    (playOverlay n p priority repeats s).pending = s.pending := by
  unfold playOverlay
  dsimp only
  rw [modSlot_pending, modContext_pending]
  exact List.foldlRecOn (motive := fun t : State => t.pending = s.pending) _ _ rfl fun t same l _ => by simp [same]

theorem playTake_pending (n : SlotId) (p : PatchId) (priority repeats : Byte) :
    (playTake n p priority repeats s).pending = s.pending := by simp [playTake]

theorem releaseSlot_pending (n : SlotId) : (releaseSlot n s).pending = s.pending := by
  unfold releaseSlot
  split <;> simp

theorem fillSlot_pending (n : SlotId) (length level : Nat) (blocks : List BlockId) :
    (fillSlot n length level blocks s).pending = s.pending := rfl

theorem writeSlot_pending (n : SlotId) (offset : Nat) (samples : List Sample) :
    (writeSlot n offset samples s).pending = s.pending := rfl

/-! ## The rows -/

/-- The taking of a request leaves the queue alone. -/
theorem taking_pending {i : Instr} (row : taking i = some (h, k, take)) (s : State) :
    (take s).pending = s.pending := by
  cases i <;> cases row
  case talkPress leg => exact takeTalk_pending (fun l s => pressTalk_pending l) leg
  case talkRelease leg => exact takeTalk_pending (fun l s => releaseTalk_pending l) leg
  case declareOn leg => exact takeDeclare_pending (fun l s => declareSet_pending l) leg _
  case declareOff leg => exact takeDeclare_pending (fun l s => declareClear_pending l) leg _
  case status => simp [takeStatus]
  case legq => unfold takeLegq; split <;> simp
  case clipq => simp [takeClipq]
  case fetch => unfold takeFetch; split <;> simp
  case resetAll => simp [takeResetAll]
  case resetPatches => unfold takeResetPatches; split <;> simp
  case events => unfold takeEvents; split <;> simp
  case setLeg => unfold takeSetLeg; (repeat' split) <;> simp [writeConfig_pending]
  case park => unfold takePark; (repeat' split) <;> simp [parkLeg_pending]
  case unpark => unfold takeUnpark; (repeat' split) <;> simp [unparkLeg_pending]
  case agency => unfold takeAgency; split <;> simp
  case plan => unfold takePlan; split <;> simp [writePlans_pending]
  case revoke => unfold takeRevoke; split <;> simp
  case bind => unfold takeBind bindFast bindFull State.writeBinding; (repeat' split) <;> simp
  case unbind => unfold takeUnbind unbindLeg; (repeat' split) <;> simp
  case dirq => unfold takeDirq; (repeat' split) <;> simp
  case openPatch => unfold takeOpen; (repeat' split) <;> simp
  case join => unfold takeJoin; (repeat' split) <;> simp [joinLeg_pending]
  case leave => unfold takeLeave; dsimp only; (repeat' split) <;> simp
  case disband => unfold takeDisband; split <;> simp
  case access => unfold takeAccess; (repeat' split) <;> simp
  case monitorOn => unfold takeMonitorOn State.setMonitorGain State.addMonitor; (repeat' split) <;> simp
  case monitorOff => unfold takeMonitorOff; dsimp only; (repeat' split) <;> simp
  case patchq => unfold takePatchq; split <;> simp
  case seize => unfold takeSeize; (repeat' split) <;> simp [seizeLeg_pending]
  case seizeClear => unfold takeSeizeClear; (repeat' split) <;> simp [clearSeize_pending]
  case floorq => unfold takeFloorq; split <;> simp
  case routeq => unfold takeRouteq; (repeat' split) <;> simp
  case loadDefine => unfold takeLoadDefine; dsimp only; (repeat' split) <;> simp [fillSlot_pending]
  case loadWrite => unfold takeLoadWrite; (repeat' split) <;> simp [writeSlot_pending]
  case loadRelease => unfold takeLoadRelease; (repeat' split) <;> simp [releaseSlot_pending]
  case streamDefine => unfold takeStreamDefine; (repeat' split) <;> simp
  case streamData => unfold takeStreamData; dsimp only; (repeat' split) <;> simp
  case play => unfold takePlay; dsimp only; (repeat' split) <;> simp [playOverlay_pending, playTake_pending]
  case halt => unfold takeHalt; dsimp only; split <;> simp

theorem compareVox_pending (inbound : Vector Block 20) (order : List LegId) :
    (s.compareVox inbound order).pending = s.pending := by
  unfold State.compareVox
  refine List.foldlRecOn (motive := fun t : State => t.pending = s.pending) _ _ (by simp [State.setPeaks]) ?_
  intro t same l _
  split <;> simp [same]

theorem takeReplySent_pending : (takeReplySent s).pending = s.pending := by
  unfold takeReplySent
  dsimp only
  split
  · rfl
  · split
    · split <;> simp
    · simp

/-- An event other than a byte of the line leaves the queue alone. -/
theorem happening_pending {i : Instr} {f : State → State} (row : happening i = some f) (own : fromLine i = false)
    (s : State) : (f s).pending = s.pending := by
  cases i
  case byteReceived event => cases own
  case frameReceived => cases own
  all_goals cases row
  case resetLine => dsimp only [State.resetBlocks]
  case replySent => exact takeReplySent_pending
  case frameStart =>
    unfold takeFrameStart
    split
    · rfl
    · rw [walkOn_pending, compareVox_pending, endBeforeTick_pending, beginFrame_eq]
      simp [State.tickTimers]
  case frameDone =>
    unfold takeFrameDone
    split <;> simp
  case riseQualifyExpiry => unfold takeRiseExpiry; dsimp only; split <;> simp
  case dropQualifyExpiry => unfold takeDropExpiry; dsimp only; split <;> simp
  case barredDropExpiry => unfold takeBarredExpiry; dsimp only; (repeat' split) <;> simp
  case auxRiseQualifyExpiry => unfold takeAuxRise; split <;> simp
  case auxDropQualifyExpiry => unfold takeAuxDrop; split <;> simp
  case leadTimerExpiry => unfold takeLeadExpiry; dsimp only; split <;> simp
  case tailTimerExpiry => unfold takeTailExpiry; dsimp only; split <;> simp
  case transmitTimeLimit => unfold takeTimeLimit; split <;> simp
  case lockoutExpiry => unfold takeLockoutExpiry; dsimp only; split <;> simp
  case confirmWindowExpiry => unfold takeConfirmExpiry; dsimp only; (repeat' split) <;> simp
  case hangExpiry => unfold takeHangExpiry; dsimp only; split <;> simp
  case talkLimitExpiry => unfold takeTalkLimit; dsimp only; (repeat' split) <;> simp
  all_goals simp

/-- Settles O2: every row answers, and what it takes leaves the queue alone. -/
theorem everyCommandAnswersANextState : Obligations.EveryCommandAnswersANextState := by
  intro i s
  obtain ⟨t, answers⟩ : ∃ t, exec i s = .next t := by
    obtain ⟨h, k, take, row⟩ | ⟨f, row⟩ | ⟨address, rate, rfl⟩ := row_cases i
    · exact ⟨_, exec_of_taking row s⟩
    · exact ⟨_, exec_of_happening row s⟩
    · exact ⟨_, rfl⟩
  refine ⟨t, answers, exec_keeps (P := fun u => u.pending = s.pending) ?settle ?answer ?receiver ?reset ?taken ?happens
    rfl answers⟩
  case settle => exact fun u same => by simp [same]
  case answer => exact fun u h code body same _ => by simp [same]
  case receiver => exact fun u r same => same
  case reset => exact fun u address rate stamp same => by rw [← same]; dsimp only [State.resetBlocks]
  case taken => exact fun i h k take row u same _ => (taking_pending row u).trans same
  case happens => exact fun i f row own u same => (happening_pending row own u).trans same

end Sys2Proof.Machine

/-! SUPPORT. What the numbers of a request name (R190), and the refusal of every value out of range. -/

namespace Sys2Proof.Machine

variable {s : State} {h : Header} {k : Kind} {take : State → State}

/-! ## The numbers of a request -/

theorem legOf_eq_some_iff {b : Byte} {l : LegId} : legOf b = some l ↔ b.toNat = l.val := by
  rw [legOf, Option.dite_none_right_eq_some]
  exact ⟨fun ⟨_, named⟩ => congrArg Fin.val (Option.some.inj named), fun named =>
    ⟨named ▸ l.isLt, congrArg some (Fin.ext named)⟩⟩

theorem agencyOf_eq_some_iff {b : Byte} {a : AgencyId} : agencyOf b = some a ↔ b.toNat = a.val := by
  rw [agencyOf, Option.dite_none_right_eq_some]
  exact ⟨fun ⟨_, named⟩ => congrArg Fin.val (Option.some.inj named), fun named =>
    ⟨named ▸ a.isLt, congrArg some (Fin.ext named)⟩⟩

theorem consoleOf_eq_some_iff {b : Byte} {l : LegId} : consoleOf b = some l ↔ b.toNat = l.val ∧ 16 ≤ l.val := by
  rw [consoleOf, Option.dite_none_right_eq_some]
  constructor
  · rintro ⟨⟨low, high⟩, named⟩
    have same : b.toNat = l.val := congrArg Fin.val (Option.some.inj named)
    exact ⟨same, same ▸ low⟩
  · rintro ⟨named, console⟩
    exact ⟨⟨named ▸ console, named ▸ l.isLt⟩, congrArg some (Fin.ext named)⟩

theorem patchOf_eq_some_iff {b : Byte} {p : PatchId} : patchOf b = some p ↔ b.toNat = p.val + 1 := by
  rw [patchOf, Option.dite_none_right_eq_some]
  constructor
  · rintro ⟨⟨low, high⟩, named⟩
    have same : b.toNat - 1 = p.val := congrArg Fin.val (Option.some.inj named)
    omega
  · intro named
    exact ⟨by omega, congrArg some (Fin.ext (by simp [named]))⟩

theorem legOf_eq_none_iff {b : Byte} : legOf b = none ↔ ¬ b.toNat ≤ 19 := by
  rw [legOf, dite_eq_right_iff]
  simp only [reduceCtorEq, imp_false]
  omega

theorem agencyOf_eq_none_iff {b : Byte} : agencyOf b = none ↔ ¬ b.toNat ≤ 31 := by
  rw [agencyOf, dite_eq_right_iff]
  simp only [reduceCtorEq, imp_false]
  omega

theorem slotOf_eq_none_iff {b : Byte} : slotOf b = none ↔ ¬ b.toNat ≤ 7 := by
  rw [slotOf, dite_eq_right_iff]
  simp only [reduceCtorEq, imp_false]
  omega

theorem patchOf_eq_none_iff {b : Byte} : patchOf b = none ↔ ¬ inPatches b := by
  rw [patchOf, dite_eq_right_iff]
  simp only [reduceCtorEq, imp_false]
  rfl

theorem consoleOf_eq_none_iff {b : Byte} : consoleOf b = none ↔ ¬ inConsoles b := by
  rw [consoleOf, dite_eq_right_iff, inConsoles]
  simp only [reduceCtorEq, imp_false]
  omega

theorem isCharacter_iff (b : Byte) : isCharacter b = true ↔ inText b := by
  simp [isCharacter, inText]

theorem fieldsInRange_iff (h : Header) (a : SetLegArgs) (leg : a.leg.toNat ≤ 19) :
    fieldsInRange a = true ↔ ArgumentsInRange (.setLeg h a) := by
  simp only [fieldsInRange, ArgumentsInRange, Bool.and_eq_true, decide_eq_true_eq, isChoice_iff, onStep_iff, and_assoc,
    leg, true_and]

theorem agencyInRange_iff (h : Header) (a : AgencyArgs) (agency : a.agency.toNat ≤ 31) :
    agencyInRange a = true ↔ ArgumentsInRange (.agency h a) := by
  simp only [agencyInRange, ArgumentsInRange, Bool.and_eq_true, decide_eq_true_eq, isChoice_iff, List.all_eq_true,
    isCharacter_iff, and_assoc, agency, true_and]

theorem openInRange_iff (h : Header) (a : OpenArgs) (patch : a.patch.toNat ≤ 12) :
    openInRange a = true ↔ ArgumentsInRange (.openPatch h a) := by
  simp only [openInRange, accessInRange, ArgumentsInRange, Bool.and_eq_true, decide_eq_true_eq, isChoice_iff,
    List.all_eq_true, isCharacter_iff, onStep_iff, timeLimit_inRange_iff, and_assoc, patch, true_and]

theorem priorityInRange_iff (b : Byte) : priorityInRange b = true ↔ b.toNat ≤ 14 ∨ b.toNat = 255 := by
  simp [priorityInRange, BitVec.toNat_eq]

/-! ## Values out of range -/

theorem takeSetLeg_of_outOfRange {a : SetLegArgs} (outOfRange : ¬ ArgumentsInRange (.setLeg h a)) :
    takeSetLeg h a s = s.refuse h .setLeg .range := by
  unfold takeSetLeg
  split
  next l named fields =>
    exact absurd ((fieldsInRange_iff h a (by rw [legOf_eq_some_iff.mp named]; omega)).mp fields) outOfRange
  · rfl

theorem takePark_of_outOfRange {leg : Byte} (outOfRange : ¬ leg.toNat ≤ 19) :
    takePark h leg s = s.refuse h .park .range := by
  rw [takePark, legOf_eq_none_iff.mpr outOfRange]

theorem takeUnpark_of_outOfRange {leg : Byte} (outOfRange : ¬ leg.toNat ≤ 19) :
    takeUnpark h leg s = s.refuse h .unpark .range := by
  rw [takeUnpark, legOf_eq_none_iff.mpr outOfRange]

theorem takeLegq_of_outOfRange {leg : Byte} (outOfRange : ¬ leg.toNat ≤ 19) :
    takeLegq h leg s = s.refuse h .legq .range := by
  rw [takeLegq, legOf_eq_none_iff.mpr outOfRange]

theorem takeUnbind_of_outOfRange {leg : Byte} (outOfRange : ¬ leg.toNat ≤ 19) :
    takeUnbind h leg s = s.refuse h .unbind .range := by
  rw [takeUnbind, legOf_eq_none_iff.mpr outOfRange]

theorem takeLeave_of_outOfRange {leg : Byte} (outOfRange : ¬ leg.toNat ≤ 19) :
    takeLeave h leg s = s.refuse h .leave .range := by
  rw [takeLeave, legOf_eq_none_iff.mpr outOfRange]

theorem takeDeclare_of_outOfRange {leg : Byte} {effect : LegId → State → State} {results : Leg → List Byte}
    (outOfRange : ¬ leg.toNat ≤ 19) : takeDeclare h leg effect results s = s.refuse h .declare .range := by
  rw [takeDeclare, legOf_eq_none_iff.mpr outOfRange]

theorem takeAgency_of_outOfRange {a : AgencyArgs} (outOfRange : ¬ ArgumentsInRange (.agency h a)) :
    takeAgency h a s = s.refuse h .agency .range := by
  unfold takeAgency
  split
  next n named fields =>
    exact absurd ((agencyInRange_iff h a (by rw [agencyOf_eq_some_iff.mp named]; omega)).mp fields) outOfRange
  · rfl

theorem takeRevoke_of_outOfRange {agency : Byte} (outOfRange : ¬ agency.toNat ≤ 31) :
    takeRevoke h agency s = s.refuse h .revoke .range := by
  rw [takeRevoke, agencyOf_eq_none_iff.mpr outOfRange]

theorem takeBind_of_outOfRange {a : BindArgs} (outOfRange : ¬ ArgumentsInRange (.bind h a)) :
    takeBind h a s = s.refuse h .bind .range := by
  unfold takeBind
  split
  next l n leg agency fields =>
    rw [Bool.and_eq_true, decide_eq_true_eq, priorityInRange_iff] at fields
    have legs := legOf_eq_some_iff.mp leg
    have agencies := agencyOf_eq_some_iff.mp agency
    exact absurd ⟨by omega, by omega, by omega, fields.2⟩ outOfRange
  · rfl

theorem takeDirq_of_outOfRange {table first count : Byte} (outOfRange : ¬ ArgumentsInRange (.dirq h table first count)) :
    takeDirq h table first count s = s.refuse h .dirq .range := by
  refine if_neg fun fields => outOfRange ?_
  simp only [Bool.and_eq_true, decide_eq_true_eq, isChoice_iff] at fields
  obtain ⟨⟨⟨choice, low⟩, high⟩, within⟩ := fields
  refine ⟨choice, low, high, ?_⟩
  by_cases agencies : table = 0
  · subst agencies
    simpa [Machine.choice] using within
  · have plans : table = 1 := by
      have : table.toNat ≠ 0 := fun zero => agencies (BitVec.eq_of_toNat_eq zero)
      exact BitVec.eq_of_toNat_eq (show table.toNat = 1 by omega)
    subst plans
    simpa [Machine.choice] using within

theorem takeOpen_of_outOfRange {a : OpenArgs} (outOfRange : ¬ ArgumentsInRange (.openPatch h a)) :
    takeOpen h a s = s.refuse h .openPatch .range := by
  refine if_neg fun fields => outOfRange ?_
  rw [Bool.and_eq_true, decide_eq_true_eq] at fields
  exact (openInRange_iff h a fields.1).mp fields.2

theorem takeJoin_of_outOfRange {patch leg options : Byte} (outOfRange : ¬ (inPatches patch ∧ leg.toNat ≤ 19)) :
    takeJoin h patch leg options s = s.refuse h .join .range := by
  unfold takeJoin
  split
  next p l patches legs =>
    rw [patchOf_eq_some_iff] at patches
    rw [legOf_eq_some_iff] at legs
    exact absurd ⟨⟨by omega, by omega⟩, by omega⟩ outOfRange
  · rfl

theorem takeDisband_of_outOfRange {first count options : Byte}
    (outOfRange : ¬ ArgumentsInRange (.disband h first count options)) :
    takeDisband h first count options s = s.refuse h .disband .range :=
  if_neg fun ⟨low, nonempty, high⟩ => outOfRange ⟨low, nonempty, by omega⟩

theorem takeAccess_of_outOfRange {patch : Byte} {list : AccessArgs}
    (outOfRange : ¬ (inPatches patch ∧ list.all.toNat ≤ 1)) : takeAccess h patch list s = s.refuse h .access .range := by
  unfold takeAccess
  split
  next p patches fields =>
    rw [patchOf_eq_some_iff] at patches
    exact absurd ⟨⟨by omega, by omega⟩, (isChoice_iff _).mp fields⟩ outOfRange
  · rfl

theorem takeMonitorOn_of_outOfRange {leg patch gain : Byte}
    (outOfRange : ¬ (inConsoles leg ∧ inPatches patch ∧ gain.toNat ≤ 15)) :
    takeMonitorOn h leg patch gain s = s.refuse h .monitor .range := by
  unfold takeMonitorOn
  split
  next l p legs patches fields =>
    rw [patchOf_eq_some_iff] at patches
    rw [consoleOf_eq_some_iff] at legs
    exact absurd ⟨⟨by omega, by omega⟩, ⟨by omega, by omega⟩, of_decide_eq_true fields⟩ outOfRange
  · rfl

theorem takeMonitorOff_of_outOfRange {leg patch gain : Byte}
    (outOfRange : ¬ (inConsoles leg ∧ inPatches patch ∧ gain.toNat ≤ 15)) :
    takeMonitorOff h leg patch gain s = s.refuse h .monitor .range := by
  unfold takeMonitorOff
  split
  next l p legs patches fields =>
    rw [patchOf_eq_some_iff] at patches
    rw [consoleOf_eq_some_iff] at legs
    exact absurd ⟨⟨by omega, by omega⟩, ⟨by omega, by omega⟩, of_decide_eq_true fields⟩ outOfRange
  · rfl

theorem takePatchq_of_outOfRange {patch : Byte} (outOfRange : ¬ inPatches patch) :
    takePatchq h patch s = s.refuse h .patchq .range := by
  rw [takePatchq, patchOf_eq_none_iff.mpr outOfRange]

theorem takeFloorq_of_outOfRange {patch : Byte} (outOfRange : ¬ inPatches patch) :
    takeFloorq h patch s = s.refuse h .floorq .range := by
  rw [takeFloorq, patchOf_eq_none_iff.mpr outOfRange]

theorem takeSeizeClear_of_outOfRange {patch : Byte} (outOfRange : ¬ inPatches patch) :
    takeSeizeClear h patch s = s.refuse h .seize .range := by
  rw [takeSeizeClear, patchOf_eq_none_iff.mpr outOfRange]

theorem takeRouteq_of_outOfRange {patch : Byte} (outOfRange : ¬ patch.toNat ≤ 12) :
    takeRouteq h patch s = s.refuse h .routeq .range := by
  have one : patch ≠ 0 := fun zero => outOfRange (by simp [zero])
  rw [takeRouteq, if_neg one, patchOf_eq_none_iff.mpr fun patches => outOfRange patches.2]

theorem takeTalk_of_outOfRange {leg : Byte} {effect : LegId → State → State} (outOfRange : ¬ inConsoles leg) :
    takeTalk h leg effect s = s.refuse h .talk .range := by
  rw [takeTalk, consoleOf_eq_none_iff.mpr outOfRange]

theorem takeSeize_of_outOfRange {patch leg : Byte} (outOfRange : ¬ (inPatches patch ∧ leg.toNat ≤ 19)) :
    takeSeize h patch leg s = s.refuse h .seize .range := by
  unfold takeSeize
  split
  next p l patches legs =>
    rw [patchOf_eq_some_iff] at patches
    rw [legOf_eq_some_iff] at legs
    exact absurd ⟨⟨by omega, by omega⟩, by omega⟩ outOfRange
  · rfl

theorem takeLoadDefine_of_outOfRange {slot level : Byte} {length : Word32}
    (outOfRange : ¬ ArgumentsInRange (.loadDefine h slot length level)) :
    takeLoadDefine h slot length level s = s.refuse h .load .range := by
  unfold takeLoadDefine
  split
  next n named fields =>
    simp only [Bool.and_eq_true, decide_eq_true_eq] at fields
    obtain ⟨⟨low, high⟩, levels⟩ := fields
    exact absurd ⟨slot_le_of_slotOf named, low, high, levels⟩ outOfRange
  · rfl

theorem takeLoadWrite_of_outOfRange {slot : Byte} {offset : Word32} {samples : List Sample}
    (outOfRange : ¬ ArgumentsInRange (.loadWrite h slot offset samples)) :
    takeLoadWrite h slot offset samples s = s.refuse h .load .range := by
  unfold takeLoadWrite
  split
  next n named fields =>
    simp only [Bool.and_eq_true, decide_eq_true_eq] at fields
    obtain ⟨⟨low, high⟩, offsets⟩ := fields
    exact absurd ⟨slot_le_of_slotOf named, offsets, low, high⟩ outOfRange
  · rfl

theorem takeLoadRelease_of_outOfRange {slot : Byte} (outOfRange : ¬ slot.toNat ≤ 7) :
    takeLoadRelease h slot s = s.refuse h .load .range := by
  rw [takeLoadRelease, slotOf_eq_none_iff.mpr outOfRange]

theorem takePlay_of_outOfRange {slot patch mode priority repeats : Byte}
    (outOfRange : ¬ ArgumentsInRange (.play h slot patch mode priority repeats)) :
    takePlay h slot patch mode priority repeats s = s.refuse h .play .range := by
  unfold takePlay
  split
  next n p named patches fields =>
    rw [patchOf_eq_some_iff] at patches
    simp only [Bool.and_eq_true, decide_eq_true_eq, isChoice_iff] at fields
    exact absurd ⟨slot_le_of_slotOf named, ⟨by omega, by omega⟩, fields.1, fields.2⟩ outOfRange
  · rfl

/-- The taking of every request row refuses a value out of range with RANGE (R190). -/
theorem taking_of_outOfRange {i : Instr} (row : taking i = some (h, k, take)) (outOfRange : ¬ ArgumentsInRange i)
    (s : State) : take s = s.refuse h k .range := by
  cases i <;> cases row
  case fetch => exact takeFetch_of_outOfRange outOfRange
  case setLeg => exact takeSetLeg_of_outOfRange outOfRange
  case park => exact takePark_of_outOfRange outOfRange
  case unpark => exact takeUnpark_of_outOfRange outOfRange
  case legq => exact takeLegq_of_outOfRange outOfRange
  case agency => exact takeAgency_of_outOfRange outOfRange
  case plan => exact takePlan_of_outOfRange outOfRange
  case revoke => exact takeRevoke_of_outOfRange outOfRange
  case bind => exact takeBind_of_outOfRange outOfRange
  case unbind => exact takeUnbind_of_outOfRange outOfRange
  case dirq => exact takeDirq_of_outOfRange outOfRange
  case openPatch => exact takeOpen_of_outOfRange outOfRange
  case join => exact takeJoin_of_outOfRange outOfRange
  case leave => exact takeLeave_of_outOfRange outOfRange
  case disband => exact takeDisband_of_outOfRange outOfRange
  case access => exact takeAccess_of_outOfRange outOfRange
  case monitorOn => exact takeMonitorOn_of_outOfRange outOfRange
  case monitorOff => exact takeMonitorOff_of_outOfRange outOfRange
  case patchq => exact takePatchq_of_outOfRange outOfRange
  case talkPress | talkRelease => exact takeTalk_of_outOfRange outOfRange
  case seize => exact takeSeize_of_outOfRange outOfRange
  case seizeClear => exact takeSeizeClear_of_outOfRange outOfRange
  case floorq => exact takeFloorq_of_outOfRange outOfRange
  case declareOn | declareOff => exact takeDeclare_of_outOfRange outOfRange
  case routeq => exact takeRouteq_of_outOfRange outOfRange
  case loadDefine => exact takeLoadDefine_of_outOfRange outOfRange
  case loadWrite => exact takeLoadWrite_of_outOfRange outOfRange
  case loadRelease => exact takeLoadRelease_of_outOfRange outOfRange
  case streamDefine => exact takeStreamDefine_of_outOfRange outOfRange
  case streamData => exact takeStreamData_of_outOfRange outOfRange
  case play => exact takePlay_of_outOfRange outOfRange
  all_goals exact absurd trivial outOfRange

/-- Settles O8: the refusal by the taking of each row, as the request completes with it. -/
theorem outOfRangeIsRefused : Obligations.OutOfRangeIsRefused := by
  intro i h k body s request outOfRange ready
  obtain ⟨take, row⟩ := exists_taking request
  exact completes_of_takes_refuse ready (exec_of_taking row s) (taking_of_outOfRange row outOfRange s)

/-! ## Requests turned away -/

theorem exec_busy {i : Instr} (row : taking i = some (h, k, take)) (beside : servedBeside k = false)
    (addressed : h.broadcast = false) (settled : s.Settled) (admits : s.Admits)
    (progress : s.link.inProgress.isSome = true) : exec i s = .next (s.refuse h k .busy) := by
  rw [exec_of_taking row, request_of_busy settled addressed admits.1 admits.2 progress beside]

/-- Settles O7: BUSY is the one reply of a request behind another, unless it is discarded; dropped and ignored requests
leave the state as it is. -/
theorem requestsTurnedAway : Obligations.RequestsTurnedAway := by
  refine ⟨fun i h k body s request notStatus notFetch addressed settled admits progress => ?busy,
    fun i h k body s request settled away => ?away⟩
  case busy =>
    obtain ⟨take, row⟩ := exists_taking request
    have beside : servedBeside k = false := by cases k <;> first | rfl | contradiction
    have busy := exec_busy row beside addressed settled admits progress
    refine ⟨fun kept => completes_of_refuse .busy busy kept, fun discarded => busy.trans ?_⟩
    simp [State.refuse, State.answer, discarded]
  case away =>
    obtain ⟨take, row⟩ := exists_taking request
    rw [exec_of_taking row]
    obtain ⟨addressed, noStation | noStation | full⟩ | ⟨broadcast, progress⟩ := away
    · rw [request_dropped settled addressed (.inl (by simp [State.hasStation, noStation]))]
    · rw [request_dropped settled addressed (.inl (by simp [State.hasStation, noStation]))]
    · rw [request_dropped settled addressed (.inr full)]
    · rw [request_broadcast_ignored settled broadcast progress]

end Sys2Proof.Machine

/-! SUPPORT. The queries (R26, R46, R74, R108, R141, R163), EVENTS (R27), AGENCY (R36), translation (R34), OPEN and ACCESS
(R56, R70), the order of a floor queue (R78), and the laws in the state after power-on. -/

namespace Sys2Proof.Machine

variable {s : State} {h : Header} {k : Kind} {take : State → State}

/-! ## Completion through a row -/

/-- A request row whose taking is a refusal completes with nothing changed. -/
theorem row_refuses {i : Instr} {r : Result} (ready : s.Ready h) (row : taking i = some (h, k, take))
    (takes : take s = s.refuse h k r) : Completes i s h k.code [r.code] s :=
  completes_of_takes_refuse ready (exec_of_taking row s) takes

/-- A request row whose taking is a reply on u completes with u. -/
theorem row_grants {i : Instr} {u : State} {results : List Byte} (ready : s.Ready h)
    (row : taking i = some (h, k, take)) (takes : take s = u.grantReply h k results)
    (progress : u.link.inProgress = none) : Completes i s h k.code (Result.ok.code :: results) u := by
  have run := exec_of_taking row s
  rw [request_of_ready ready, takes] at run
  exact completes_of_grant results run (discardsReplies_of_idle progress)

theorem Ready.idle (ready : s.Ready h) : s.link.inProgress = none := ready.2.1

/-! ## The queries -/

theorem takeLegq_of_leg {leg : Byte} {l : LegId} (named : leg.toNat = l.val) :
    takeLegq h leg s = s.grantReply h .legq (legqBytes l (s.leg l)) := by
  rw [takeLegq, legOf_eq_some_iff.mpr named]

/-- DIRQ in range is answered with its entries behind their count (R46). -/
theorem takeDirq_of_inRange {table first count : Byte} (inRange : ArgumentsInRange (.dirq h table first count)) :
    takeDirq h table first count s =
      s.grantReply h .dirq (dirqBytes s (choice table) first.toNat count.toNat) := by
  obtain ⟨tables, low, high, within⟩ := inRange
  refine if_pos ?_
  simp only [Bool.and_eq_true, decide_eq_true_eq, isChoice_iff]
  refine ⟨⟨⟨tables, low⟩, high⟩, ?_⟩
  by_cases agencies : table = 0
  · subst agencies
    simpa [choice] using within
  · have plans : table = 1 := by
      have : table.toNat ≠ 0 := fun zero => agencies (BitVec.eq_of_toNat_eq zero)
      exact BitVec.eq_of_toNat_eq (show table.toNat = 1 by omega)
    subst plans
    simpa [choice] using within

theorem takePatchq_of_patch {patch : Byte} {p : PatchId} (named : patch.toNat = p.val + 1) :
    takePatchq h patch s = s.grantReply h .patchq (s.patchqBytes p) := by
  rw [takePatchq, patchOf_eq_some_iff.mpr named]

theorem takeFloorq_of_patch {patch : Byte} {p : PatchId} (named : patch.toNat = p.val + 1) :
    takeFloorq h patch s = s.grantReply h .floorq (s.patch p).floor.bytes := by
  rw [takeFloorq, patchOf_eq_some_iff.mpr named]

theorem takeRouteq_of_patch {patch : Byte} {p : PatchId} (named : patch.toNat = p.val + 1) :
    takeRouteq h patch s = s.grantReply h .routeq (s.chainBytes p) := by
  have one : patch ≠ 0 := by
    rintro rfl
    simp at named
  rw [takeRouteq, if_neg one, patchOf_eq_some_iff.mpr named]

theorem dirqBytes_eq (plans : Bool) (first : Nat) (count : Byte) :
    dirqBytes s plans first count.toNat = count :: (List.range count.toNat).flatMap fun j =>
      if plans then s.planBytes (Fin.ofNat 256 (first + j)) else s.agencyBytes (Fin.ofNat 32 (first + j)) := by
  simp [dirqBytes, counted, byte]

theorem legByte_eq (l : Option LegId) : legByte l = match l with | some m => byte m.val | none => 255 := by
  cases l <;> rfl

theorem patchByte_eq (p : Option PatchId) : patchByte p = match p with | some q => byte (q.val + 1) | none => 0 := by
  cases p <;> rfl

theorem entryByte_eq (e : Option EntryId) : entryByte e = match e with | some f => byte f.val | none => 255 := by
  cases e <;> rfl

theorem sourceByte_eq (e : Option EmergencySource) :
    sourceByte e = match e with | none => 0 | some .aux => 1 | some .declare => 2 := by
  obtain _ | _ | _ := e <;> rfl

theorem reasonByte_eq (r : Option EndReason) : reasonByte r = match r with
    | none => 0 | some .complete => 1 | some .underrun => 2 | some .halted => 3 | some .preempted => 4
    | some .disbanded => 5 | some .reset => 6 := by
  obtain _ | _ | _ | _ | _ | _ | _ := r <;> rfl

theorem claimBytes_eq : Claim.bytes = fun c => [partyByte (some c.party), byte c.priority] ++ bytes32 c.time.stamp ++
    [flagByte c.marker.isSome] ++ bytes32 (match c.marker with | some t => t.stamp | none => 0) := by
  funext c
  rw [Claim.bytes]
  cases c.marker <;> rfl

/-- Settles O9: each query's taking is its reply; the layouts are those of the statement, field by field, where a field
is given by cases the cases of its value. -/
theorem queriesOnlyReply : Obligations.QueriesOnlyReply := by
  refine ⟨fun h s ready => ⟨fun leg l named => ?legq, fun first count low high within => ?agencies,
    fun first count low high within => ?plans, fun patch p named => ⟨?patchq, ?floorq, ?routeq⟩, ?pool, ?clipq⟩,
    fun s l a i p => ⟨?leg, rfl, rfl, ?floor, ?patch, ?chain, ?entries, ?clips⟩⟩
  case legq => exact row_grants ready rfl (takeLegq_of_leg named) (Ready.idle ready)
  case agencies =>
    have takes := takeDirq_of_inRange (s := s) (h := h) (table := 0) (first := first) (count := count)
      ⟨by simp, low, high, within⟩
    rw [dirqBytes_eq] at takes
    exact row_grants ready rfl takes (Ready.idle ready)
  case plans =>
    have takes := takeDirq_of_inRange (s := s) (h := h) (table := 1) (first := first) (count := count)
      ⟨by simp, low, high, within⟩
    rw [dirqBytes_eq] at takes
    exact row_grants ready rfl takes (Ready.idle ready)
  case patchq => exact row_grants ready rfl (takePatchq_of_patch named) (Ready.idle ready)
  case floorq => exact row_grants ready rfl (takeFloorq_of_patch named) (Ready.idle ready)
  case routeq => exact row_grants ready rfl (takeRouteq_of_patch named) (Ready.idle ready)
  case pool =>
    have takes : takeRouteq h 0 s = s.grantReply h .routeq s.poolBytes := if_pos rfl
    exact row_grants ready rfl takes (Ready.idle ready)
  case clipq =>
    have takes : takeClipq h s = s.grantReply h .clipq s.clipqBytes := rfl
    exact row_grants ready rfl takes (Ready.idle ready)
  case leg =>
    have side : flagByte (!isRadio l) = if l.val < 16 then 0 else 1 := by
      by_cases radio : l.val < 16 <;> simp [flagByte, isRadio, radio]
    simp only [legqBytes, LegConfig.bytes, EventFlags.bytes, side, patchByte_eq, sourceByte_eq, List.append_assoc,
      List.cons_append, List.nil_append]
    cases (s.leg l).binding <;> rfl
  case floor =>
    simp only [Floor.bytes, counted, claimBytes_eq, legByte_eq]
    rfl
  case patch =>
    simp only [State.patchqBytes, counted, entryByte_eq, List.append_assoc, List.cons_append, List.nil_append]
    rfl
  case chain =>
    simp only [State.chainBytes, legByte_eq]
    rfl
  case entries =>
    simp only [State.poolBytes, legByte_eq, patchByte_eq]
    rfl
  case clips =>
    have streams : s.streamSlot.elim 255 (fun n => byte n.val) = (match s.streamSlot with
        | some n => byte n.val | none => 255) := by
      cases s.streamSlot <;> rfl
    simp only [State.clipqBytes, streams, patchByte_eq, reasonByte_eq, List.append_assoc, List.cons_append,
      List.nil_append]
    rfl

/-! ## EVENTS -/

/-- Settles O11: the search finds the lowest leg with a flag set, or none. -/
theorem eventsTakesTheLowestFlaggedLeg : Obligations.EventsTakesTheLowestFlaggedLeg := by
  refine fun h s ready => ⟨fun l flagged lowest => ?found, fun clear => ?none⟩
  case found =>
    have finds : (allLegs.find? fun m => (s.leg m).flags.any) = some l := by
      refine List.find?_eq_some_iff_getElem.mpr ⟨flagged, l.val, by simp [allLegs], by simp [allLegs], fun j before => ?_⟩
      simpa [allLegs] using lowest ⟨j, by omega⟩ before
    have takes : takeEvents h s = (s.modLeg l fun x => { x with flags := {} }).grantReply h .events
        (eventsBytes (some (l, (s.leg l).flags))) := by
      rw [takeEvents, finds]
    exact row_grants ready rfl takes (Ready.idle ready)
  case none =>
    have finds : (allLegs.find? fun m => (s.leg m).flags.any) = none := by simp [clear]
    have takes : takeEvents h s = s.grantReply h .events (eventsBytes none) := by rw [takeEvents, finds]
    exact row_grants ready rfl takes (Ready.idle ready)

/-! ## AGENCY -/

theorem takeAgency_of_inRange {a : AgencyArgs} {n : AgencyId} (named : a.agency.toNat = n.val)
    (inRange : ArgumentsInRange (.agency h a)) :
    takeAgency h a s = (s.modAgency n (Agency.written a)).grantReply h .agency [(s.agency n).generation + 1] := by
  rw [takeAgency, agencyOf_eq_some_iff.mpr named, (agencyInRange_iff h a inRange.1).mpr inRange]
  simp [Agency.written, Agency.bumped]

/-- Settles O25. -/
theorem agencyWritesAndCounts : Obligations.AgencyWritesAndCounts := by
  refine fun h a s ready => ⟨fun outOfRange => row_refuses ready rfl (takeAgency_of_outOfRange outOfRange),
    fun inRange n named => ?_⟩
  exact row_grants ready rfl (takeAgency_of_inRange named inRange) (Ready.idle ready)

/-! ## Translation -/

/-- A translation past its checks of the agency's validity and generation (R34). -/
theorem translate_of_current {a : AgencyId} (valid : (s.agency a).valid = true) (channel : Nat) {expected : Option Byte}
    (seen : ∀ g, expected = some g → g = (s.agency a).generation) (priority : Option Nat) :
    s.translate a channel expected priority =
      if (s.agency a).count ≤ channel then .refused .channelRange
      else
        let e := s.planEntry (Fin.ofNat 256 ((s.agency a).planIndex channel))
        if e.valid = false then .refused .planInvalid
        else if e.agency ≠ a then .refused .planMismatch
        else if priority.any (e.ceiling < ·) then .refused .priority
        else .found e := by
  have current : expected.any (· != (s.agency a).generation) = false := by
    cases expected with
    | none => rfl
    | some g => simp [seen g rfl]
  simp [State.translate, valid, current]

/-- Settles O27: the checks in the order in which `State.translate` makes them. -/
theorem translationChecksInOrder : Obligations.TranslationChecksInOrder := by
  intro s a channel expected priority i below
  refine ⟨fun invalid => translate_of_invalid invalid _ _ _, fun valid stale => ?stale, fun valid seen =>
    ⟨fun beyond => ?beyond, fun within sum => ?entry⟩⟩
  case stale =>
    obtain ⟨g, rfl, other⟩ := stale
    simp [State.translate, valid, other]
  case beyond => rw [translate_of_current valid channel seen, if_pos beyond]
  case entry =>
    have entry : Fin.ofNat 256 ((s.agency a).planIndex channel) = i :=
      Fin.ext (by simp [Agency.planIndex, sum, Nat.mod_eq_of_lt i.isLt])
    rw [translate_of_current valid channel seen, if_neg (Nat.not_le.mpr within), entry]
    refine ⟨fun planInvalid => if_pos planInvalid, fun planValid other => ?_, fun planValid same =>
      ⟨fun ⟨n, asked, above⟩ => ?_, fun allowed => ?_⟩⟩
    · simp [planValid, other]
    · simp [planValid, same, asked, above]
    · cases priority with
      | none => simp [planValid, same]
      | some n => simp [planValid, same, Nat.not_lt.mpr (allowed n rfl)]

/-! ## OPEN and ACCESS -/

theorem takeOpen_of_inRange {a : OpenArgs} (inRange : ArgumentsInRange (.openPatch h a)) :
    takeOpen h a s = match s.patchToOpen a.patch with
      | none => s.refuse h .openPatch .patchState
      | some p =>
        if (s.patch p).state = .free then
          (s.modPatch p fun _ => openedPatch a).grantReply h .openPatch [byte (patchNumber p)]
        else s.refuse h .openPatch .patchState := by
  refine if_pos ?_
  rw [Bool.and_eq_true, decide_eq_true_eq]
  exact ⟨inRange.1, (openInRange_iff h a inRange.1).mpr inRange⟩

theorem lowestFreePatch_eq {p : PatchId} (free : (s.patch p).state = .free)
    (lowest : ∀ q, q < p → (s.patch q).state ≠ .free) : s.lowestFreePatch = some p := by
  refine List.find?_eq_some_iff_getElem.mpr ⟨decide_eq_true free, p.val, by simp [allPatches], by simp [allPatches],
    fun j before => ?_⟩
  simpa [allPatches] using lowest ⟨j, by omega⟩ before

theorem takeAccess_of_inRange {patch : Byte} {list : AccessArgs} {p : PatchId} (named : patch.toNat = p.val + 1)
    (form : list.all.toNat ≤ 1) :
    takeAccess h patch list s =
      if (s.patch p).state = .active then
        (s.modPatch p fun x => { x with access := accessOf list }).grantReply h .access []
      else s.refuse h .access .patchState := by
  rw [takeAccess, patchOf_eq_some_iff.mpr named, accessInRange, (isChoice_iff _).mpr form]

theorem accessOf_eq (a : AccessArgs) : accessOf a = if a.all = 1 then .all else .set a.indices := by
  simp [accessOf, choice]

/-- Settles O31. -/
theorem openAndAccessWriteTheSettings : Obligations.OpenAndAccessWriteTheSettings := by
  refine ⟨fun h a p s ready inRange => ?opens, fun h patch list s ready outOfRange =>
    row_refuses ready rfl (takeAccess_of_outOfRange outOfRange), fun h patch list p s ready named form => ?access⟩
  case opens =>
    have takes := takeOpen_of_inRange (s := s) inRange
    have zero {q : PatchId} (named : a.patch.toNat = q.val + 1) : a.patch ≠ 0 := by
      intro none
      simp [none] at named
    refine ⟨fun names free => ?opened, fun ⟨named, taken⟩ => ?notFree, fun ⟨any, taken⟩ => ?noneFree⟩
    case opened =>
      have opening : s.patchToOpen a.patch = some p := by
        obtain named | ⟨any, lowest⟩ := names
        · rw [State.patchToOpen, if_neg (zero named), patchOf_eq_some_iff.mpr named]
        · rw [State.patchToOpen, if_pos any, lowestFreePatch_eq free lowest]
      rw [opening] at takes
      simp only [free, if_true] at takes
      simp only [openedPatch, accessOf_eq] at takes
      exact row_grants ready rfl takes (Ready.idle ready)
    case notFree =>
      rw [State.patchToOpen, if_neg (zero named), patchOf_eq_some_iff.mpr named] at takes
      simp only [if_neg taken] at takes
      exact row_refuses ready rfl takes
    case noneFree =>
      have none : s.lowestFreePatch = none := by simp [State.lowestFreePatch, taken]
      rw [State.patchToOpen, if_pos any, none] at takes
      exact row_refuses ready rfl takes
  case access =>
    have takes := takeAccess_of_inRange (s := s) (h := h) named form
    refine ⟨fun inactive => ?_, fun active => ?_⟩
    · rw [if_neg inactive] at takes
      exact row_refuses ready rfl takes
    · rw [if_pos active, accessOf_eq] at takes
      exact row_grants ready rfl takes (Ready.idle ready)

/-! ## The order of a floor queue -/

theorem ahead_iff (a b : Claim) : a.ahead b = true ↔ b.priority < a.priority ∨ (a.priority = b.priority ∧
    ((a.marker.isSome = true ∧ b.marker = none) ∨ (∃ m ∈ a.marker, ∃ n ∈ b.marker, n.order < m.order) ∨
      (a.marker = none ∧ b.marker = none ∧ a.time.order < b.time.order))) := by
  unfold Claim.ahead
  by_cases same : a.priority = b.priority
  · rw [if_pos same]
    cases a.marker <;> cases b.marker <;> simp [same]
  · simp [same]

/-- No claim stands ahead of one that stands ahead of it, and the relation is transitive on its complement: a claim not
ahead of a second, that is not ahead of a third, is not ahead of the third. -/
theorem not_ahead_trans {a b c : Claim} (first : b.ahead a = false) (second : c.ahead b = false) :
    c.ahead a = false := by
  rw [← Bool.not_eq_true, ahead_iff] at first second ⊢
  obtain ⟨_, _, _, _ | _⟩ := a <;> obtain ⟨_, _, _, _ | _⟩ := b <;> obtain ⟨_, _, _, _ | _⟩ := c <;>
    simp at first second ⊢ <;> omega

theorem not_ahead_of_ahead {a b : Claim} (ahead : a.ahead b = true) : b.ahead a = false := by
  rw [ahead_iff] at ahead
  rw [← Bool.not_eq_true, ahead_iff]
  obtain ⟨_, _, _, _ | _⟩ := a <;> obtain ⟨_, _, _, _ | _⟩ := b <;> simp at ahead ⊢ <;> omega

/-- A claim inserted stands behind those that it is not ahead of, and before the first one that it is ahead of. -/
theorem insertClaim_split (c : Claim) (q : List Claim) : ∃ front back, q = front ++ back ∧
    insertClaim c q = front ++ c :: back ∧ (∀ d ∈ front, c.ahead d = false) ∧ ∀ d ∈ back.head?, c.ahead d = true := by
  induction q with
  | nil => exact ⟨[], [], rfl, rfl, by simp, by simp⟩
  | cons d q ih =>
    cases ahead : c.ahead d with
    | true => exact ⟨[], d :: q, rfl, by simp [insertClaim, ahead], by simp, by simp [ahead]⟩
    | false =>
      obtain ⟨front, back, rfl, inserted, behind, before⟩ := ih
      exact ⟨d :: front, back, rfl, by simp [insertClaim, ahead, inserted], by simpa [ahead] using behind, before⟩

/-- A floor queue is in order: no claim stands ahead of one before it (R78). -/
abbrev InOrder (q : List Claim) : Prop := q.Pairwise fun a b => b.ahead a = false

theorem insertClaim_perm (c : Claim) (q : List Claim) : (insertClaim c q).Perm (c :: q) := by
  obtain ⟨front, back, rfl, inserted, -, -⟩ := insertClaim_split c q
  rw [inserted]
  exact List.perm_middle

theorem mem_insertClaim {c d : Claim} {q : List Claim} : d ∈ insertClaim c q ↔ d = c ∨ d ∈ q := by
  rw [(insertClaim_perm c q).mem_iff, List.mem_cons]

theorem inOrder_insertClaim (c : Claim) {q : List Claim} (ordered : InOrder q) :
    InOrder (insertClaim c q) ∧ ∃ front back, q = front ++ back ∧ insertClaim c q = front ++ c :: back ∧
      (∀ d ∈ front, c.ahead d = false) ∧ ∀ d ∈ back, c.ahead d = true := by
  obtain ⟨front, back, rfl, inserted, behind, first⟩ := insertClaim_split c q
  obtain ⟨inFront, inBack, across⟩ := List.pairwise_append.mp ordered
  have before : ∀ d ∈ back, c.ahead d = true := by
    cases back with
    | nil => simp
    | cons d rest =>
      intro e mem
      obtain rfl | mem := List.mem_cons.mp mem
      · exact first e rfl
      · by_contra notAhead
        have later := List.rel_of_pairwise_cons inBack mem
        have := not_ahead_trans later (Bool.eq_false_of_not_eq_true notAhead)
        simp [first d rfl] at this
  refine ⟨?_, front, back, rfl, inserted, behind, before⟩
  rw [inserted]
  refine List.pairwise_append.mpr ⟨inFront, List.pairwise_cons.mpr ⟨fun d mem => not_ahead_of_ahead (before d mem),
    inBack⟩, fun d front e mem => ?_⟩
  obtain rfl | mem := List.mem_cons.mp mem
  · exact behind d front
  · exact across d front e mem

/-- Settles O41. -/
theorem queueKeepsItsOrder : Obligations.QueueKeepsItsOrder :=
  ⟨ahead_iff, fun c q ordered =>
    ⟨(inOrder_insertClaim c ordered).1, insertClaim_perm c q, (inOrder_insertClaim c ordered).2⟩⟩

end Sys2Proof.Machine

/-! SUPPORT. The part after power-on, record by record, and its laws there. -/

namespace Sys2Proof.Machine

/-! ## The part after power-on -/

theorem get_replicate {α : Type} {n : Nat} (x : α) (i : Fin n) : (Vector.replicate n x).get i = x := by
  simp [Vector.get_eq_getElem]

@[simp] theorem leg_reset (l : LegId) : State.reset.leg l = {} := get_replicate _ l
@[simp] theorem patch_reset (p : PatchId) : State.reset.patch p = {} := get_replicate _ p
@[simp] theorem entry_reset (e : EntryId) : State.reset.entry e = {} := get_replicate _ e
@[simp] theorem slot_reset (n : SlotId) : State.reset.slot n = {} := get_replicate _ n
@[simp] theorem planEntry_reset (i : PlanId) : State.reset.planEntry i = {} := get_replicate _ i
@[simp] theorem context_reset : State.reset.context = {} := rfl
@[simp] theorem work_reset : State.reset.work = none := rfl
@[simp] theorem ring_reset : State.reset.clips.ring = [] := rfl
@[simp] theorem purges_reset : State.reset.routes.purges = [] := rfl

/-- Settles O60: every record is blank, every list empty, and nothing is in progress. -/
theorem lawsHoldAfterPowerOn : Obligations.LawsHoldAfterPowerOn := by
  refine ⟨⟨by simp [State.reset], by simp [State.reset], Memory.wf_reset⟩, ⟨by simp [State.reset], by simp [State.reset]⟩,
    ⟨by simp, by simp, by simp⟩, ⟨?once, by simp, by simp⟩, ?playback, ?patch, ?floor, ?route⟩
  case once =>
    have none : (allSlots.flatMap fun n => (State.reset.slot n).blocks) = [] := by simp [List.flatMap_eq_nil_iff]
    exact none ▸ List.nodup_nil
  case playback => constructor <;> simp
  case patch => constructor <;> simp
  case floor => constructor <;> simp
  case route => constructor <;> simp [State.feeding, Entry.live]

end Sys2Proof.Machine

/-! SUPPORT. Changes of one record composed, and the receive machine's events as changes of one leg record (R5–R10). -/

namespace Sys2Proof.Machine

variable {s : State}

/-! ## Changes of one record -/

theorem modLeg_modLeg (l : LegId) (f g : Leg → Leg) : (s.modLeg l f).modLeg l g = s.modLeg l fun x => g (f x) := by
  simp [State.modLeg, State.leg, get_set_same]

theorem modLeg_congr {l : LegId} {f g : Leg → Leg} (same : f (s.leg l) = g (s.leg l)) : s.modLeg l f = s.modLeg l g := by
  rw [State.modLeg, State.modLeg, same]

theorem set_get_self {α : Type} {n : Nat} (v : Vector α n) (i : Fin n) : v.set i (v.get i) = v := by
  simp [Vector.get_eq_getElem]

theorem modLeg_eq_self {l : LegId} {f : Leg → Leg} (same : f (s.leg l) = s.leg l) : s.modLeg l f = s := by
  rw [State.modLeg, same, State.leg, set_get_self]

theorem modPatch_modPatch (p : PatchId) (f g : Patch → Patch) :
    (s.modPatch p f).modPatch p g = s.modPatch p fun x => g (f x) := by
  simp [State.modPatch, State.patch, get_set_same]

theorem modPatch_congr {p : PatchId} {f g : Patch → Patch} (same : f (s.patch p) = g (s.patch p)) :
    s.modPatch p f = s.modPatch p g := by
  rw [State.modPatch, State.modPatch, same]

theorem modPatch_eq_self {p : PatchId} {f : Patch → Patch} (same : f (s.patch p) = s.patch p) : s.modPatch p f = s := by
  rw [State.modPatch, same, State.patch, set_get_self]

theorem modLeg_modPatch (l : LegId) (f : Leg → Leg) (p : PatchId) (g : Patch → Patch) :
    (s.modPatch p g).modLeg l f = (s.modLeg l f).modPatch p g := rfl

/-- The leg record of any leg after a change of one. -/
theorem leg_modLeg (l m : LegId) (f : Leg → Leg) : (s.modLeg l f).leg m = if m = l then f (s.leg l) else s.leg m := by
  split
  next same => rw [same, leg_modLeg_same]
  next other => exact leg_modLeg_ne s f other

/-- The patch record of any patch after a change of one. -/
theorem patch_modPatch (p q : PatchId) (f : Patch → Patch) :
    (s.modPatch p f).patch q = if q = p then f (s.patch p) else s.patch q := by
  split
  next same => rw [same, patch_modPatch_same]
  next other => exact patch_modPatch_ne s f other

/-! ## Notices -/

theorem offer_modLeg (d : Detail) (a : Option LegId) (b : Option PatchId) (l : LegId) (f : Leg → Leg) :
    (s.offer d a b).modLeg l f = (s.modLeg l f).offer d a b := by
  unfold State.offer
  rw [modLeg_link]
  split <;> rfl

/-- A CARRIER notice under the mask (R184). -/
theorem offerMasked_carrier (e : Edge) (l : LegId) : s.offerMasked (.carrier e) l =
    if (s.leg l).config.mask.carrier then s.offer (.carrier e) (some l) (s.leg l).membership else s := rfl

theorem offerMasked_aux (e : Edge) (live : Bool) (l : LegId) : s.offerMasked (.aux e live) l =
    if (s.leg l).config.mask.aux then s.offer (.aux e live) (some l) (s.leg l).membership else s := rfl

theorem offerMasked_transmit (e : TransmitEvent) (l : LegId) : s.offerMasked (.transmit e) l =
    if (s.leg l).config.mask.transmit then s.offer (.transmit e) (some l) (s.leg l).membership else s := rfl

/-! ## Receive machine -/

theorem isRadio_iff (l : LegId) : isRadio l = true ↔ l.val < 16 := by simp [isRadio]

theorem isRadio_eq_false_iff (l : LegId) : isRadio l = false ↔ 16 ≤ l.val := by simp [isRadio]

/-- A qualified edge of the carrier: the receive machine in a state, one flag set, and the notice under the mask. -/
def carrierEdge (s : State) (l : LegId) (e : Edge) : State :=
  (s.modLeg l fun x =>
    { x with
      rx := { state := match e with | .rose => .active | .fell => .idle }
      flags := match e with
        | .rose => { x.flags with rose := true }
        | .fell => { x.flags with fell := true } }).offerMasked (.carrier e) l

theorem riseEdge_eq (l : LegId) :
    ((s.modLeg l (Leg.rxTo .active)).flagRose l).offerMasked (.carrier .rose) l = carrierEdge s l .rose := by
  rw [State.flagRose, modLeg_modLeg]
  rfl

theorem fallEdge_eq (l : LegId) :
    ((s.modLeg l (Leg.rxTo .idle)).flagFell l).offerMasked (.carrier .fell) l = carrierEdge s l .fell := by
  rw [State.flagFell, modLeg_modLeg]
  rfl

theorem leg_carrierEdge (l : LegId) (e : Edge) : (carrierEdge s l e).leg l =
    { s.leg l with
      rx := { state := match e with | .rose => .active | .fell => .idle }
      flags := match e with
        | .rose => { (s.leg l).flags with rose := true }
        | .fell => { (s.leg l).flags with fell := true } } := by
  simp [carrierEdge]

theorem carrierEdge_eq (l : LegId) (e : Edge) : carrierEdge s l e =
    let u := s.modLeg l fun x =>
      { x with
        rx := { state := match e with | .rose => .active | .fell => .idle }
        flags := match e with
          | .rose => { x.flags with rose := true }
          | .fell => { x.flags with fell := true } }
    if (s.leg l).config.mask.carrier then u.offer (.carrier e) (some l) (s.leg l).membership else u := by
  simp [carrierEdge, offerMasked_carrier]

/-- Whether a claim stands without the switch or carrier: a console's by its TALK latch (R8). -/
theorem stands_of_quiet {l : LegId} {x : Leg} (quiet : x.rx.state = .idle ∨ x.rx.state = .rising) :
    x.stands l = (decide (16 ≤ l.val) && x.talk) := by
  have console : (!isRadio l) = decide (16 ≤ l.val) := by
    by_cases radio : l.val < 16
    · simp [isRadio, radio]
    · simp [isRadio, radio, Nat.le_of_not_lt radio]
  unfold Leg.stands
  obtain quiet | quiet := quiet <;> simp [quiet, console]

/-- A rise that qualifies offers the claim of a member whose claim did not stand by its TALK latch (R6, R8). -/
theorem riseQualified_eq {l : LegId} (quiet : (s.leg l).rx.state = .idle ∨ (s.leg l).rx.state = .rising) :
    s.riseQualified l = match (s.leg l).membership with
      | some p =>
        if 16 ≤ l.val ∧ (s.leg l).talk = true then carrierEdge s l .rose
        else (carrierEdge s l .rose).claimArrives p (.leg l)
      | none => carrierEdge s l .rose := by
  have after : ((carrierEdge s l .rose).leg l).stands l = true := by simp [leg_carrierEdge, Leg.stands]
  have member : ((carrierEdge s l .rose).leg l).membership = (s.leg l).membership := by simp [leg_carrierEdge]
  unfold State.riseQualified State.claimChange
  dsimp only
  rw [riseEdge_eq, after, stands_of_quiet quiet]
  cases latched : decide (16 ≤ l.val) && (s.leg l).talk with
  | true =>
    rw [Bool.and_eq_true, decide_eq_true_eq] at latched
    cases (s.leg l).membership <;> simp [latched]
  | false =>
    rw [Bool.and_eq_false_imp, decide_eq_true_eq] at latched
    dsimp only
    rw [State.offerClaim, member]
    cases (s.leg l).membership with
    | none => rfl
    | some p => exact (if_neg fun ⟨console, talk⟩ => by simp [latched console] at talk).symm

/-- A drop that qualifies offers the withdrawal of a member whose claim does not go on standing by its TALK latch (R7,
R8). -/
theorem dropQualified_eq {l : LegId} (qualified : (s.leg l).rx.state = .active ∨ (s.leg l).rx.state = .falling) :
    s.dropQualified l = match (s.leg l).membership with
      | some p =>
        if 16 ≤ l.val ∧ (s.leg l).talk = true then carrierEdge s l .fell
        else (carrierEdge s l .fell).withdraws p (.leg l)
      | none => carrierEdge s l .fell := by
  have before : (s.leg l).stands l = true := by unfold Leg.stands; obtain state | state := qualified <;> simp [state]
  have after : ((carrierEdge s l .fell).leg l).stands l = (decide (16 ≤ l.val) && (s.leg l).talk) := by
    rw [leg_carrierEdge]
    exact stands_of_quiet (.inl rfl)
  have member : ((carrierEdge s l .fell).leg l).membership = (s.leg l).membership := by simp [leg_carrierEdge]
  unfold State.dropQualified State.claimChange
  dsimp only
  rw [fallEdge_eq, after, before]
  cases latched : decide (16 ≤ l.val) && (s.leg l).talk with
  | true =>
    rw [Bool.and_eq_true, decide_eq_true_eq] at latched
    cases (s.leg l).membership <;> simp [latched]
  | false =>
    rw [Bool.and_eq_false_imp, decide_eq_true_eq] at latched
    dsimp only
    rw [State.offerWithdrawal, member]
    cases (s.leg l).membership with
    | none => rfl
    | some p => exact (if_neg fun ⟨console, talk⟩ => by simp [latched console] at talk).symm

/-! ## The carrier input -/

/-- The carrier input or switch of a leg at a level. -/
abbrev Leg.withCarrier (high : Bool) (x : Leg) : Leg := { x with inputs := { x.inputs with carrierHigh := high } }

theorem evaluated_iff (l : LegId) (x : Leg) : x.evaluated l = true ↔ x.park.parked = false ∧ x.masked l = false := by
  simp [Leg.evaluated]

theorem evaluate_of_evaluated {l : LegId} (free : (s.leg l).park.parked = false) (unmasked : (s.leg l).masked l = false) :
    s.evaluate l = s.modLeg l fun x => x.follow (x.condition l) :=
  if_pos ((evaluated_iff l _).mpr ⟨free, unmasked⟩)

theorem evaluate_of_held {l : LegId} (held : (s.leg l).park.parked = true ∨ (s.leg l).masked l = true) :
    s.evaluate l = s := by
  refine if_neg fun evaluated => ?_
  rw [evaluated_iff] at evaluated
  obtain held | held := held <;> simp_all

theorem exec_carrierConditionChange (l : LegId) (high : Bool) (settled : s.Settled) :
    exec (.carrierConditionChange l high) s = .next ((s.modLeg l (Leg.withCarrier high)).conditionEvent l) :=
  congrArg Host.Outcome.next (event_of_settled settled)

/-- The receive machine of a leg under its condition: only its state and timers change (R6, R7, R9). -/
theorem follow_rx (present : Bool) (x : Leg) : x.follow present = { x with rx := match x.rx.state, present with
    | .idle, true => { x.rx with state := .rising, riseTimer := some x.config.rise }
    | .rising, false => { x.rx with state := .idle, riseTimer := none }
    | .active, false => { x.rx with state := .falling, dropTimer := some x.config.drop }
    | .falling, true => { x.rx with state := .active, dropTimer := none }
    | .barred, true => { x.rx with barTimer := none, barDropDone := false }
    | .barred, false =>
      if x.rx.barTimer = none ∧ x.rx.barDropDone = false then { x.rx with barTimer := some x.config.drop }
      else x.rx
    | _, _ => x.rx } := by
  unfold Leg.follow
  cases state : x.rx.state <;> cases present <;> try rfl
  cases timer : x.rx.barTimer <;> cases done : x.rx.barDropDone <;> rfl

theorem present_of_rises {present : Bool} {x : Leg} (idle : x.rx.state = .idle)
    (rises : (x.follow present).rx.state = .rising) : present = true := by
  cases present with
  | true => rfl
  | false =>
    rw [follow_rx, idle] at rises
    exact absurd (idle.symm.trans rises) nofun

theorem absent_of_falls {present : Bool} {x : Leg} (active : x.rx.state = .active)
    (falls : (x.follow present).rx.state = .falling) : present = false := by
  cases present with
  | false => rfl
  | true =>
    rw [follow_rx, active] at falls
    exact absurd (active.symm.trans falls) nofun

/-- A condition event that begins no phase of length 0 is its evaluation (R6, R7; log 4). -/
theorem conditionEvent_of_slow {l : LegId}
    (rises : (s.leg l).rx.state = .idle → ((s.evaluate l).leg l).rx.state = .rising → (s.leg l).config.rise ≠ 0)
    (falls : (s.leg l).rx.state = .active → ((s.evaluate l).leg l).rx.state = .falling → (s.leg l).config.drop ≠ 0) :
    s.conditionEvent l = s.evaluate l := by
  have config : ((s.evaluate l).leg l).config = (s.leg l).config :=
    show ((s.evaluate l).leg l).fixed.config = (s.leg l).fixed.config from congrArg _ (evaluate_fixed l l)
  unfold State.conditionEvent
  dsimp only
  split
  next before after => rw [config, if_neg (rises before after)]
  next before after => rw [config, if_neg (falls before after)]
  next => rfl

/-- Settles O18: the condition event is an evaluation, and its record is `follow_rx`. -/
theorem carrierChangeMovesTheReceiveMachine : Obligations.CarrierChangeMovesTheReceiveMachine := by
  refine ⟨fun l high s settled free unmasked => ?evaluated, fun l high s settled held => ?held⟩
  case evaluated =>
    intro present slowRise slowDrop
    have taken : (s.modLeg l (Leg.withCarrier high)).evaluate l =
        s.modLeg l fun x => (x.withCarrier high).follow ((x.withCarrier high).condition l) := by
      rw [evaluate_of_evaluated (by simpa using free) (by rw [leg_modLeg_same]; exact unmasked), modLeg_modLeg]
    rw [exec_carrierConditionChange l high settled, conditionEvent_of_slow, taken]
    · exact congrArg Host.Outcome.next (modLeg_congr (follow_rx _ _))
    · rw [taken, leg_modLeg_same, leg_modLeg_same]
      exact fun idle rises => slowRise idle (present_of_rises (x := (s.leg l).withCarrier high) idle rises)
    · rw [taken, leg_modLeg_same, leg_modLeg_same]
      exact fun active falls => slowDrop active (absent_of_falls (x := (s.leg l).withCarrier high) active falls)
  case held =>
    have stays : (s.modLeg l (Leg.withCarrier high)).evaluate l = s.modLeg l (Leg.withCarrier high) :=
      evaluate_of_held (by rw [leg_modLeg_same]; exact held)
    rw [exec_carrierConditionChange l high settled, conditionEvent_of_slow, stays]
    · rw [stays]
      exact fun idle rising => absurd (idle.symm.trans rising) nofun
    · rw [stays]
      exact fun active falling => absurd (active.symm.trans falling) nofun

/-! ## Qualification -/

/-- A condition event that begins a rise of length 0 is the rise qualified (R6; log 4). -/
theorem conditionEvent_rises {l : LegId} (free : (s.leg l).park.parked = false)
    (unmasked : (s.leg l).masked l = false) (idle : (s.leg l).rx.state = .idle) (fast : (s.leg l).config.rise = 0)
    (present : (s.leg l).condition l = true) :
    s.conditionEvent l = (s.modLeg l fun x => x.follow (x.condition l)).riseQualified l := by
  have after : (((s.modLeg l fun x => x.follow (x.condition l)).leg l)).rx.state = .rising := by
    rw [leg_modLeg_same, follow_rx, idle, present]
  have config : (((s.modLeg l fun x => x.follow (x.condition l)).leg l)).config = (s.leg l).config := by
    rw [leg_modLeg_same, follow_rx]
  unfold State.conditionEvent
  dsimp only
  rw [evaluate_of_evaluated free unmasked, idle, after, config]
  exact if_pos fast

/-- A condition event that begins a fall of length 0 is the drop qualified (R7; log 4). -/
theorem conditionEvent_falls {l : LegId} (free : (s.leg l).park.parked = false)
    (unmasked : (s.leg l).masked l = false) (active : (s.leg l).rx.state = .active) (fast : (s.leg l).config.drop = 0)
    (absent : (s.leg l).condition l = false) :
    s.conditionEvent l = (s.modLeg l fun x => x.follow (x.condition l)).dropQualified l := by
  have after : (((s.modLeg l fun x => x.follow (x.condition l)).leg l)).rx.state = .falling := by
    rw [leg_modLeg_same, follow_rx, active, absent]
  have config : (((s.modLeg l fun x => x.follow (x.condition l)).leg l)).config = (s.leg l).config := by
    rw [leg_modLeg_same, follow_rx]
  unfold State.conditionEvent
  dsimp only
  rw [evaluate_of_evaluated free unmasked, active, after, config]
  exact if_pos fast

/-- What a rise begins is gone from the record once it qualifies. -/
theorem carrierEdge_follow (l : LegId) (e : Edge) (present : Leg → Bool) :
    carrierEdge (s.modLeg l fun x => x.follow (present x)) l e = carrierEdge s l e := by
  unfold carrierEdge
  rw [modLeg_modLeg]
  exact congrArg (fun u : State => u.offerMasked (.carrier e) l) (modLeg_congr (by rw [follow_rx]))

/-- Settles O19. -/
theorem riseQualifiesIntoAClaim : Obligations.RiseQualifiesIntoAClaim := by
  intro l s settled qualified
  have qualifies (u : State) : qualified u = match (u.leg l).membership with
      | some p =>
        if 16 ≤ l.val ∧ (u.leg l).talk = true then carrierEdge u l .rose
        else (carrierEdge u l .rose).claimArrives p (.leg l)
      | none => carrierEdge u l .rose := by
    simp only [carrierEdge_eq]
    rfl
  refine ⟨fun rising timer => ?expiry, fun high free unmasked idle fast present => ?atOnce⟩
  case expiry =>
    have takes : takeRiseExpiry l s = s.riseQualified l := if_pos ⟨rising, by simp [timer, due]⟩
    rw [exec_of_happening rfl, event_of_settled settled, takes, riseQualified_eq (.inr rising), qualifies]
  case atOnce =>
    let u := s.modLeg l (Leg.withCarrier high)
    have record : u.leg l = (s.leg l).withCarrier high := leg_modLeg_same s l _
    rw [exec_carrierConditionChange l high settled, qualifies]
    change Host.Outcome.next (u.conditionEvent l) = _
    rw [conditionEvent_rises (by rw [record]; exact free) (by rw [record]; exact unmasked) (by rw [record]; exact idle)
      (by rw [record]; exact fast) (by rw [record]; exact present), riseQualified_eq, carrierEdge_follow,
      leg_modLeg_same, follow_rx]
    exact .inr (by rw [leg_modLeg_same, follow_rx, record, show ((s.leg l).withCarrier high).rx.state = .idle from idle,
      show ((s.leg l).withCarrier high).condition l = true from present])

theorem endBar_eq (l : LegId) : s.endBar l = carrierEdge s l .fell := fallEdge_eq l

/-- Settles O20. -/
theorem dropQualifiesIntoAWithdrawal : Obligations.DropQualifiesIntoAWithdrawal := by
  refine ⟨fun l s settled falling timer => ?expiry, fun l high s settled free unmasked active fast absent => ?atOnce,
    fun l s settled barred timer => ⟨fun released => ?bar, fun console talk => ?latched⟩⟩
  case expiry =>
    have takes : takeDropExpiry l s = s.dropQualified l := if_pos ⟨falling, by simp [timer, due]⟩
    intro v u
    rw [exec_of_happening rfl, event_of_settled settled, takes, dropQualified_eq (.inr falling), carrierEdge_eq] <;> rfl
  case atOnce =>
    let w := s.modLeg l (Leg.withCarrier high)
    have record : w.leg l = (s.leg l).withCarrier high := leg_modLeg_same s l _
    intro v u
    have edge : carrierEdge w l .fell = u := by
      rw [carrierEdge_eq, modLeg_modLeg, record]
    rw [exec_carrierConditionChange l high settled]
    change Host.Outcome.next (w.conditionEvent l) = _
    have falling : ((w.modLeg l fun x => x.follow (x.condition l)).leg l).rx.state = .falling := by
      rw [leg_modLeg_same, follow_rx, record, show ((s.leg l).withCarrier high).rx.state = .active from active,
        show ((s.leg l).withCarrier high).condition l = false from absent]
    rw [conditionEvent_falls (by rw [record]; exact free) (by rw [record]; exact unmasked) (by rw [record]; exact active)
      (by rw [record]; exact fast) (by rw [record]; exact absent), dropQualified_eq (.inr falling), carrierEdge_follow,
      leg_modLeg_same, follow_rx, record, edge] <;> rfl
  case bar =>
    have takes : takeBarredExpiry l s = carrierEdge s l .fell := by
      have unlatched : ¬ (!isRadio l && (s.leg l).talk) = true := by
        obtain radio | unpressed := released
        · simp [(isRadio_iff l).mpr radio]
        · simp [unpressed]
      unfold takeBarredExpiry
      dsimp only
      rw [if_pos ⟨barred, by simp [timer, due]⟩, if_neg unlatched, endBar_eq]
    intro u
    rw [exec_of_happening rfl, event_of_settled settled, takes, carrierEdge_eq]
  case latched =>
    have takes : takeBarredExpiry l s =
        s.modLeg l fun x => { x with rx := { state := .barred, barDropDone := true } } := by
      unfold takeBarredExpiry
      dsimp only
      rw [if_pos ⟨barred, by simp [timer, due]⟩, if_pos (by simp [(isRadio_eq_false_iff l).mpr console, talk])]
    rw [exec_of_happening rfl, event_of_settled settled, takes]

end Sys2Proof.Machine

/-! SUPPORT. The transmit machine (R12–R18): masking, key demands, and what ends keying. -/

namespace Sys2Proof.Machine

variable {s : State}

/-! ## Masking -/

theorem bne_eq_decide_ne {α : Type} [DecidableEq α] (a b : α) : (a != b) = decide (a ≠ b) := by
  by_cases same : a = b <;> simp [same]

theorem unqueue_eq (p : PatchId) (party : Party) : s.unqueue p party = s.modPatch p fun x =>
    { x with floor := { x.floor with queue := x.floor.queue.filter fun c => c.party ≠ party } } := by
  simp only [State.unqueue, State.modFloor, bne_eq_decide_ne]

/-- The receive machine and flags of a leg as its masking begins (R10). -/
def Leg.beginMask (x : Leg) : Leg :=
  match x.rx.state with
  | .idle => x
  | .rising => { x with rx := { state := .idle } }
  | .active | .falling => { x with rx := { state := .idle }, flags := { x.flags with fell := true } }
  | .barred => { x with rx := { x.rx with barTimer := none } }

/-- Whether masking finds a claim of the leg's own switch or carrier, which it withdraws (R10). -/
def Leg.qualified (x : Leg) : Bool :=
  match x.rx.state with
  | .active | .falling => true
  | .idle | .rising | .barred => false

theorem qualified_iff (x : Leg) : x.qualified = true ↔ x.rx.state = .active ∨ x.rx.state = .falling := by
  unfold Leg.qualified
  cases x.rx.state <;> simp

/-- The start of masking where nothing was qualified is a change of the leg's record alone. -/
theorem startMasking_of_unqualified {l : LegId} (quiet : (s.leg l).qualified = false) :
    s.startMasking l = s.modLeg l Leg.beginMask := by
  unfold State.startMasking
  unfold Leg.qualified at quiet
  cases state : (s.leg l).rx.state with
  | idle => exact (modLeg_eq_self (by rw [Leg.beginMask, state])).symm
  | rising | barred => exact modLeg_congr (by simp [Leg.beginMask, state, Leg.rxTo])
  | active | falling => simp [state] at quiet

/-- The start of masking where the leg had qualified: the fall of the carrier, and the withdrawal of a member. -/
theorem startMasking_of_qualified {l : LegId} (qualified : (s.leg l).qualified = true) :
    s.startMasking l = match (s.leg l).membership with
      | some p => (carrierEdge s l .fell).unqueue p (.leg l)
      | none => carrierEdge s l .fell := by
  have membership : ((carrierEdge s l .fell).leg l).membership = (s.leg l).membership := by rw [leg_carrierEdge]
  rw [← membership]
  rw [qualified_iff] at qualified
  unfold State.startMasking
  obtain state | state := qualified
  all_goals
    rw [state]
    dsimp only
    rw [fallEdge_eq] <;> rfl

theorem startMasking_leg (l m : LegId) :
    (s.startMasking l).leg m = if m = l then (s.leg l).beginMask else s.leg m := by
  cases qualified : (s.leg l).qualified with
  | false => rw [startMasking_of_unqualified qualified, leg_modLeg]
  | true =>
    have edge : (carrierEdge s l .fell).leg m = if m = l then (s.leg l).beginMask else s.leg m := by
      rw [carrierEdge, offerMasked_leg, leg_modLeg]
      congr 1
      unfold Leg.beginMask
      obtain state | state := (qualified_iff _).mp qualified <;> rw [state]
    rw [startMasking_of_qualified qualified]
    split <;> simp [edge]

theorem startMasking_patch (l : LegId) (p : PatchId) :
    (s.startMasking l).patch p =
      if (s.leg l).qualified = true ∧ (s.leg l).membership = some p then
        { s.patch p with floor := { (s.patch p).floor with
          queue := (s.patch p).floor.queue.filter fun c => c.party ≠ .leg l } }
      else s.patch p := by
  cases qualified : (s.leg l).qualified with
  | false => rw [startMasking_of_unqualified qualified]; simp
  | true =>
    have edge (q : PatchId) : (carrierEdge s l .fell).patch q = s.patch q := by simp [carrierEdge]
    rw [startMasking_of_qualified qualified]
    cases membership : (s.leg l).membership with
    | none => simp [edge]
    | some q =>
      dsimp only
      rw [unqueue_eq, patch_modPatch]
      by_cases same : p = q
      · subst same
        simp [edge]
      · simp [same, Ne.symm same, edge, eq_comm]

theorem masked_iff (l : LegId) (x : Leg) :
    x.masked l = true ↔ l.val < 16 ∧ x.tx.state.keyAsserted = true ∧ x.duplex = false := by
  simp [Leg.masked, isRadio_iff, and_assoc]

theorem duplex_eq (x : Leg) : x.duplex = x.binding.any Binding.duplex := rfl

/-! ## Changes that may begin or end masking -/

theorem maskedChange_begins {l : LegId} {f : Leg → Leg} (was : (s.leg l).masked l = false)
    (now : (f (s.leg l)).masked l = true) : s.maskedChange l f = (s.modLeg l f).startMasking l := by
  unfold State.maskedChange
  dsimp only
  rw [leg_modLeg_same, was, now]

theorem maskedChange_ends {l : LegId} {f : Leg → Leg} (was : (s.leg l).masked l = true)
    (now : (f (s.leg l)).masked l = false) : s.maskedChange l f = s.modLeg l fun x =>
      if (f x).park.parked then f x else (f x).follow ((f x).condition l) := by
  unfold State.maskedChange
  dsimp only
  rw [leg_modLeg_same, was, now]
  dsimp only
  cases parked : (f (s.leg l)).park.parked with
  | true =>
    rw [evaluate_of_held (.inl (by rw [leg_modLeg_same]; exact parked))]
    exact modLeg_congr (by rw [parked]; rfl)
  | false =>
    rw [evaluate_of_evaluated (by rw [leg_modLeg_same]; exact parked) (by rw [leg_modLeg_same]; exact now),
      modLeg_modLeg]
    exact modLeg_congr (by rw [parked]; rfl)

theorem maskedChange_same {l : LegId} {f : Leg → Leg} (same : (f (s.leg l)).masked l = (s.leg l).masked l) :
    s.maskedChange l f = s.modLeg l f := by
  unfold State.maskedChange
  dsimp only
  rw [leg_modLeg_same, same]
  cases (s.leg l).masked l <;> rfl

/-! ## Key demands -/

/-- The transmit machine a leg enters with its key demand, past a key lead of 0 (R12, R13). -/
def Leg.leadTx (x : Leg) : Tx :=
  let lead := x.binding.elim 0 Binding.keyLead
  let limit := x.binding.elim 0 Binding.timeLimit
  { state := if lead = 0 then .on else .lead, keyLead := lead, timeLimit := limit
    lockout := x.binding.elim 0 Binding.lockout, leadTimer := if lead = 0 then none else some lead
    keyed := if limit = 0 then none else some 0
    confirm := if lead = 0 then (if x.config.auxFunction = .confirm then .window x.config.window else .off) else .off
    line := List.replicate (8 * lead) 0 }

theorem leadTx_keyAsserted (x : Leg) : x.leadTx.state.keyAsserted = true := by
  unfold Leg.leadTx
  dsimp only
  split <;> rfl

/-- The masking of a leg does not look at the transmit machine but for its state. -/
theorem beginMask_tx (x : Leg) (tx : Tx) : { x.beginMask with tx := tx } = ({ x with tx := tx } : Leg).beginMask := by
  unfold Leg.beginMask
  dsimp only
  cases x.rx.state <;> rfl

theorem startMasking_modLeg_tx (l : LegId) (f : Leg → Tx) (blind : ∀ x, f x.beginMask = f x) :
    (s.startMasking l).modLeg l (fun x => { x with tx := f x }) =
      (s.modLeg l fun x => { x with tx := f x }).startMasking l := by
  cases qualified : (s.leg l).qualified with
  | false =>
    have still : ((s.modLeg l fun x => { x with tx := f x }).leg l).qualified = false := by
      rw [leg_modLeg_same]
      exact qualified
    rw [startMasking_of_unqualified qualified, startMasking_of_unqualified still, modLeg_modLeg, modLeg_modLeg]
    exact modLeg_congr (by rw [blind, beginMask_tx])
  | true =>
    have still : ((s.modLeg l fun x => { x with tx := f x }).leg l).qualified = true := by
      rw [leg_modLeg_same]
      exact qualified
    have edge : (carrierEdge s l .fell).modLeg l (fun x => { x with tx := f x }) =
        carrierEdge (s.modLeg l fun x => { x with tx := f x }) l .fell := by
      have seen : f ((carrierEdge s l .fell).leg l) = f (s.leg l) := by
        have masks := startMasking_leg (s := s) l l
        rw [startMasking_of_qualified qualified, if_pos rfl] at masks
        rw [← blind (s.leg l), ← masks]
        split <;> simp
      rw [modLeg_congr (s := carrierEdge s l .fell) (g := fun x => { x with tx := f (s.leg l) }) (by rw [seen]),
        modLeg_congr (s := s) (g := fun x => { x with tx := f (s.leg l) }) rfl, carrierEdge_eq, carrierEdge_eq,
        leg_modLeg_same]
      dsimp only
      split <;> simp only [offer_modLeg, modLeg_modLeg]
    rw [startMasking_of_qualified qualified, startMasking_of_qualified still, leg_modLeg_same, ← edge]
    cases (s.leg l).membership with
    | none => rfl
    | some p =>
      dsimp only
      rw [unqueue_eq, unqueue_eq, modLeg_modPatch]

@[simp] theorem beginMask_config (x : Leg) : x.beginMask.config = x.config := by unfold Leg.beginMask; split <;> rfl
@[simp] theorem beginMask_binding (x : Leg) : x.beginMask.binding = x.binding := by unfold Leg.beginMask; split <;> rfl
@[simp] theorem beginMask_txState (x : Leg) : x.beginMask.tx = x.tx := by unfold Leg.beginMask; split <;> rfl

/-- TX_LEAD with a key lead of 0 is TX_ON at once (R13). -/
theorem leadTx_eq (x : Leg) :
    x.leadTx = if x.enterLead.tx.keyLead = 0 then x.enterLead.enterOn.tx else x.enterLead.tx := by
  by_cases zero : x.binding.elim 0 Binding.keyLead = 0 <;> simp [Leg.leadTx, Leg.enterLead, Leg.enterOn, zero]

/-- A key demand that keys a leg whose key is released: the machine entered, and masking unless the leg is duplex (R10,
R12, R13). -/
theorem enterLead_eq {l : LegId} (radio : l.val < 16) (released : (s.leg l).tx.state.keyAsserted = false) :
    s.enterLead l =
      let u := s.modLeg l fun x => { x with tx := x.leadTx }
      if (s.leg l).duplex then u else u.startMasking l := by
  have was : (s.leg l).masked l = false := by simp [Leg.masked, released]
  have leads : s.modLeg l Leg.enterLead = s.modLeg l fun x => { x with tx := x.enterLead.tx } := rfl
  dsimp only
  unfold State.enterLead
  dsimp only
  cases duplex : (s.leg l).duplex with
  | true =>
    have now : (s.leg l).enterLead.masked l = false := by
      simpa [Leg.masked, Leg.duplex, Leg.enterLead] using fun _ _ => duplex
    rw [maskedChange_same (now.trans was.symm), leg_modLeg_same, if_pos rfl]
    split
    next zero =>
      rw [modLeg_modLeg]
      exact modLeg_congr (by rw [leadTx_eq, if_pos zero]; rfl)
    next lead => exact modLeg_congr (by rw [leadTx_eq, if_neg lead]; rfl)
  | false =>
    have now : (s.leg l).enterLead.masked l = true := (masked_iff _ _).mpr ⟨radio, rfl, duplex⟩
    rw [maskedChange_begins was now, startMasking_leg, if_pos rfl, leg_modLeg_same, beginMask_txState,
      if_neg Bool.false_ne_true]
    split
    next zero =>
      have on := startMasking_modLeg_tx (s := s.modLeg l Leg.enterLead) l (fun x => x.enterOn.tx)
        (fun x => by simp [Leg.enterOn])
      refine Eq.trans ?_ (on.trans ?_)
      · exact modLeg_congr rfl
      · rw [modLeg_modLeg]
        exact congrArg (State.startMasking · l) (modLeg_congr (by rw [leadTx_eq, if_pos zero]; rfl))
    next lead => exact congrArg (State.startMasking · l) (modLeg_congr (by rw [leadTx_eq, if_neg lead]; rfl))

theorem setDemand_same {l : LegId} {on : Bool} (same : (s.leg l).demand = on) : s.setDemand l on = s := if_pos same

/-- A radio leg's key demand turned on (R12, R13, R16, R18). -/
theorem setDemand_on {l : LegId} (radio : l.val < 16) (off : (s.leg l).demand = false) : s.setDemand l true =
    match (s.leg l).tx.state with
    | .off =>
      let u := s.modLeg l fun x => { x with demand := true, tx := x.leadTx }
      if (s.leg l).duplex then u else u.startMasking l
    | .tail => s.modLeg l fun x => { x with demand := true, tx := x.enterOn.tx }
    | .lead | .on | .lockout | .fault => s.modLeg l fun x => { x with demand := true } := by
  unfold State.setDemand
  dsimp only
  rw [if_neg (by simp [off])]
  cases state : (s.leg l).tx.state with
  | off =>
    dsimp only
    rw [enterLead_eq radio (by rw [leg_modLeg_same]; simp [state, TxState.keyAsserted]), leg_modLeg_same, modLeg_modLeg]
    rfl
  | tail =>
    dsimp only
    rw [modLeg_modLeg]
    rfl
  | lead | on | lockout | fault => rfl

/-- A radio leg's key demand turned off (R13). -/
theorem setDemand_off {l : LegId} (on : (s.leg l).demand = true) : s.setDemand l false =
    match (s.leg l).tx.state with
    | .lead | .on => s.modLeg l fun x => { x with demand := false, tx := x.enterTail.tx }
    | .off | .tail | .lockout | .fault => s.modLeg l fun x => { x with demand := false } := by
  unfold State.setDemand
  dsimp only
  rw [if_neg (by simp [on])]
  cases state : (s.leg l).tx.state with
  | lead | on =>
    dsimp only
    rw [modLeg_modLeg]
    rfl
  | off | tail | lockout | fault => rfl

/-- Settles O22. -/
theorem keyDemandMovesTheTransmitMachine : Obligations.KeyDemandMovesTheTransmitMachine := by
  refine ⟨fun l s => ?mask, fun l s radio => ⟨fun on same => setDemand_same same, fun off => ?on, fun on => ?off⟩⟩
  case mask =>
    cases qualified : (s.leg l).qualified with
    | false =>
      rw [startMasking_of_unqualified qualified]
      unfold Leg.qualified at qualified
      cases state : (s.leg l).rx.state with
      | idle => exact modLeg_eq_self (by rw [Leg.beginMask, state])
      | rising | barred => exact modLeg_congr (by simp [Leg.beginMask, state])
      | active | falling => simp [state] at qualified
    | true =>
      rw [startMasking_of_qualified qualified]
      simp only [unqueue_eq, carrierEdge_eq]
      obtain state | state := (qualified_iff _).mp qualified
      all_goals
        rw [state] <;> cases (s.leg l).membership <;> rfl
  case on =>
    rw [setDemand_on radio off]
    cases (s.leg l).tx.state with
    | off => rfl
    | tail => rfl
    | lead | on | lockout | fault => rfl
  case off =>
    rw [setDemand_off on]
    cases (s.leg l).tx.state <;> rfl

end Sys2Proof.Machine

/-! SUPPORT. What the Floor Arbiter's work leaves alone, as a relation between states that composes: the operations of the
leg machines and of the floors are calm, and the arbiter's work is calm but for what it tells the Clip Player. -/

namespace Sys2Proof.Machine

variable {s t u : State}

/-! ## Notices -/

/-- Between two states of the Link Controller only notices were offered: none is taken out, the gap flag is not cleared,
and the bound of 32 is kept (R185). -/
structure Noticed (k m : Link) : Prop where
  quiet : m.quiet = k.quiet
  grows : k.notices <+: m.notices
  gap : k.gap = true → m.gap = true
  bound : k.notices.length ≤ 32 → m.notices.length ≤ 32

theorem Noticed.refl (k : Link) : Noticed k k := ⟨rfl, List.prefix_refl _, id, id⟩

theorem Noticed.trans {k m n : Link} (first : Noticed k m) (second : Noticed m n) : Noticed k n where
  quiet := second.quiet.trans first.quiet
  grows := first.grows.trans second.grows
  gap := second.gap ∘ first.gap
  bound := second.bound ∘ first.bound

theorem noticed_offer (d : Detail) (l : Option LegId) (p : Option PatchId) :
    Noticed s.link (s.offer d l p).link where
  quiet := by unfold State.offer; split <;> rfl
  grows := by
    unfold State.offer
    split
    · exact List.prefix_append _ _
    · exact List.prefix_refl _
  gap := by
    unfold State.offer
    split
    · exact id
    · exact fun _ => rfl
  bound := offer_notices_le d l p

/-! ## Calm work -/

/-- Work that leaves alone what `FloorWork` names, and the clips whole: of the legs it changes the machines, key demands and
event flags, of the patches the floors, of the live entries the pending sources, and of the link the notices. -/
structure Calm (s t : State) : Prop where
  legs : ∀ l, (t.leg l).fixed = (s.leg l).fixed
  patches : ∀ p, (t.patch p).fixed = (s.patch p).fixed ∧ (t.patch p).chain = (s.patch p).chain
  entries : ∀ e, (t.entry e).fixed = (s.entry e).fixed
  idle : ∀ e, (s.entry e).live = false → t.entry e = s.entry e
  frame : t.routes.frame = s.routes.frame ∧ t.routes.purges = s.routes.purges
  clips : t.clips = s.clips
  directory : t.directory = s.directory
  link : Noticed s.link t.link
  queue : t.pending = s.pending
  walk : t.walk = s.walk
  freeCount : t.freeCount = s.freeCount

theorem live_of_fixed {x y : Entry} (same : x.fixed = y.fixed) : x.live = y.live :=
  show x.fixed.live = y.fixed.live from congrArg _ same

theorem Calm.refl (s : State) : Calm s s :=
  ⟨fun _ => rfl, fun _ => ⟨rfl, rfl⟩, fun _ => rfl, fun _ _ => rfl, ⟨rfl, rfl⟩, rfl, rfl, .refl _, rfl, rfl, rfl⟩

theorem Calm.trans (first : Calm s t) (second : Calm t u) : Calm s u where
  legs l := (second.legs l).trans (first.legs l)
  patches p := ⟨(second.patches p).1.trans (first.patches p).1, (second.patches p).2.trans (first.patches p).2⟩
  entries e := (second.entries e).trans (first.entries e)
  idle e still := (second.idle e (live_of_fixed (first.entries e) ▸ still)).trans (first.idle e still)
  frame := ⟨second.frame.1.trans first.frame.1, second.frame.2.trans first.frame.2⟩
  clips := second.clips.trans first.clips
  directory := second.directory.trans first.directory
  link := first.link.trans second.link
  queue := second.queue.trans first.queue
  walk := second.walk.trans first.walk
  freeCount := second.freeCount.trans first.freeCount

/-- Calm work behind calm work, said from its end. -/
theorem Calm.after (second : Calm t u) (first : Calm s t) : Calm s u := first.trans second

/-! ## The operations on one record -/

theorem calm_modLeg (l : LegId) {f : Leg → Leg} (keeps : ∀ x, (f x).fixed = x.fixed) : Calm s (s.modLeg l f) :=
  { Calm.refl s with legs := fun m => modLeg_fixed l m keeps }

theorem calm_modPatch (p : PatchId) {f : Patch → Patch} (keeps : ∀ x, (f x).fixed = x.fixed ∧ (f x).chain = x.chain) :
    Calm s (s.modPatch p f) :=
  { Calm.refl s with
    patches := fun q => by
      rw [patch_modPatch]
      split
      next same => subst same; exact keeps _
      next => exact ⟨rfl, rfl⟩ }

theorem calm_modFloor (p : PatchId) (f : Floor → Floor) : Calm s (s.modFloor p f) :=
  calm_modPatch p fun _ => ⟨rfl, rfl⟩

theorem calm_nextEvent : Calm s s.nextEvent := { Calm.refl s with }

theorem calm_offer (d : Detail) (l : Option LegId) (p : Option PatchId) : Calm s (s.offer d l p) where
  legs := by simp
  patches := by simp
  entries := by simp
  idle := by simp
  frame := by simp
  clips := by simp
  directory := by simp
  link := noticed_offer d l p
  queue := by simp
  walk := by simp
  freeCount := by simp

theorem calm_offerMasked (d : Detail) (l : LegId) : Calm s (s.offerMasked d l) := by
  unfold State.offerMasked
  split
  · exact calm_offer _ _ _
  · exact .refl s

theorem calm_offerFloor (p : PatchId) (event : FloorEvent) (party : Option Party) :
    Calm s (s.offerFloor p event party) := by
  unfold State.offerFloor
  split
  · split <;> exact calm_offer _ _ _
  · exact .refl s

/-- A change of the pending sources of live entries. -/
theorem calm_pendingSource {f : EntryId → Entry → Entry} (keeps : ∀ e x, (f e x).fixed = x.fixed)
    (idle : ∀ e x, x.live = false → f e x = x) : Calm s (s.mapEntries f) := by
  constructor
  case entries => intro e; rw [entry_mapEntries, keeps]
  case idle => intro e still; rw [entry_mapEntries, idle e _ still]
  case link => rw [mapEntries_link]; exact .refl _
  all_goals simp

theorem calm_retarget (p : PatchId) (source : Option Party) : Calm s (s.retarget p source) :=
  calm_pendingSource (fun _ x => by split <;> rfl) fun _ x still => by
    simp [Entry.retargeted, still]

theorem calm_modEntry (e : EntryId) {f : Entry → Entry} (keeps : ∀ x, (f x).fixed = x.fixed)
    (live : (s.entry e).live = true) : Calm s (s.modEntry e f) :=
  { Calm.refl s with
    entries := fun d => by
      by_cases same : d = e
      · rw [same, entry_modEntry_same, keeps]
      · rw [entry_modEntry_ne _ _ same]
    idle := fun d still => entry_modEntry_ne _ _ fun same => by rw [same, live] at still; cases still }

/-! ## The operations of the leg machines -/

theorem calm_evaluate (l : LegId) : Calm s (s.evaluate l) := by
  unfold State.evaluate
  split
  · exact calm_modLeg l fun x => follow_fixed _ x
  · exact .refl s

theorem calm_unqueue (p : PatchId) (party : Party) : Calm s (s.unqueue p party) := calm_modFloor p _

theorem calm_carrierEdge (l : LegId) (e : Edge) : Calm s (carrierEdge s l e) :=
  (calm_offerMasked _ l).after (calm_modLeg l fun _ => rfl)

theorem calm_flagRose (l : LegId) (st : RxState) : Calm s ((s.modLeg l (Leg.rxTo st)).flagRose l) :=
  (calm_modLeg l fun _ => rfl : Calm s (s.modLeg l (Leg.rxTo st))).trans (calm_modLeg l fun _ => rfl)

theorem calm_flagFell (l : LegId) (st : RxState) : Calm s ((s.modLeg l (Leg.rxTo st)).flagFell l) :=
  (calm_modLeg l fun _ => rfl : Calm s (s.modLeg l (Leg.rxTo st))).trans (calm_modLeg l fun _ => rfl)

theorem calm_startMasking (l : LegId) : Calm s (s.startMasking l) := by
  cases qualified : (s.leg l).qualified with
  | false =>
    rw [startMasking_of_unqualified qualified]
    exact calm_modLeg l fun x => by unfold Leg.beginMask; split <;> rfl
  | true =>
    rw [startMasking_of_qualified qualified]
    split
    · exact (calm_carrierEdge l _).trans (calm_unqueue _ _)
    · exact calm_carrierEdge l _

/-- A change that may begin or end masking is as calm as it is without the masking. -/
theorem calm_of_maskedChange (l : LegId) {f : Leg → Leg} (written : Calm s (s.modLeg l f)) :
    Calm s (s.maskedChange l f) := by
  unfold State.maskedChange
  dsimp only
  split
  · exact written.trans (calm_startMasking l)
  · exact written.trans (calm_evaluate l)
  · exact written

theorem calm_enterLead (l : LegId) : Calm s (s.enterLead l) := by
  have masked : Calm s (s.maskedChange l Leg.enterLead) := calm_of_maskedChange l (calm_modLeg l fun _ => rfl)
  unfold State.enterLead
  dsimp only
  split
  · exact masked.trans (calm_modLeg l fun _ => rfl)
  · exact masked

theorem calm_setDemand (l : LegId) (on : Bool) : Calm s (s.setDemand l on) := by
  have written : Calm s (s.modLeg l fun x => { x with demand := on }) := calm_modLeg l fun _ => rfl
  unfold State.setDemand
  dsimp only
  split
  · exact .refl s
  · split
    · exact written.trans (calm_enterLead l)
    · exact written.trans (calm_modLeg l fun _ => rfl)
    · exact written.trans (calm_modLeg l fun _ => rfl)
    · exact written.trans (calm_modLeg l fun _ => rfl)
    · exact written

theorem calm_demands (p : PatchId) (on : LegId → Bool) : Calm s (s.demands p on) := by
  unfold State.demands
  refine List.foldlRecOn (motive := Calm s) _ _ (.refl s) fun t before l _ => ?_
  split
  · exact before.trans (calm_setDemand l _)
  · exact before

theorem calm_bar (l : LegId) : Calm s (s.bar l) := by
  unfold State.bar
  dsimp only
  split
  · exact (calm_evaluate l).after (calm_modLeg l fun _ => rfl)
  · exact .refl s

theorem calm_releaseKey (l : LegId) (st : TxState) (timer : Option Nat) : Calm s (s.releaseKey l st timer) :=
  calm_of_maskedChange l (calm_modLeg l fun _ => rfl)

theorem calm_transmitEvent (l : LegId) (e : TransmitEvent) : Calm s ((s.flagTransmit l).offerMasked (.transmit e) l) :=
  (calm_offerMasked _ l).after (calm_modLeg l fun _ => rfl)

theorem calm_endLockout (l : LegId) : Calm s (s.endLockout l) := by
  have ended := (calm_transmitEvent (s := s) l .lockoutEnd).trans
    (calm_modLeg l (f := fun x => { x with tx := x.tx.released .off none }) fun _ => rfl)
  unfold State.endLockout
  dsimp only
  split
  · exact ended.trans (calm_enterLead l)
  · exact ended

theorem calm_timeOut (l : LegId) : Calm s (s.timeOut l) := by
  have released := (calm_releaseKey (s := s) l .lockout (some (1000 * (s.leg l).tx.lockout))).trans
    (calm_transmitEvent l .timeout)
  unfold State.timeOut
  dsimp only
  split
  · exact released.trans (calm_endLockout l)
  · exact released

theorem calm_confirmFailure (l : LegId) : Calm s (s.confirmFailure l) :=
  (calm_releaseKey l .fault none).trans (calm_transmitEvent l .fault)

/-! ## The operations of a floor -/

theorem calm_enqueue (p : PatchId) (c : Claim) : Calm s (s.enqueue p c) := calm_modFloor p _

theorem calm_putBack (p : PatchId) (o : LegId) : Calm s (s.putBack p o) := by
  have cleared : Calm s (s.nextEvent.modFloor p fun f => { f with seized := false }) :=
    calm_nextEvent.trans (calm_modFloor p _)
  unfold State.putBack
  dsimp only
  split
  · exact cleared.trans (calm_enqueue p _)
  · exact cleared

theorem calm_enterIdle (p : PatchId) : Calm s (s.enterIdle p) :=
  (calm_offerFloor p .idle none).after <| (calm_retarget p none).after <| (calm_demands p fun _ => false).after
    (calm_modFloor p _)

theorem calm_enterHang (p : PatchId) : Calm s (s.enterHang p) :=
  (calm_retarget p _).after (calm_modPatch p fun _ => ⟨rfl, rfl⟩)

/-- A grant but for the report to the Clip Player. -/
def State.grantFloor (s : State) (p : PatchId) (party : Party) (seized : Bool) (time : ClaimTime) : State :=
  (((s.modPatch p fun x => { x with floor := x.grantedFloor party seized s.now time }).demands p
    fun l => party != .leg l).retarget p (some party)).offerFloor p .granted (some party)

theorem grant_leg (p : PatchId) (l : LegId) (seized : Bool) (time : ClaimTime) :
    s.grant p (.leg l) seized time = s.grantFloor p (.leg l) seized time := rfl

theorem grant_clip (p : PatchId) (seized : Bool) (time : ClaimTime) :
    s.grant p .clip seized time = (s.grantFloor p .clip seized time).clipGranted := rfl

theorem calm_grantFloor (p : PatchId) (party : Party) (seized : Bool) (time : ClaimTime) :
    Calm s (s.grantFloor p party seized time) :=
  (calm_offerFloor p _ _).after <| (calm_retarget p _).after <| (calm_demands p _).after
    (calm_modPatch p fun _ => ⟨rfl, rfl⟩)

/-! ## The arbiter's work

It is calm but for two things that it tells the Clip Player: of its grant (R88), and of the end of its playback (R90,
R103). -/

/-- What the Floor Arbiter can do: calm work, the Clip Player's grant, and the end of a playback, in any order. -/
inductive Arbitrates (s : State) : State → Prop where
  | calm {t : State} : Calm s t → Arbitrates s t
  | grants {t : State} : Arbitrates s t → Arbitrates s t.clipGranted
  | clears {t : State} : Arbitrates s t → Arbitrates s t.clearPlayback
  | calmly {t u : State} : Arbitrates s t → Calm t u → Arbitrates s u

theorem Arbitrates.refl (s : State) : Arbitrates s s := .calm (.refl s)

theorem Arbitrates.trans (first : Arbitrates s t) (second : Arbitrates t u) : Arbitrates s u := by
  induction second with
  | calm work => exact first.calmly work
  | grants _ ih => exact .grants ih
  | clears _ ih => exact .clears ih
  | calmly _ work ih => exact .calmly ih work

/-- What calm work, the Clip Player's grant and the end of a playback keep is kept by the arbiter. -/
theorem Arbitrates.keeps {P : State → Prop} (work : Arbitrates s t) (calm : ∀ s t, Calm s t → P s → P t)
    (grants : ∀ s, P s → P s.clipGranted) (clears : ∀ s, P s → P s.clearPlayback) (holds : P s) : P t := by
  induction work with
  | calm work => exact calm _ _ work holds
  | grants _ ih => exact grants _ ih
  | clears _ ih => exact clears _ ih
  | calmly _ work ih => exact calm _ _ work ih

theorem arbitrates_grant (p : PatchId) (party : Party) (seized : Bool) (time : ClaimTime) :
    Arbitrates s (s.grant p party seized time) := by
  cases party with
  | leg l => exact .calm (calm_grantFloor p _ _ _)
  | clip => exact .grants (.calm (calm_grantFloor p _ _ _))

theorem arbitrates_endUnreported (reason : EndReason) : Arbitrates s (s.endUnreported reason) :=
  .calmly (.clears (.refl s)) (calm_offer _ _ _)

theorem arbitrates_preempt (p : PatchId) (party : Party) (seized : Bool) (time : ClaimTime) :
    Arbitrates s (s.preempt p party seized time) := by
  unfold State.preempt
  split
  · exact (Arbitrates.calm ((calm_putBack p _).trans (calm_offerFloor p _ _))).trans (arbitrates_grant p _ _ _)
  · exact ((Arbitrates.calm (calm_offerFloor p _ _)).trans (arbitrates_grant p _ _ _)).trans
      (arbitrates_endUnreported _)
  · exact arbitrates_grant p _ _ _

theorem arbitrates_pass (p : PatchId) : Arbitrates s (s.pass p) := by
  unfold State.pass
  split
  · exact arbitrates_grant p _ _ _
  · exact .calm (calm_enterIdle p)

theorem arbitrates_ownerStops (p : PatchId) : Arbitrates s (s.ownerStops p) := by
  unfold State.ownerStops
  split
  · exact arbitrates_grant p _ _ _
  · split
    · exact .calm (calm_enterIdle p)
    · exact .calm (calm_enterHang p)

theorem arbitrates_claimArrives (p : PatchId) (party : Party) : Arbitrates s (s.claimArrives p party) := by
  have event : Arbitrates s s.nextEvent := .calm calm_nextEvent
  unfold State.claimArrives
  dsimp only
  split
  · exact event.trans (arbitrates_grant p _ _ _)
  · exact event.trans (arbitrates_grant p _ _ _)
  · split
    · exact event.calmly (calm_modFloor p _)
    split
    · exact event.trans (arbitrates_preempt p _ _ _)
    · exact event.calmly ((calm_enqueue p _).trans (calm_offerFloor p _ _))

theorem arbitrates_withdraws (p : PatchId) (party : Party) : Arbitrates s (s.withdraws p party) := by
  unfold State.withdraws
  dsimp only
  split
  · split
    · exact .refl s
    · exact arbitrates_ownerStops p
  · exact .calm (calm_unqueue p party)

theorem arbitrates_leaveFloor (p : PatchId) (l : LegId) : Arbitrates s (s.leaveFloor p l) := by
  unfold State.leaveFloor
  split
  · exact (Arbitrates.calm (calm_modFloor p _)).trans (arbitrates_pass p)
  · exact .calm (calm_unqueue p _)

theorem arbitrates_emergencyChange (l : LegId) : Arbitrates s (s.emergencyChange l) := by
  unfold State.emergencyChange
  split
  · exact .refl s
  split
  · exact .refl s
  next p _ _ c _ =>
    have placed := calm_enqueue (s := s) p { c with priority := s.priorityOf (.leg l) }
    dsimp only
    split
    · exact (Arbitrates.calm placed).trans (arbitrates_preempt p _ _ _)
    · exact .calm placed

/-- A change of the leg record is followed by what the floor does with the claim that begins or ends. -/
theorem arbitrates_claimChange (l : LegId) (f : State → State) : Arbitrates (f s) (s.claimChange l f) := by
  unfold State.claimChange State.offerClaim State.offerWithdrawal
  dsimp only
  split
  · split
    · exact arbitrates_claimArrives _ _
    · exact .refl _
  · split
    · exact arbitrates_withdraws _ _
    · exact .refl _
  · exact .refl _

theorem arbitrates_of_change (l : LegId) {f : State → State} (change : Calm s (f s)) :
    Arbitrates s (s.claimChange l f) :=
  (Arbitrates.calm change).trans (arbitrates_claimChange l f)

theorem arbitrates_riseQualified (l : LegId) : Arbitrates s (s.riseQualified l) :=
  arbitrates_of_change l ((calm_offerMasked _ l).after (calm_flagRose l _))

theorem arbitrates_dropQualified (l : LegId) : Arbitrates s (s.dropQualified l) :=
  arbitrates_of_change l ((calm_offerMasked _ l).after (calm_flagFell l _))

theorem arbitrates_conditionEvent (l : LegId) : Arbitrates s (s.conditionEvent l) := by
  have evaluated : Arbitrates s (s.evaluate l) := .calm (calm_evaluate l)
  unfold State.conditionEvent
  dsimp only
  split
  · split
    · exact evaluated.trans (arbitrates_riseQualified l)
    · exact evaluated
  · split
    · exact evaluated.trans (arbitrates_dropQualified l)
    · exact evaluated
  · exact evaluated

theorem calm_endBar (l : LegId) : Calm s (s.endBar l) :=
  (calm_offerMasked _ l).after (calm_flagFell l _)

/-- The end of a TAKE playback: the context and slot, then the floor, then the notice (R103, R159). -/
theorem arbitrates_endTake (reason : EndReason) : Arbitrates s (s.endTake reason) := by
  have cleared : Arbitrates s s.clearPlayback := .clears (.refl s)
  unfold State.endTake
  dsimp only
  split
  · exact cleared.calmly (calm_offer _ _ _)
  · split
    · exact (cleared.trans (arbitrates_pass _)).calmly (calm_offer _ _ _)
    · exact (cleared.calmly (calm_unqueue _ _)).calmly (calm_offer _ _ _)

end Sys2Proof.Machine

/-! SUPPORT. The work of the Floor Arbiter leaves alone what `FloorWork` names, and how claims are withdrawn (R80, R91–R95,
R106). -/

namespace Sys2Proof.Machine

variable {s t u : State}

/-! ## What the arbiter leaves alone -/

/-- What the arbiter's work leaves alone in any case, the Clip Player told of a grant or an end or not. -/
structure ArbiterKeeps (s t : State) : Prop where
  legs : ∀ l, (t.leg l).fixed = (s.leg l).fixed
  patches : ∀ p, (t.patch p).fixed = (s.patch p).fixed ∧ (t.patch p).chain = (s.patch p).chain
  entries : ∀ e, (t.entry e).fixed = (s.entry e).fixed
  idle : ∀ e, (s.entry e).live = false → t.entry e = s.entry e
  frame : t.routes.frame = s.routes.frame ∧ t.routes.purges = s.routes.purges
  memory : t.clips.memory = s.clips.memory
  slots : ∀ n, (t.slot n).length = (s.slot n).length ∧ (t.slot n).blocks = (s.slot n).blocks ∧
    (t.slot n).level = (s.slot n).level ∧ (t.slot n).mode = (s.slot n).mode
  directory : t.directory = s.directory
  link : Noticed s.link t.link
  queue : t.pending = s.pending
  walk : t.walk = s.walk
  freeCount : t.freeCount = s.freeCount

theorem slot_of_clips (same : t.clips = s.clips) (n : SlotId) : t.slot n = s.slot n :=
  congrArg (fun c : Clips => c.slots.get n) same

theorem context_of_clips (same : t.clips = s.clips) : t.context = s.context := congrArg Clips.context same

theorem Calm.keeps (calm : Calm s t) : ArbiterKeeps s t where
  legs := calm.legs
  patches := calm.patches
  entries := calm.entries
  idle := calm.idle
  frame := calm.frame
  memory := congrArg Clips.memory calm.clips
  slots n := by rw [slot_of_clips calm.clips]; exact ⟨rfl, rfl, rfl, rfl⟩
  directory := calm.directory
  link := calm.link
  queue := calm.queue
  walk := calm.walk
  freeCount := calm.freeCount

theorem ArbiterKeeps.trans (first : ArbiterKeeps s t) (second : ArbiterKeeps t u) : ArbiterKeeps s u where
  legs l := (second.legs l).trans (first.legs l)
  patches p := ⟨(second.patches p).1.trans (first.patches p).1, (second.patches p).2.trans (first.patches p).2⟩
  entries e := (second.entries e).trans (first.entries e)
  idle e still := (second.idle e (live_of_fixed (first.entries e) ▸ still)).trans (first.idle e still)
  frame := ⟨second.frame.1.trans first.frame.1, second.frame.2.trans first.frame.2⟩
  memory := second.memory.trans first.memory
  slots n := by
    obtain ⟨length, blocks, level, mode⟩ := first.slots n
    obtain ⟨lengthThen, blocksThen, levelThen, modeThen⟩ := second.slots n
    exact ⟨lengthThen.trans length, blocksThen.trans blocks, levelThen.trans level, modeThen.trans mode⟩
  directory := second.directory.trans first.directory
  link := first.link.trans second.link
  queue := second.queue.trans first.queue
  walk := second.walk.trans first.walk
  freeCount := second.freeCount.trans first.freeCount

/-- Work on the clips alone that leaves the memory and the clips of the slots as they were. -/
theorem ArbiterKeeps.of_clips (clips : Clips) (memory : clips.memory = s.clips.memory)
    (slots : ∀ n, (clips.slots.get n).length = (s.slot n).length ∧ (clips.slots.get n).blocks = (s.slot n).blocks ∧
      (clips.slots.get n).level = (s.slot n).level ∧ (clips.slots.get n).mode = (s.slot n).mode) :
    ArbiterKeeps s { s with clips } :=
  { (Calm.refl s).keeps with memory, slots }

theorem clipGranted_eq_self (phase : s.context.phase ≠ .waiting) : s.clipGranted = s := by
  unfold State.clipGranted
  split
  · contradiction
  all_goals rfl

/-- A change of the state of one slot leaves the clips of all slots. -/
theorem slot_modSlot_state (n m : SlotId) (st : SlotState) :
    let t := s.modSlot n fun x => { x with state := st }
    (t.slot m).length = (s.slot m).length ∧ (t.slot m).blocks = (s.slot m).blocks ∧
      (t.slot m).level = (s.slot m).level ∧ (t.slot m).mode = (s.slot m).mode := by
  by_cases same : m = n
  · subst same
    dsimp only
    rw [slot_modSlot_same]
    exact ⟨rfl, rfl, rfl, rfl⟩
  · dsimp only
    rw [slot_modSlot_ne _ _ same]
    exact ⟨rfl, rfl, rfl, rfl⟩

theorem clipGranted_keeps : ArbiterKeeps s s.clipGranted := by
  by_cases phase : s.context.phase = .waiting
  · unfold State.clipGranted
    rw [phase]
    exact .of_clips _ rfl fun n => slot_modSlot_state _ n _
  · rw [clipGranted_eq_self phase]
    exact (Calm.refl s).keeps

theorem restoreSlot_slots (n m : SlotId) :
    ((s.restoreSlot n).slot m).length = (s.slot m).length ∧ ((s.restoreSlot n).slot m).blocks = (s.slot m).blocks ∧
      ((s.restoreSlot n).slot m).level = (s.slot m).level ∧ ((s.restoreSlot n).slot m).mode = (s.slot m).mode := by
  unfold State.restoreSlot
  split
  · exact slot_modSlot_state n m _
  · rw [slot_emptyRing]
    exact slot_modSlot_state n m _
  · exact ⟨rfl, rfl, rfl, rfl⟩

theorem restoreSlot_memory (n : SlotId) : (s.restoreSlot n).clips.memory = s.clips.memory := by
  unfold State.restoreSlot
  split <;> simp

theorem clearPlayback_keeps : ArbiterKeeps s s.clearPlayback := by
  have only : s.clearPlayback = { s with clips := s.clearPlayback.clips } := by
    apply State.eq_of_fields <;> simp
  rw [only]
  exact .of_clips _ (restoreSlot_memory _) fun n => restoreSlot_slots _ n

theorem Arbitrates.kept (work : Arbitrates s t) : ArbiterKeeps s t :=
  work.keeps (P := ArbiterKeeps s) (fun _ _ calm before => before.trans calm.keeps)
    (fun _ before => before.trans clipGranted_keeps) (fun _ before => before.trans clearPlayback_keeps)
    (Calm.refl s).keeps

/-! ## What becomes of CLIP -/

/-- The clips stay as they are unless CLIP has been granted a floor, and is told so, or has lost the floor it owned. -/
def ClipFate (s t : State) : Prop :=
  t.clips = s.clips ∨ (∃ p, (t.patch p).floor.owner = some .clip ∧ t.clips = s.clipGranted.clips) ∨
    ∃ p, (s.patch p).floor.owner = some .clip ∧ (t.patch p).floor.owner ≠ some .clip

theorem clipGranted_clips (same : t.clips = s.clips) : t.clipGranted.clips = s.clipGranted.clips := by
  unfold State.clipGranted
  rw [context_of_clips same]
  cases s.context.phase with
  | waiting => simp only [State.modSlot, State.modContext, State.slot, State.context, same]
  | none | playing | tone | ending => exact same

theorem grant_owner (p : PatchId) (party : Party) (seized : Bool) (time : ClaimTime) :
    ((s.grant p party seized time).patch p).floor.owner = some party := by
  obtain ⟨rest, -, floor⟩ := floor_grant (s := s) p party seized time
  rw [floor]
  rfl

/-- A grant to a leg leaves the clips, and a grant to CLIP is told to the Clip Player. -/
theorem clipFate_grant (p : PatchId) (party : Party) (seized : Bool) (time : ClaimTime) (same : t.clips = s.clips) :
    ClipFate s (t.grant p party seized time) := by
  cases party with
  | leg l => exact .inl ((calm_grantFloor p _ _ _).clips.trans same)
  | clip =>
    exact .inr (.inl ⟨p, grant_owner p _ _ _, clipGranted_clips ((calm_grantFloor p _ _ _).clips.trans same)⟩)

theorem clipFate_preempt (p : PatchId) (party : Party) (seized : Bool) (time : ClaimTime) (same : t.clips = s.clips)
    (owner : (t.patch p).floor.owner = (s.patch p).floor.owner) (other : (s.patch p).floor.owner ≠ some party) :
    ClipFate s (t.preempt p party seized time) := by
  unfold State.preempt
  split
  · exact clipFate_grant p _ _ _ (((calm_offerFloor p _ _).after (calm_putBack p _)).clips.trans same)
  next owned =>
    refine .inr (.inr ⟨p, owner.symm.trans owned, ?_⟩)
    rw [endUnreported_patch, grant_owner]
    rw [← owner, owned] at other
    exact other.symm
  · exact clipFate_grant p _ _ _ same

theorem clipFate_pass (p : PatchId) : ClipFate s (s.pass p) := by
  unfold State.pass
  split
  · exact clipFate_grant p _ _ _ rfl
  · exact .inl (calm_enterIdle p).clips

theorem clipFate_ownerStops (p : PatchId) : ClipFate s (s.ownerStops p) := by
  unfold State.ownerStops
  split
  · exact clipFate_grant p _ _ _ rfl
  · split
    · exact .inl (calm_enterIdle p).clips
    · exact .inl (calm_enterHang p).clips

theorem clipFate_claimArrives (p : PatchId) (party : Party) : ClipFate s (s.claimArrives p party) := by
  unfold State.claimArrives
  dsimp only
  split
  · exact clipFate_grant p _ _ _ (by simp)
  · exact clipFate_grant p _ _ _ (by simp)
  · split
    · exact .inl (by simp)
    next other =>
      split
      · exact clipFate_preempt p _ _ _ (by simp) (by simp) (by simpa using other)
      · exact .inl (by simp)

theorem clipFate_withdraws (p : PatchId) (party : Party) : ClipFate s (s.withdraws p party) := by
  unfold State.withdraws
  dsimp only
  split
  · split
    · exact .inl rfl
    · exact clipFate_ownerStops p
  · exact .inl (by simp)

theorem enqueue_owner (p : PatchId) (c : Claim) :
    ((s.enqueue p c).patch p).floor.owner = (s.patch p).floor.owner := by
  rw [State.enqueue, patch_modFloor_same]

/-- An emergency preempts no owner that is its own leg: that leg has no claim in the queue to be re-placed. -/
theorem clipFate_emergencyChange (l : LegId) : ClipFate s (s.emergencyChange l) := by
  unfold State.emergencyChange
  split
  · exact .inl rfl
  split
  · exact .inl rfl
  next p _ _ c _ =>
    dsimp only
    split
    · cases owner : (s.patch p).floor.owner with
      | some o =>
        cases o with
        | clip => exact clipFate_preempt p _ _ _ (by simp) (enqueue_owner p _) (by simp [owner])
        | leg o =>
          rw [State.preempt, enqueue_owner, owner]
          exact clipFate_grant p _ _ _ (((calm_offerFloor p _ _).after (calm_putBack p _)).clips.trans (by simp))
      | none => exact clipFate_preempt p _ _ _ (by simp) (enqueue_owner p _) (by simp [owner])
    · exact .inl (by simp)

/-- The arbiter's work is `FloorWork` where the clips fare as its claims say. -/
theorem Arbitrates.floorWork (work : Arbitrates s t) (fate : ClipFate s t) : FloorWork s t :=
  { work.kept with
    link := work.kept.link.quiet
    ring := fun stays => by
      obtain same | ⟨p, -, granted⟩ | ⟨p, owned, lost⟩ := fate
      · rw [same]; exact ⟨rfl, rfl⟩
      · rw [granted]
        unfold State.clipGranted
        cases s.context.phase <;> exact ⟨rfl, rfl⟩
      · exact absurd (stays p owned) lost
    playback := fun same waiting => by
      have stays : ∀ {u : State}, u.clips = s.clips → u.context = s.context ∧ ∀ n, u.slot n = s.slot n :=
        fun same => ⟨context_of_clips same, slot_of_clips same⟩
      obtain still | ⟨p, owns, granted⟩ | ⟨p, owned, lost⟩ := fate
      · exact stays still
      · refine stays (granted.trans (congrArg State.clips (clipGranted_eq_self fun phase => ?_)))
        exact waiting phase p ((same p).mp owns)
      · exact absurd ((same p).mpr owned) lost }

/-! ## Withdrawals -/

theorem retarget_entry (p : PatchId) (source : Option Party) (e : EntryId) :
    (s.retarget p source).entry e =
      if ((s.entry e).state = .reserved ∨ (s.entry e).state = .active) ∧ (s.entry e).tag = some p ∧
          ((s.entry e).kind = some .member ∨ (s.entry e).kind = some .monitor) then
        { s.entry e with pendingSource := source }
      else s.entry e := by
  unfold State.retarget
  rw [entry_mapEntries]
  refine if_congr ?_ rfl rfl
  simp [Entry.retargeted, Entry.live, and_assoc]

theorem enterHang_floor (p : PatchId) : ((s.enterHang p).patch p).floor =
    { state := .hang
      lastOwner := match (s.patch p).floor.owner with
        | some (.leg o) => some o
        | some .clip | none => none
      hangTimer := some (s.patch p).hang, queue := (s.patch p).floor.queue } := by
  unfold State.enterHang
  rw [retarget_patch, patch_modPatch_same] <;> rfl

/-- An IDLE floor keeps at most the claims of its queue. -/
theorem enterIdle_floor (p : PatchId) : ∃ rest, rest.Sublist (s.patch p).floor.queue ∧
    ((s.enterIdle p).patch p).floor = { queue := rest } := by
  obtain ⟨rest, restOf, floor⟩ :=
    claimsOnlyLeave_demands (s := s.modFloor p fun f => { queue := f.queue }) p (fun _ => false) p
  rw [patch_modFloor_same] at restOf floor
  refine ⟨rest, restOf, ?_⟩
  rw [← floor, State.enterIdle, offerFloor_patch, retarget_patch]

theorem pass_of_queue {p : PatchId} {c : Claim} {q : List Claim} (queue : (s.patch p).floor.queue = c :: q) :
    s.pass p = s.grant p c.party false c.time := by
  rw [State.pass, queue]

theorem pass_of_empty {p : PatchId} (empty : (s.patch p).floor.queue = []) : s.pass p = s.enterIdle p := by
  rw [State.pass, empty]

theorem ownerStops_of_queue {p : PatchId} {c : Claim} {q : List Claim} (queue : (s.patch p).floor.queue = c :: q) :
    s.ownerStops p = s.grant p c.party false c.time := by
  rw [State.ownerStops, queue]

theorem ownerStops_of_empty {p : PatchId} (empty : (s.patch p).floor.queue = []) :
    s.ownerStops p = if (s.patch p).hang = 0 then s.enterIdle p else s.enterHang p := by
  rw [State.ownerStops, empty]

theorem withdraws_of_seized {p : PatchId} {party : Party} (owner : (s.patch p).floor.owner = some party)
    (seized : (s.patch p).floor.seized = true) : s.withdraws p party = s := by
  simp [State.withdraws, owner, seized]

theorem withdraws_of_owner {p : PatchId} {party : Party} (owner : (s.patch p).floor.owner = some party)
    (unseized : (s.patch p).floor.seized = false) : s.withdraws p party = s.ownerStops p := by
  simp [State.withdraws, owner, unseized]

theorem withdraws_of_other {p : PatchId} {party : Party} (other : (s.patch p).floor.owner ≠ some party) :
    s.withdraws p party = s.unqueue p party := by
  simp [State.withdraws, other]

/-- Settles O42: a withdrawal by its place on the floor, and the four works of the arbiter as `FloorWork`. -/
theorem withdrawalsAreTakenByPlace : Obligations.WithdrawalsAreTakenByPlace := by
  refine ⟨fun p party s => ⟨withdraws_of_seized, fun owner unseized => ?owner, fun other => ?queued⟩,
    fun p party l s => ?work⟩
  case owner =>
    dsimp only
    rw [withdraws_of_owner owner unseized]
    refine ⟨fun c q queue => ?granted, fun empty hangs => ?hang, fun empty noHang => ?idle⟩
    case granted =>
      rw [ownerStops_of_queue queue]
      exact ⟨rfl, grant_owner p _ _ _⟩
    case hang =>
      rw [ownerStops_of_empty empty, if_neg hangs, enterHang_floor]
      refine ⟨rfl, rfl, rfl, by simp, by simp, fun e => ?_, fun l named => ?_⟩
      · rw [State.enterHang, retarget_entry, modPatch_entry]
      · rw [owner, named]
    case idle =>
      obtain ⟨rest, -, floor⟩ := enterIdle_floor (s := s) p
      rw [ownerStops_of_empty empty, if_pos noHang, floor]
      exact ⟨rfl, rfl⟩
  case queued =>
    dsimp only
    rw [withdraws_of_other other, unqueue_eq]
  case work =>
    exact ⟨(arbitrates_claimArrives p party).floorWork (clipFate_claimArrives p party),
      (arbitrates_withdraws p party).floorWork (clipFate_withdraws p party),
      (arbitrates_pass p).floorWork (clipFate_pass p),
      (arbitrates_emergencyChange l).floorWork (clipFate_emergencyChange l)⟩

end Sys2Proof.Machine

/-! SUPPORT. The walks of DISBAND, REVOKE and RESET PATCHES, and the telling of requesters: what each of their parts keeps is
kept by the whole (R43–R45, R65–R68, R76, R139). -/

namespace Sys2Proof.Machine

variable {s t : State} {P Q : State → Prop}

/-! ## The parts of a walk -/

/-- Work that waits for no purge of one patch or one leg. -/
def Work.atRest : Work → Bool
  | .disband (some _) _ _ _ | .revoke (some _) _ _ _ => false
  | .leave | .monitorOff | .halt | .disband none _ _ _ | .revoke none _ _ _ | .resetPatches _ | .resetAll _ => true

/-- What the walks are made of, each part keeping a property: the place of the tick, the end of the request, a wait, the
teardown of an ACTIVE patch with its purge complete or not, and the removal of a leg likewise. -/
structure WalksKeep (P : State → Prop) : Prop where
  place : ∀ s w, P s → P { s with walk := w }
  finish : ∀ s r results, P s → P (s.finish r results)
  rests : ∀ s work, work.atRest = true → P s → P (s.setWork work)
  tears : ∀ s p reason requester, P s → (s.patch p).state = .active → (s.teardown p reason requester).2 = true →
    P ((s.teardown p reason requester).1.freePatch p)
  disbands : ∀ s p rest done force, P s → (s.patch p).state = .active →
    (s.teardown p .disbanded .disband).2 = false →
    P ((s.teardown p .disbanded .disband).1.setWork (.disband (some p) rest done force))
  resets : ∀ s p, P s → (s.patch p).state = .active → (s.teardown p .reset (.resetPatches p)).2 = false →
    P (s.teardown p .reset (.resetPatches p)).1
  unbinds : ∀ s l left a, P s → (s.leg l).membership = none → P (s.revokeLeg l left a)
  removes : ∀ s l p requester, P s → (s.leg l).membership = some p → (s.removeMember p l requester).2 = true →
    P (s.removeMember p l requester).1
  revokes : ∀ s l p rest a total, P s → (s.leg l).membership = some p → (s.removeMember p l .revoke).2 = false →
    P ((s.removeMember p l .revoke).1.setWork (.revoke (some (l, p)) rest a total))

theorem WalksKeep.and (first : WalksKeep P) (second : WalksKeep Q) : WalksKeep fun s => P s ∧ Q s where
  place s w := fun ⟨p, q⟩ => ⟨first.place s w p, second.place s w q⟩
  finish s r results := fun ⟨p, q⟩ => ⟨first.finish s r results p, second.finish s r results q⟩
  rests s work rest := fun ⟨p, q⟩ => ⟨first.rests s work rest p, second.rests s work rest q⟩
  tears s p reason requester := fun ⟨one, other⟩ active done =>
    ⟨first.tears s p reason requester one active done, second.tears s p reason requester other active done⟩
  disbands s p rest done force := fun ⟨one, other⟩ active waits =>
    ⟨first.disbands s p rest done force one active waits, second.disbands s p rest done force other active waits⟩
  resets s p := fun ⟨one, other⟩ active waits =>
    ⟨first.resets s p one active waits, second.resets s p other active waits⟩
  unbinds s l left a := fun ⟨one, other⟩ alone =>
    ⟨first.unbinds s l left a one alone, second.unbinds s l left a other alone⟩
  removes s l p requester := fun ⟨one, other⟩ member done =>
    ⟨first.removes s l p requester one member done, second.removes s l p requester other member done⟩
  revokes s l p rest a total := fun ⟨one, other⟩ member waits =>
    ⟨first.revokes s l p rest a total one member waits, second.revokes s l p rest a total other member waits⟩

/-! ## The walks -/

theorem WalksKeep.asksPurge (keeps : WalksKeep P) {further : Bool} {t : State} (asks : s.asksPurge further = some t)
    (holds : P s) : P t ∧ t.patches = s.patches ∧ t.legs = s.legs := by
  unfold State.asksPurge at asks
  split at asks
  · split at asks
    · cases asks; exact ⟨holds, rfl, rfl⟩
    · cases asks
    · cases asks; exact ⟨keeps.place s _ holds, rfl, rfl⟩
  · cases asks; exact ⟨holds, rfl, rfl⟩

theorem WalksKeep.waitForTick (keeps : WalksKeep P) {work : Work} (rest : work.atRest = true) (holds : P s) :
    P (s.waitForTick work) := keeps.place _ _ (keeps.rests s work rest holds)

theorem WalksKeep.disbandWalk (keeps : WalksKeep P) (force : Bool) (ps : List PatchId) :
    ∀ (further : Bool) (done : Nat) (s : State), P s → P (s.disbandWalk force further ps done) := by
  induction ps with
  | nil => exact fun _ _ s holds => keeps.finish s _ _ holds
  | cons p rest ih =>
    intro further done s holds
    by_cases active : (s.patch p).state = .active
    · by_cases halts : force = false ∧ s.holdsEmergency p = true
      · obtain ⟨rfl, emergency⟩ := halts
        rw [disbandWalk_halts active emergency]
        exact keeps.finish s _ _ holds
      have passes : force = true ∨ s.holdsEmergency p = false := by
        cases force
        · exact .inr (by simpa using halts)
        · exact .inl rfl
      cases asks : s.asksPurge further with
      | none =>
        rw [disbandWalk_waits active passes asks]
        exact keeps.waitForTick rfl holds
      | some u =>
        obtain ⟨before, patches, -⟩ := keeps.asksPurge asks holds
        have stillActive : (u.patch p).state = .active := by
          rw [State.patch, patches]
          exact active
        rw [disbandWalk_tearsDown active passes asks]
        split
        next done => exact ih _ _ _ (keeps.tears u p _ _ before stillActive done)
        next waits => exact keeps.disbands u p _ _ _ before stillActive (by simpa using waits)
    · rw [disbandWalk_passes active]
      exact ih _ _ s holds

/-- What removing a member and unbinding it keep is kept by the walk of REVOKE; a leg just removed is no member. -/
theorem WalksKeep.revokeWalk (keeps : WalksKeep P) (a : AgencyId) (total : Nat) (ls : List LegId) :
    ∀ (further : Bool) (s : State), P s → P (s.revokeWalk further a total ls) := by
  induction ls with
  | nil => exact fun _ s holds => keeps.finish s _ _ holds
  | cons l rest ih =>
    intro further s holds
    cases membership : (s.leg l).membership with
    | none =>
      rw [revokeWalk_unbinds membership]
      exact ih _ _ (keeps.unbinds s l none a holds membership)
    | some p =>
      cases asks : s.asksPurge further with
      | none =>
        rw [revokeWalk_waits membership asks]
        exact keeps.waitForTick rfl holds
      | some u =>
        obtain ⟨before, -, legs⟩ := keeps.asksPurge asks holds
        have still : (u.leg l).membership = some p := by
          rw [State.leg, legs]
          exact membership
        rw [revokeWalk_removes membership asks]
        split
        next done =>
          refine ih _ _ (keeps.unbinds _ l _ a (keeps.removes u l p _ before still done) ?_)
          rw [State.removeMember, leg_modLeg_same]
          rfl
        next waits => exact keeps.revokes u l p _ _ _ before still (by simpa using waits)

theorem WalksKeep.walkOn (keeps : WalksKeep P) (holds : P s) : P s.walkOn := by
  unfold State.walkOn
  split
  · have begun := keeps.place s { s.walk with due := false } holds
    dsimp only
    split
    · exact keeps.disbandWalk _ _ _ _ _ begun
    · exact keeps.revokeWalk _ _ _ _ _ begun
    · exact begun
  · exact holds

/-- The end of a RESET PATCHES, or its wait for the patches left. -/
theorem WalksKeep.patchReset (keeps : WalksKeep P) {p : PatchId} (freed : P (s.freePatch p)) : P (s.patchReset p) := by
  unfold State.patchReset
  dsimp only
  split
  · split
    · exact keeps.finish _ _ _ freed
    · exact keeps.rests _ _ rfl freed
  · exact freed

/-! ## The patches that a teardown leaves ACTIVE -/

theorem released_leg (l m : LegId) :
    (s.modLeg l Leg.released).leg m = if m = l then (s.leg l).released else s.leg m := leg_modLeg l m _

theorem releaseAll_patch (ls : List LegId) (q : PatchId) :
    (ls.foldl (fun s l => s.modLeg l Leg.released) s).patch q = s.patch q :=
  releaseAll_keeps s (fun t => t.patch q) (fun _ _ => rfl) ls

theorem freeEntries_patch (taken : List EntryId) (q : PatchId) :
    (s.freeEntries taken).patch q =
      { s.patch q with chain := (s.patch q).chain.filter fun e => !taken.contains e } := by
  rw [State.freeEntries, patch_mapPatches, mapEntries_patch]

theorem purge_patch (sel : Selector) (r : Requester) (q : PatchId) : ((s.purge sel r).1.patch q).fixed = (s.patch q).fixed ∧
    ((s.purge sel r).1.patch q).floor = (s.patch q).floor := by
  unfold State.purge
  dsimp only
  split
  · rw [freeEntries_patch]
    exact ⟨rfl, rfl⟩
  · rw [show ∀ (u : State) (r : Routes), ({ u with routes := r } : State).patch q = u.patch q from fun _ _ => rfl,
      mapEntries_patch]
    exact ⟨rfl, rfl⟩

theorem purgeOverlays_patch (p q : PatchId) : ((s.purgeOverlays p).patch q).fixed = (s.patch q).fixed ∧
    ((s.purgeOverlays p).patch q).floor = (s.patch q).floor := by
  unfold State.purgeOverlays
  dsimp only
  split
  · rw [overlayEnded_patch]
    exact purge_patch _ _ q
  · exact purge_patch _ _ q

theorem state_of_fixed {x y : Patch} (same : x.fixed = y.fixed) : x.state = y.state :=
  show x.fixed.state = y.fixed.state from congrArg _ same

theorem members_of_fixed {x y : Patch} (same : x.fixed = y.fixed) : x.members = y.members :=
  show x.fixed.members = y.fixed.members from congrArg _ same

theorem monitors_of_fixed {x y : Patch} (same : x.fixed = y.fixed) : x.monitors = y.monitors :=
  show x.fixed.monitors = y.fixed.monitors from congrArg _ same

theorem clearFloor_patch_fixed (p q : PatchId) : ((s.clearFloor p).patch q).fixed = (s.patch q).fixed := by
  have cleared : ((s.modFloor p fun _ => {}).patch q).fixed = (s.patch q).fixed := ((calm_modFloor p _).patches q).1
  unfold State.clearFloor
  dsimp only
  split
  · exact cleared
  · rw [offerFloor_patch, cleared]
  · rw [offerFloor_patch, cleared]

/-- A patch in teardown before its purges: DISBANDING, its clip ended, its floor cleared, its members released and its
lists emptied (items 1 to 5 of R67). -/
def State.vacated (s : State) (p : PatchId) (reason : EndReason) : State :=
  let ended := ((s.modPatch p fun x => { x with state := .disbanding }).endInTeardown p reason).1
  let keyed := (ended.clearFloor p).demands p fun _ => false
  ((keyed.patch p).members.foldl (fun s l => s.modLeg l Leg.released) keyed).modPatch p fun x =>
    { x with members := [], monitors := [] }

/-- Whether a teardown ends an overlay, and so purges overlays first. -/
def State.endsOverlay (s : State) (p : PatchId) (reason : EndReason) : Bool :=
  ((s.modPatch p fun x => { x with state := .disbanding }).endInTeardown p reason).2

/-- The state in which a teardown asks for its purge by patch tag. -/
def State.untagged (s : State) (p : PatchId) (reason : EndReason) : State :=
  if s.endsOverlay p reason then (s.vacated p reason).purgeOverlays p else s.vacated p reason

theorem teardown_eq (p : PatchId) (reason : EndReason) (requester : Requester) :
    s.teardown p reason requester = (s.untagged p reason).purge (.tag p) requester := rfl

theorem vacated_patch_fixed (p : PatchId) (reason : EndReason) (q : PatchId) :
    ((s.vacated p reason).patch q).fixed =
      if q = p then { (s.patch p).fixed with state := .disbanding, members := [], monitors := [] }
      else (s.patch q).fixed := by
  let begun := s.modPatch p fun x => { x with state := .disbanding }
  let keyed := ((begun.endInTeardown p reason).1.clearFloor p).demands p fun _ => false
  have floored : (keyed.patch q).fixed = (begun.patch q).fixed :=
    (((calm_demands p _).patches q).1.trans (clearFloor_patch_fixed p q)).trans
      (congrArg (fun v : Vector Patch 12 => (v.get q).fixed) (endInTeardown_patches _ _ _))
  have vacated : (s.vacated p reason).patch q =
      if q = p then { keyed.patch p with members := [], monitors := [] } else keyed.patch q := by
    unfold State.vacated
    dsimp only
    rw [patch_modPatch, releaseAll_patch, releaseAll_patch]
  rw [vacated]
  split
  next same =>
    subst same
    have here : (begun.patch q).fixed = { (s.patch q).fixed with state := .disbanding } := by
      dsimp only [begun]
      rw [patch_modPatch_same]
      rfl
    have emptied (x : Patch) : ({ x with members := [], monitors := [] } : Patch).fixed =
        { x.fixed with members := [], monitors := [] } := rfl
    rw [emptied, floored, here]
  next other =>
    rw [floored]
    exact congrArg Patch.fixed (patch_modPatch_ne _ _ other)

theorem untagged_patch (p : PatchId) (reason : EndReason) (q : PatchId) :
    ((s.untagged p reason).patch q).fixed = ((s.vacated p reason).patch q).fixed ∧
      ((s.untagged p reason).patch q).floor = ((s.vacated p reason).patch q).floor := by
  unfold State.untagged
  split
  · exact purgeOverlays_patch p q
  · exact ⟨rfl, rfl⟩

/-- A patch in teardown is DISBANDING with no member and no monitor, and no other patch changes but its floor's queue and
its chain (R67). -/
theorem teardown_patch_fixed (p : PatchId) (reason : EndReason) (requester : Requester) (q : PatchId) :
    ((s.teardown p reason requester).1.patch q).fixed =
      if q = p then { (s.patch p).fixed with state := .disbanding, members := [], monitors := [] }
      else (s.patch q).fixed := by
  rw [teardown_eq, (purge_patch _ _ q).1, (untagged_patch p reason q).1, vacated_patch_fixed]

theorem patchReset_patch (p q : PatchId) : (s.patchReset p).patch q = if q = p then {} else s.patch q := by
  have freed : (s.freePatch p).patch q = if q = p then {} else s.patch q := patch_modPatch _ _ _
  unfold State.patchReset
  dsimp only
  split
  · split <;> simp [freed]
  · exact freed

/-- RESET PATCHES tears down its patches one by one; those still to come stay ACTIVE until their turn. -/
theorem WalksKeep.resetEach (keeps : WalksKeep P) (ps : List PatchId) :
    ∀ s : State, ps.Nodup → (∀ p ∈ ps, (s.patch p).state = .active) → P s → P (s.resetEach ps) := by
  induction ps with
  | nil => exact fun _ _ _ holds => holds
  | cons p rest ih =>
    intro s once active holds
    obtain ⟨fresh, restOnce⟩ := List.nodup_cons.mp once
    have here : (s.patch p).state = .active := active p (List.mem_cons_self ..)
    have others : ∀ q ∈ rest, ((s.teardown p .reset (.resetPatches p)).1.patch q).state = .active := by
      intro q later
      have other : q ≠ p := fun same => fresh (same ▸ later)
      have kept := teardown_patch_fixed (s := s) p .reset (.resetPatches p) q
      rw [if_neg other] at kept
      rw [state_of_fixed kept]
      exact active q (List.mem_cons_of_mem _ later)
    unfold State.resetEach
    dsimp only
    split
    next done =>
      refine ih _ restOnce (fun q later => ?_) (keeps.patchReset (keeps.tears s p _ _ holds here done))
      have other : q ≠ p := fun same => fresh (same ▸ later)
      rw [patchReset_patch, if_neg other]
      exact others q later
    next waits => exact ih _ restOnce others (keeps.resets s p holds here (by simpa using waits))

/-! ## Telling requesters -/

/-- What a walk is told of keeps a property: the patch freed and the leg unbound that the request in progress waits on, a
patch freed for RESET PATCHES, and the end of an overlay. -/
structure TellsKeep (P : State → Prop) (purges : List Purge) : Prop where
  walks : WalksKeep P
  frees : ∀ s p rest done force, P s → s.work = some (.disband (some p) rest done force) → P (s.freePatch p)
  unbinds : ∀ s l p rest a total, P s → s.work = some (.revoke (some (l, p)) rest a total) →
    P (s.revokeLeg l (some p) a)
  resets : ∀ s p, P s → (∃ r ∈ purges, r.requester = .resetPatches p) → P (s.freePatch p)
  overlay : ∀ s, P s → P s.overlayEnded

theorem TellsKeep.tell {purges : List Purge} (keeps : TellsKeep P purges) {r : Purge} (outstanding : r ∈ purges)
    (holds : P s) : P (s.tell r.requester) := by
  unfold State.tell
  split
  · split
    · exact keeps.walks.finish _ _ _ holds
    · exact holds
  · split
    · exact keeps.walks.finish _ _ _ holds
    · exact holds
  · split
    next work => exact keeps.walks.revokeWalk _ _ _ _ _ (keeps.unbinds s _ _ _ _ _ holds work)
    next => exact holds
  · split
    next work => exact keeps.walks.disbandWalk _ _ _ _ _ (keeps.frees s _ _ _ _ holds work)
    next => exact holds
  next p told => exact keeps.walks.patchReset (keeps.resets s p holds ⟨r, outstanding, told⟩)
  · exact keeps.overlay s holds

/-- The state as purges complete, before anyone is told: their entries are free. -/
def State.purgesFreed (s : State) : State :=
  State.freeEntries { s with routes := { s.routes with purges := [] } } (s.routes.purges.flatMap Purge.entries)

theorem completePurges_eq :
    s.completePurges = s.routes.purges.foldl (fun s r => s.tell r.requester) s.purgesFreed := rfl

theorem TellsKeep.completePurges (keeps : TellsKeep P s.routes.purges) (freed : P s.purgesFreed) :
    P s.completePurges := by
  rw [completePurges_eq]
  exact List.foldlRecOn (motive := P) _ _ freed fun t before r outstanding => keeps.tell outstanding before

end Sys2Proof.Machine

/-! SUPPORT. The moves that the commands are made of, as far as the clips, the plans, the bindings and the link go: what
every move keeps is kept by every command. -/

namespace Sys2Proof.Machine

variable {s t u : State} {h : Header} {k : Kind} {take : State → State}

/-! ## Moves -/

/-- Work that leaves the clips, the plans and the link but for its notices, and writes no binding; it may clear one. -/
structure Still (s t : State) : Prop where
  clips : t.clips = s.clips
  plans : ∀ i, t.planEntry i = s.planEntry i
  link : Noticed s.link t.link
  bindings : ∀ l b, (t.leg l).binding = some b → (s.leg l).binding = some b

/-- A binding taken from a plan entry or from a binding, with a priority within its ceiling or its default (R35, R40). -/
def BindingFrom (s : State) (b : Binding) : Prop :=
  (b.priority ≤ b.ceiling ∨ b.priority = b.defaultPriority) ∧
    ((∃ i, (s.planEntry i).ceiling = b.ceiling ∧ (s.planEntry i).defaultPriority = b.defaultPriority) ∨
      ∃ l c, (s.leg l).binding = some c ∧ c.ceiling = b.ceiling ∧ c.defaultPriority = b.defaultPriority)

/-- A playback begun by PLAY: the context filled and the slot in its state (R153–R155). -/
def State.starts (s : State) (n : SlotId) (p : PatchId) (mode : PlayMode) (priority repeats : Byte) : State :=
  (s.modContext fun _ => playContext n p mode (match mode with | .take => .waiting | .overlay => .playing) priority
    repeats).modSlot n fun x => { x with state := match mode with | .take => .waiting | .overlay => .playing }

/-- One move of the part. -/
inductive Move : State → State → Prop where
  | still {s t : State} : Still s t → Move s t
  | grants (s : State) : Move s s.clipGranted
  | clears (s : State) : Move s s.clearPlayback
  | ends (s : State) (reason : EndReason) : (s.context.phase = .playing ∨ s.context.phase = .tone) →
      Move s (s.enterEnding reason)
  | endsDue (s : State) (reason : EndReason) : s.context.endDue.isSome = true → Move s (s.enterEnding reason)
  | supplies (s : State) : Move s s.supplyClip.2
  | finishes (s : State) (r : Result) (results : List Byte) : Move s (s.finish r results)
  | works (s : State) (work : Work) : Move s (s.setWork work)
  | stamps (s : State) : Move s s.advanceStamp
  | sends (s : State) : Move s (takeReplySent s)
  | drops (s : State) (n : Nat) : Move s (s.dropNotices n)
  | plans (s : State) (i : PlanId) (e : PlanArgs) : planInRange e = true → Move s (s.setPlan i (planOf e))
  | binds (s : State) (l : LegId) (b : Binding) : BindingFrom s b →
      Move s (s.modLeg l fun x => { x with binding := some b })
  | empties (s : State) (n : SlotId) : (s.slot n).state = .empty ∨ (s.slot n).state = .ready →
      Move s (s.modSlot n fun _ => {})
  | releases (s : State) (n : SlotId) : (s.slot n).state = .stream →
      Move s (s.modSlot n fun _ => {}).emptyRing
  | fills (s : State) (n : SlotId) (length level : Nat) : s.slot n = {} →
      blocksFor length ≤ s.freeBlocks.length →
      Move s (fillSlot n length level (s.freeBlocks.take (blocksFor length)) s)
  | writes (s : State) (n : SlotId) (offset : Nat) (samples : List Sample) : Move s (writeSlot n offset samples s)
  | streams (s : State) (n : SlotId) (length : Word32) (level : Byte) : (s.slot n).state = .empty →
      s.streamSlot = none → Move s (streamDefined s n length level)
  | appends (s : State) (n : SlotId) (samples : List Sample) : s.acceptsData n = true →
      s.clips.accepted + samples.length ≤ (s.slot n).length → s.clips.ring.length + samples.length ≤ 1024 →
      Move s (s.appendRing samples)
  | plays (s : State) (n : SlotId) (p : PatchId) (mode : PlayMode) (priority repeats : Byte) : s.context.phase = .none →
      ((s.slot n).state = .ready ∨ (s.slot n).state = .stream) → priority.toNat ≤ 14 →
      Move s (s.starts n p mode priority repeats)

/-- Any number of moves. -/
def Moves : State → State → Prop := Relation.ReflTransGen Move

theorem Moves.refl (s : State) : Moves s s := Relation.ReflTransGen.refl

theorem Move.moves (move : Move s t) : Moves s t := Relation.ReflTransGen.single move

theorem Moves.tail (moves : Moves s t) (last : Move t u) : Moves s u := Relation.ReflTransGen.tail moves last

theorem Moves.trans (first : Moves s t) (second : Moves t u) : Moves s u := Relation.ReflTransGen.trans first second

theorem Moves.keeps {P : State → Prop} (moves : Moves s t) (move : ∀ s t, Move s t → P s → P t) (holds : P s) : P t := by
  induction moves with
  | refl => exact holds
  | tail _ last ih => exact move _ _ last ih

theorem Still.refl (s : State) : Still s s := ⟨rfl, fun _ => rfl, .refl _, fun _ _ => id⟩

theorem Still.trans (first : Still s t) (second : Still t u) : Still s u where
  clips := second.clips.trans first.clips
  plans i := (second.plans i).trans (first.plans i)
  link := first.link.trans second.link
  bindings l b bound := first.bindings l b (second.bindings l b bound)

theorem Still.moves (still : Still s t) : Moves s t := (Move.still still).moves

theorem Moves.still (moves : Moves s t) (still : Still t u) : Moves s u := moves.tail (.still still)

theorem planEntry_of_directory (same : t.directory = s.directory) (i : PlanId) : t.planEntry i = s.planEntry i :=
  congrArg (fun d : Directory => d.plans.get i) same

theorem leg_of_legs (same : t.legs = s.legs) (l : LegId) : t.leg l = s.leg l :=
  congrArg (fun v : Vector Leg 20 => v.get l) same

theorem Calm.still (calm : Calm s t) : Still s t where
  clips := calm.clips
  plans := planEntry_of_directory calm.directory
  link := calm.link
  bindings l _ bound := binding_eq_of_fixed (calm.legs l) ▸ bound

theorem Calm.moves (calm : Calm s t) : Moves s t := calm.still.moves

theorem Arbitrates.moves (work : Arbitrates s t) : Moves s t :=
  work.keeps (P := Moves s) (fun _ _ calm before => before.still calm.still) (fun u before => before.tail (.grants u))
    (fun u before => before.tail (.clears u)) (.refl s)

/-- Work on the patches, the routes, the walk and the agencies alone. -/
theorem Still.of_same (clips : t.clips = s.clips) (plans : ∀ i, t.planEntry i = s.planEntry i) (link : t.link = s.link)
    (legs : t.legs = s.legs) : Still s t where
  clips := clips
  plans := plans
  link := link ▸ .refl _
  bindings l _ bound := leg_of_legs legs l ▸ bound

/-- Work on the leg records that writes no binding. -/
theorem Still.of_legs (clips : t.clips = s.clips) (plans : ∀ i, t.planEntry i = s.planEntry i) (link : t.link = s.link)
    (bindings : ∀ l, (t.leg l).binding = (s.leg l).binding) : Still s t where
  clips := clips
  plans := plans
  link := link ▸ .refl _
  bindings l _ bound := bindings l ▸ bound

theorem still_modPatch (p : PatchId) (f : Patch → Patch) : Still s (s.modPatch p f) :=
  .of_same (by simp) (by simp) (by simp) (by simp)

theorem still_modLeg (l : LegId) {f : Leg → Leg} (keeps : (f (s.leg l)).binding = (s.leg l).binding) :
    Still s (s.modLeg l f) :=
  .of_legs (by simp) (by simp) (by simp) fun m => by
    rw [leg_modLeg]
    split
    next same => rw [same, keeps]
    next => rfl

/-- A binding cleared. -/
theorem still_unbound (l : LegId) {f : Leg → Leg} (clears : ∀ x, (f x).binding = none) : Still s (s.modLeg l f) where
  clips := by simp
  plans := by simp
  link := by rw [modLeg_link]; exact .refl _
  bindings m b bound := by
    rw [leg_modLeg] at bound
    split at bound
    · rw [clears] at bound; cases bound
    · exact bound

/-- What of a masked change follows the writing of the record is calm. -/
theorem calm_mask (l : LegId) (f : Leg → Leg) : Calm (s.modLeg l f) (s.maskedChange l f) := by
  unfold State.maskedChange
  dsimp only
  split
  · exact calm_startMasking l
  · exact calm_evaluate l
  · exact .refl _

theorem still_freeEntries (taken : List EntryId) : Still s (s.freeEntries taken) :=
  .of_same (by simp) (by simp) (by simp) (by simp)

theorem still_purge (sel : Selector) (r : Requester) : Still s (s.purge sel r).1 :=
  .of_same (by simp) (planEntry_of_directory (by simp)) (by simp) (by simp)

theorem still_reserve (p : PatchId) (kind : EntryKind) (dest : LegId) (gain : Nat) (source : Option Party) :
    Still s (s.reserve p kind dest gain source) :=
  .of_same (by simp) (by simp) (by simp) (by simp)

/-! ## The parts of the walks -/

theorem moves_removeMember (p : PatchId) (l : LegId) (r : Requester) : Moves s (s.removeMember p l r).1 := by
  have left := (arbitrates_leaveFloor (s := s.modPatch p fun x => { x with members := x.members.filter (· != l) }) p
    l).moves
  exact ((((still_modPatch p _).moves.trans left).still (calm_setDemand l false).still).still
    (still_purge (.dest p l) r)).still (still_modLeg l rfl)

theorem moves_endUnreported (reason : EndReason) : Moves s (s.endUnreported reason) :=
  (arbitrates_endUnreported reason).moves

/-- The clip's end in a teardown is an end without a report, or the overlay's end that its purge completes (R67, R159). -/
theorem moves_endInTeardown (p : PatchId) (reason : EndReason) : Moves s (s.endInTeardown p reason).1 := by
  unfold State.endInTeardown
  dsimp only
  split
  · split
    · exact .refl s
    · exact moves_endUnreported _
    · exact moves_endUnreported _
    · exact moves_endUnreported _
    · exact moves_endUnreported _
    next phase _ => exact (Move.ends s _ (.inl phase)).moves
    next phase _ => exact (Move.ends s _ (.inr phase)).moves
    · exact .refl s
  · exact .refl s

theorem moves_overlayEnded : Moves s s.overlayEnded := by
  have cleared : Moves s s.clearPlayback := (Move.clears s).moves
  unfold State.overlayEnded
  dsimp only
  split <;> split
  · exact (cleared.still (calm_offer _ _ _).still).tail (.finishes _ _ _)
  · exact cleared.tail (.finishes _ _ _)
  · exact cleared.still (calm_offer _ _ _).still
  · exact cleared

theorem moves_purgeOverlays (p : PatchId) : Moves s (s.purgeOverlays p) := by
  have purged : Moves s (s.purge (.overlays p) .overlayEnd).1 := (still_purge _ _).moves
  unfold State.purgeOverlays
  dsimp only
  split
  · exact purged.trans moves_overlayEnded
  · exact purged

theorem calm_clearFloor (p : PatchId) : Calm s (s.clearFloor p) := by
  have cleared : Calm s (s.modFloor p fun _ => {}) := calm_modFloor p _
  unfold State.clearFloor
  dsimp only
  split
  · exact cleared
  · exact cleared.trans (calm_offerFloor p _ _)
  · exact cleared.trans (calm_offerFloor p _ _)

theorem still_releaseAll (ls : List LegId) : Still s (ls.foldl (fun s l => s.modLeg l Leg.released) s) :=
  List.foldlRecOn (motive := Still s) _ _ (.refl s) fun _ before l _ => before.trans (still_modLeg l rfl)

theorem moves_vacated (p : PatchId) (reason : EndReason) : Moves s (s.vacated p reason) := by
  have begun : Moves s (s.modPatch p fun x => { x with state := .disbanding }) := (still_modPatch p _).moves
  have keyed := ((begun.trans (moves_endInTeardown p reason)).still (calm_clearFloor p).still).still
    (calm_demands p fun _ => false).still
  have released (ls : List LegId) := keyed.still (still_releaseAll ls)
  unfold State.vacated
  exact (released _).still (still_modPatch p _)

theorem moves_untagged (p : PatchId) (reason : EndReason) : Moves s (s.untagged p reason) := by
  unfold State.untagged
  split
  · exact (moves_vacated p reason).trans (moves_purgeOverlays p)
  · exact moves_vacated p reason

theorem moves_teardown (p : PatchId) (reason : EndReason) (r : Requester) : Moves s (s.teardown p reason r).1 :=
  (moves_untagged p reason).still (still_purge _ _)

theorem moves_revokeLeg (l : LegId) (left : Option PatchId) (a : AgencyId) : Moves s (s.revokeLeg l left a) := by
  have unbound : Still (s.setDemand l false) ((s.setDemand l false).modLeg l fun x => { x with binding := none }.dropFault) :=
    still_unbound l fun x => by unfold Leg.dropFault; split <;> rfl
  exact (((calm_setDemand l false).still.trans unbound).trans (calm_mask l _).still).trans (calm_offer _ _ _).still |>.moves

theorem walksKeep_moves (s : State) : WalksKeep (Moves s) where
  place u w before := before.still (.of_same rfl (fun _ => rfl) rfl rfl)
  finish u r results before := before.tail (.finishes u r results)
  rests u work _ before := before.tail (.works u work)
  tears u p _ _ before _ _ := (before.trans (moves_teardown p _ _)).still (still_modPatch p _)
  disbands u p _ _ _ before _ _ := (before.trans (moves_teardown p _ _)).tail (.works _ _)
  resets u p before _ _ := before.trans (moves_teardown p _ _)
  unbinds u l left a before _ := before.trans (moves_revokeLeg l left a)
  removes u l p r before _ _ := before.trans (moves_removeMember p l r)
  revokes u l p _ _ _ before _ _ := (before.trans (moves_removeMember p l _)).tail (.works _ _)

theorem tellsKeep_moves (s : State) (purges : List Purge) : TellsKeep (Moves s) purges where
  walks := walksKeep_moves s
  frees _ p _ _ _ before _ := before.still (still_modPatch p _)
  unbinds _ l p _ a _ before _ := before.trans (moves_revokeLeg l (some p) a)
  resets _ p before _ := before.still (still_modPatch p _)
  overlay _ before := before.trans moves_overlayEnded

theorem moves_completePurges : Moves s s.completePurges :=
  (tellsKeep_moves s _).completePurges <| (Still.of_same rfl (fun _ => rfl) rfl rfl :
    Still s { s with routes := { s.routes with purges := [] } }).moves.still (still_freeEntries _)

theorem moves_walkOn : Moves s s.walkOn := (walksKeep_moves s).walkOn (.refl s)

/-! ## What has fallen due -/

theorem moves_takeDueEnd : Moves s s.takeDueEnd := by
  unfold State.takeDueEnd
  split
  next reason due =>
    unfold State.endPlayback State.endOverlay
    split
    · exact (arbitrates_endTake reason).moves
    · split
      · exact (Move.endsDue s reason (by rw [due]; rfl)).moves.trans (moves_purgeOverlays _)
      · exact .refl s
  · exact .refl s

/-! ## What a request's taking comes to -/

/-- A request's taking answers after moves that leave the reply path alone, or becomes the request in progress, with its
reply formed before (R178) or not, and moves on. -/
inductive Served (s : State) (h : Header) : State → Prop where
  | replies {u : State} {code : Byte} {body : List Byte} : Moves s u → u.link.waiting = s.link.waiting →
      u.link.inProgress = s.link.inProgress → Served s h (u.answer h code body)
  | begins {u : State} {k : Kind} {work : Work} : s.link.inProgress = none → Moves (s.begin h k work) u → Served s h u
  | waits {code : Byte} {body : List Byte} {k : Kind} {work : Work} : s.link.inProgress = none →
      Served s h ((s.answer h code body).begin h k work)
  | ends {u : State} : Moves s u → Served s h u

end Sys2Proof.Machine

/-! SUPPORT. What the Leg Units and the floors do of themselves and at the requests that name one leg or one floor: they
write leg records, without membership or binding, and the arbiter does its work. -/

namespace Sys2Proof.Machine

variable {s t u : State}

/-! ## Acts -/

/-- Leg records written, without a membership or a binding, and none of a member parked; nothing else changes. -/
structure Records (s t : State) : Prop where
  legs : ∀ l, (t.leg l).membership = (s.leg l).membership ∧ (t.leg l).binding = (s.leg l).binding ∧
    ((t.leg l).park.parked = true → (s.leg l).park.parked = true ∨ (s.leg l).membership = none)
  patches : t.patches = s.patches
  routes : t.routes = s.routes
  clips : t.clips = s.clips
  directory : t.directory = s.directory
  link : t.link = s.link
  walk : t.walk = s.walk

/-- Leg records written and the arbiter's work, in any order. -/
inductive Acts (s : State) : State → Prop where
  | refl : Acts s s
  | record {t u : State} : Acts s t → Records t u → Acts s u
  | arbiter {t u : State} : Acts s t → Arbitrates t u → Acts s u

theorem Acts.trans (first : Acts s t) (second : Acts t u) : Acts s u := by
  induction second with
  | refl => exact first
  | record _ written ih => exact .record ih written
  | arbiter _ work ih => exact .arbiter ih work

/-- Acts behind acts, said from their end. -/
theorem Acts.after (last : Acts t u) (first : Acts s t) : Acts s u := first.trans last

theorem Records.acts (written : Records s t) : Acts s t := .record .refl written

theorem Arbitrates.acts (work : Arbitrates s t) : Acts s t := .arbiter .refl work

theorem Calm.acts (calm : Calm s t) : Acts s t := (Arbitrates.calm calm).acts

theorem Acts.calm (acts : Acts s t) (calm : Calm t u) : Acts s u := .arbiter acts (.calm calm)

/-- What leg records and the arbiter's work keep is kept by acts. -/
theorem Acts.keeps {P : State → Prop} (acts : Acts s t) (record : ∀ s t, Records s t → P s → P t)
    (arbiter : ∀ s t, Arbitrates s t → P s → P t) (holds : P s) : P t := by
  induction acts with
  | refl => exact holds
  | record _ written ih => exact record _ _ written ih
  | arbiter _ work ih => exact arbiter _ _ work ih

theorem Records.still (written : Records s t) : Still s t :=
  .of_legs written.clips (planEntry_of_directory written.directory) written.link fun l => (written.legs l).2.1

theorem Acts.moves (acts : Acts s t) : Moves s t :=
  acts.keeps (P := Moves s) (fun _ _ written before => before.still written.still)
    (fun _ _ work before => before.trans work.moves) (.refl s)

theorem Acts.link (acts : Acts s t) : Noticed s.link t.link :=
  acts.keeps (P := fun t => Noticed s.link t.link) (fun _ _ written before => written.link ▸ before)
    (fun _ _ work before => before.trans work.kept.link) (.refl _)

/-- One record written with its membership and binding as they were, and parked only if it was, or is no member's. -/
theorem records_modLeg (l : LegId) {f : Leg → Leg}
    (keeps : (f (s.leg l)).membership = (s.leg l).membership ∧ (f (s.leg l)).binding = (s.leg l).binding ∧
      ((f (s.leg l)).park.parked = true → (s.leg l).park.parked = true ∨ (s.leg l).membership = none)) :
    Records s (s.modLeg l f) where
  legs m := by
    rw [leg_modLeg]
    split
    next same => subst same; exact keeps
    next => exact ⟨rfl, rfl, .inl⟩
  patches := by simp
  routes := by simp
  clips := by simp
  directory := by simp
  link := by simp
  walk := by simp

/-- A part of a record written that holds neither membership nor binding nor park state. -/
theorem acts_modLeg (l : LegId) {f : Leg → Leg}
    (keeps : ∀ x, (f x).membership = x.membership ∧ (f x).binding = x.binding ∧ (f x).park = x.park) :
    Acts s (s.modLeg l f) :=
  have ⟨membership, binding, park⟩ := keeps (s.leg l)
  (records_modLeg l ⟨membership, binding, fun parked => .inl (park ▸ parked)⟩).acts

theorem records_mapLegs {f : LegId → Leg → Leg}
    (keeps : ∀ l x, (f l x).membership = x.membership ∧ (f l x).binding = x.binding ∧ (f l x).park = x.park) :
    Records s (s.mapLegs f) where
  legs l := by
    obtain ⟨membership, binding, park⟩ := keeps l (s.leg l)
    rw [leg_mapLegs, park]
    exact ⟨membership, binding, .inl⟩
  patches := by simp
  routes := by simp
  clips := by simp
  directory := by simp
  link := by simp
  walk := by simp

/-! ## The requests of the legs -/

theorem acts_evaluateAux (l : LegId) : Acts s (s.evaluateAux l) := by
  unfold State.evaluateAux
  split
  · exact acts_modLeg l fun x => by
      unfold Leg.followAux
      dsimp only
      split
      · exact ⟨rfl, rfl, rfl⟩
      split
      · exact ⟨rfl, rfl, rfl⟩
      · exact ⟨rfl, rfl, rfl⟩
  · exact .refl

theorem calm_clearFault (l : LegId) : Calm s (s.clearFault l) := by
  have off : Calm s (s.modLeg l fun x => { x with tx := x.tx.released .off none }) := calm_modLeg l fun _ => rfl
  unfold State.clearFault
  split
  · dsimp only
    split
    · exact off.trans (calm_enterLead l)
    · exact off
  all_goals exact .refl s

theorem acts_writeConfig (l : LegId) (a : SetLegArgs) : Acts s (writeConfig l a s) := by
  have configured : Acts s (s.modLeg l (Leg.configured (configOf l a))) := acts_modLeg l fun _ => ⟨rfl, rfl, rfl⟩
  have evaluated := (configured.calm (calm_evaluate l)).trans (acts_evaluateAux l)
  unfold writeConfig
  dsimp only
  split
  · exact evaluated.calm (calm_clearFault l)
  · exact evaluated

theorem acts_parkLeg {l : LegId} (alone : (s.leg l).membership = none) : Acts s (parkLeg l s) := by
  have parked : Acts s (s.modLeg l Leg.parkedAt) := (records_modLeg l ⟨rfl, rfl, fun _ => .inr alone⟩).acts
  unfold parkLeg
  dsimp only
  split
  · exact parked.calm (calm_transmitEvent l _)
  all_goals exact parked

theorem acts_unparkLeg (l : LegId) : Acts s (unparkLeg l s) := by
  have unparked : Acts s (s.modLeg l fun x => { x with park := { x.park with parked := false } }) :=
    (records_modLeg l ⟨rfl, rfl, fun parked => Bool.noConfusion parked⟩).acts
  exact (unparked.calm (calm_evaluate l)).trans (acts_evaluateAux l)

/-! ## The requests of the floor -/

theorem acts_claimChange (l : LegId) {f : State → State} (change : Acts s (f s)) : Acts s (s.claimChange l f) :=
  .arbiter change (arbitrates_claimChange l f)

theorem acts_pressTalk (l : LegId) : Acts s (pressTalk l s) :=
  acts_claimChange l (acts_modLeg l fun _ => ⟨rfl, rfl, rfl⟩)

theorem acts_releaseTalk (l : LegId) : Acts s (releaseTalk l s) := by
  refine acts_claimChange l ?_
  have released : Acts s (s.modLeg l fun x => { x with talk := false }) := acts_modLeg l fun _ => ⟨rfl, rfl, rfl⟩
  dsimp only
  split
  · split
    · exact released.calm (calm_endBar l)
    · exact released
  all_goals exact released

theorem arbitrates_seizeLeg (p : PatchId) (l : LegId) : Arbitrates s (seizeLeg p l s) := by
  unfold seizeLeg
  split
  · exact .calm (calm_modFloor p _)
  · exact (Arbitrates.calm calm_nextEvent).trans (arbitrates_preempt p _ _ _)

theorem arbitrates_clearSeize (p : PatchId) : Arbitrates s (clearSeize p s) := by
  have cleared : Calm s (s.modFloor p fun f => { f with seized := false }) := calm_modFloor p _
  unfold clearSeize
  dsimp only
  split
  · split
    · exact .calm (cleared.trans (calm_modPatch p fun _ => ⟨rfl, rfl⟩))
    · exact (Arbitrates.calm cleared).trans (arbitrates_ownerStops p)
  · exact .refl s

theorem calm_offerLeg (d : Detail) (l : LegId) : Calm s (s.offerLeg d l) := calm_offer _ _ _

/-- The emergency flag written, with its notice and its effect on the floor. -/
theorem acts_emergency (l : LegId) (source : Option EmergencySource) (d : Detail) :
    Acts s (((s.modLeg l fun x => { x with emergency := source }).offerLeg d l).emergencyChange l) :=
  (arbitrates_emergencyChange l).acts.after <| (calm_offerLeg d l).acts.after (acts_modLeg l fun _ => ⟨rfl, rfl, rfl⟩)

theorem acts_declareSet (l : LegId) : Acts s (declareSet l s) := by
  unfold declareSet
  split
  · exact .refl
  · exact acts_emergency l _ _

theorem acts_declareClear (l : LegId) : Acts s (declareClear l s) := by
  unfold declareClear
  split
  · exact .refl
  · exact acts_emergency l _ _

/-! ## The events of the legs -/

theorem calm_auxEdge (l : LegId) (e : Edge) : Calm s (s.auxEdge l e) := by
  unfold State.auxEdge
  split
  · exact .refl s
  all_goals exact (calm_offerMasked _ l).after (calm_modLeg l fun _ => rfl)

theorem acts_auxRose (l : LegId) : Acts s (s.auxRose l) := by
  have edge : Acts s ((s.modLeg l fun x => { x with aux := { active := true } }).auxEdge l .rose) :=
    (calm_auxEdge l _).acts.after (acts_modLeg l fun _ => ⟨rfl, rfl, rfl⟩)
  unfold State.auxRose State.emergencyRise
  split
  · exact edge.trans (acts_emergency l _ _)
  · exact edge

theorem acts_auxFell (l : LegId) : Acts s (s.auxFell l) := by
  have edge : Acts s ((s.modLeg l fun x => { x with aux := { active := false } }).auxEdge l .fell) :=
    (calm_auxEdge l _).acts.after (acts_modLeg l fun _ => ⟨rfl, rfl, rfl⟩)
  unfold State.auxFell
  dsimp only
  split
  · exact edge.calm (calm_confirmFailure l)
  · exact edge

theorem acts_auxEvent (l : LegId) : Acts s (s.auxEvent l) := by
  have evaluated : Acts s (s.evaluateAux l) := acts_evaluateAux l
  unfold State.auxEvent
  dsimp only
  split
  · exact evaluated.trans (acts_auxRose l)
  split
  · exact evaluated.trans (acts_auxFell l)
  · exact evaluated

theorem acts_of_ite {c : Prop} [Decidable c] (acts : Acts s t) : Acts s (if c then t else s) := by
  split
  · exact acts
  · exact .refl

theorem acts_barredExpiry (l : LegId) : Acts s (takeBarredExpiry l s) := by
  refine acts_of_ite ?_
  split
  · exact acts_modLeg l fun _ => ⟨rfl, rfl, rfl⟩
  · exact (calm_endBar l).acts

theorem acts_confirmExpiry (l : LegId) : Acts s (takeConfirmExpiry l s) := by
  unfold takeConfirmExpiry
  dsimp only
  split
  · refine acts_of_ite ?_
    split
    · exact acts_modLeg l fun _ => ⟨rfl, rfl, rfl⟩
    · exact (calm_confirmFailure l).acts
  · exact .refl

theorem acts_talkLimit (p : PatchId) : Acts s (takeTalkLimit p s) := by
  unfold takeTalkLimit
  dsimp only
  split
  · exact acts_of_ite (.arbiter ((calm_offerFloor p _ _).acts.calm (calm_bar _)) (arbitrates_pass p))
  · exact .refl

/-- An event of the legs or floors acts. -/
theorem acts_of_happening {i : Instr} {f : State → State} (row : happening i = some f) :
    fromLine i = true ∨ (∃ address rate, i = .resetLine address rate) ∨ i = .replySent ∨
      (∃ inbound order, i = .frameStart inbound order) ∨ (∃ beforeTick, i = .frameDone beforeTick) ∨
      ∀ s, Acts s (f s) := by
  cases i
  case byteReceived event => exact .inl rfl
  case frameReceived => exact .inl rfl
  case resetLine address rate => exact .inr (.inl ⟨address, rate, rfl⟩)
  case replySent => exact .inr (.inr (.inl rfl))
  case frameStart inbound order => exact .inr (.inr (.inr (.inl ⟨inbound, order, rfl⟩)))
  case frameDone beforeTick => exact .inr (.inr (.inr (.inr (.inl ⟨beforeTick, rfl⟩))))
  all_goals
    cases row
    all_goals refine .inr (.inr (.inr (.inr (.inr fun s => ?_))))
  case resetAllTakesPlace | clipComplete | cutToneEnd => exact .refl
  case carrierConditionChange l high =>
    exact (arbitrates_conditionEvent l).acts.after (acts_modLeg l fun _ => ⟨rfl, rfl, rfl⟩)
  case riseQualifyExpiry l => exact acts_of_ite (arbitrates_riseQualified l).acts
  case dropQualifyExpiry l => exact acts_of_ite (arbitrates_dropQualified l).acts
  case barredDropExpiry l => exact acts_barredExpiry l
  case auxInputChange r high => exact (acts_auxEvent _).after (acts_modLeg _ fun _ => ⟨rfl, rfl, rfl⟩)
  case auxRiseQualifyExpiry r => exact acts_of_ite (acts_auxRose _)
  case auxDropQualifyExpiry r => exact acts_of_ite (acts_auxFell _)
  case leadTimerExpiry r => exact acts_of_ite (acts_modLeg _ fun _ => ⟨rfl, rfl, rfl⟩)
  case tailTimerExpiry r => exact acts_of_ite (calm_releaseKey _ _ _).acts
  case transmitTimeLimit r => exact acts_of_ite (calm_timeOut _).acts
  case lockoutExpiry r => exact acts_of_ite (calm_endLockout _).acts
  case confirmWindowExpiry r => exact acts_confirmExpiry _
  case hangExpiry p => exact acts_of_ite (calm_enterIdle p).acts
  case talkLimitExpiry p => exact acts_talkLimit p

/-! ## The tick's work on legs and floors -/

theorem calm_mapPatches {f : Patch → Patch} (keeps : ∀ x, (f x).fixed = x.fixed ∧ (f x).chain = x.chain) :
    Calm s (s.mapPatches f) := by
  constructor
  case patches => intro p; rw [patch_mapPatches]; exact keeps _
  case link => rw [mapPatches_link]; exact .refl _
  all_goals simp

theorem acts_tickTimers : Acts s s.tickTimers := by
  have legs : Records s (s.mapLegs fun _ x => x.tick) := records_mapLegs fun _ _ => ⟨rfl, rfl, rfl⟩
  unfold State.tickTimers
  exact legs.acts.calm (calm_mapPatches fun _ => ⟨rfl, rfl⟩)

theorem acts_compareVox (inbound : Vector Block 20) (order : List LegId) : Acts s (s.compareVox inbound order) := by
  have peaks : Records s (s.setPeaks inbound) := records_mapLegs fun _ _ => ⟨rfl, rfl, rfl⟩
  refine List.foldlRecOn (motive := Acts s) _ _ peaks.acts fun t before l _ => ?_
  split
  · exact .arbiter before (arbitrates_conditionEvent l)
  · exact before

theorem records_deliver (taken : List Taken) : Records s (s.deliver taken) :=
  records_mapLegs fun l x => by
    unfold Leg.takeFrame
    split <;> exact ⟨rfl, rfl, rfl⟩

end Sys2Proof.Machine

/-! SUPPORT. Every request row answers after moves or begins with them, and every event moves: a property that moves and
replies keep is kept by every step. -/

namespace Sys2Proof.Machine

variable {s t u : State} {h : Header} {k : Kind} {take : State → State}

/-! ## Replies -/

theorem waiting_of_noticed {k m : Link} (noticed : Noticed k m) : m.waiting = k.waiting :=
  show m.quiet.waiting = k.quiet.waiting from congrArg _ noticed.quiet

theorem inProgress_of_noticed {k m : Link} (noticed : Noticed k m) : m.inProgress = k.inProgress :=
  show m.quiet.inProgress = k.quiet.inProgress from congrArg _ noticed.quiet

/-- A reply with nothing moved. -/
theorem served_reply (code : Byte) (body : List Byte) : Served s h (s.answer h code body) := .replies (.refl s) rfl rfl

theorem served_refuse (k : Kind) (r : Result) : Served s h (s.refuse h k r) := served_reply _ _

/-- A reply behind moves that offer notices at most. -/
theorem served_of_moves {results : List Byte} (moves : Moves s u) (noticed : Noticed s.link u.link) :
    Served s h (u.grantReply h k results) :=
  .replies moves (waiting_of_noticed noticed) (inProgress_of_noticed noticed)

theorem Acts.served {results : List Byte} (acts : Acts s u) : Served s h (u.grantReply h k results) :=
  served_of_moves acts.moves acts.link

theorem Still.served {results : List Byte} (still : Still s u) : Served s h (u.grantReply h k results) :=
  served_of_moves still.moves still.link

/-! ## The directory and bindings -/

theorem moves_writePlans (i : Nat) (es : List PlanArgs) (inRange : es.all planInRange = true) :
    Moves s (writePlans s i es) := by
  induction es generalizing s i with
  | nil => exact .refl s
  | cons e es ih =>
    rw [List.all_cons, Bool.and_eq_true] at inRange
    unfold writePlans
    split
    · exact (Move.plans s _ e inRange.1).moves.trans (ih _ inRange.2)
    · exact ih _ inRange.2

theorem served_plan (first : Byte) (es : List PlanArgs) : Served s h (takePlan h first es s) := by
  unfold takePlan
  split
  next fits =>
    refine served_of_moves ((moves_writePlans first.toNat es fits.2.2.2).still (.of_same ?_ ?_ ?_ ?_)) ?_
    · simp
    · exact bumpAgencies_planEntry _
    · simp
    · simp
    · rw [bumpAgencies_link, writePlans_eq]; exact .refl _
  · exact served_refuse _ _

/-- A translation finds a plan entry, and a priority asked for within its ceiling (R34). -/
theorem translate_found {a : AgencyId} {channel : Nat} {expected : Option Byte} {priority : Option Nat} {e : PlanEntry}
    (found : s.translate a channel expected priority = .found e) :
    (∃ i, s.planEntry i = e) ∧ ∀ q ∈ priority, q ≤ e.ceiling := by
  unfold State.translate at found
  dsimp only at found
  iterate 5 (split at found; (· cases found))
  split at found
  · cases found
  next allowed =>
    cases found
    refine ⟨⟨_, rfl⟩, fun q asked => ?_⟩
    cases asked
    simpa using allowed

theorem bindingFrom_bindingOf {a : AgencyId} {channel : Nat} {e : PlanEntry} {q : Nat} (entry : ∃ i, s.planEntry i = e)
    (priority : q ≤ e.ceiling ∨ q = e.defaultPriority) : BindingFrom s (s.bindingOf a channel e q) := by
  obtain ⟨i, rfl⟩ := entry
  exact ⟨priority, .inl ⟨i, rfl, rfl⟩⟩

theorem moves_writeBinding (l : LegId) {b : Binding} (source : BindingFrom s b) : Moves s (s.writeBinding l (some b)) :=
  (Move.binds s l b source).moves.still (calm_mask l _).still

theorem noticed_writeBinding (l : LegId) (b : Option Binding) : Noticed s.link (s.writeBinding l b).link :=
  (calm_mask (s := s) l fun x => { x with binding := b }).link

theorem served_bindFast (l : LegId) (priority : Option Nat) : Served s h (bindFast h l priority s) := by
  unfold bindFast
  split
  · exact served_refuse _ _
  next b bound =>
    split
    · exact served_refuse _ _
    next allowed =>
      have source : BindingFrom s { b with priority := priority.getD b.defaultPriority } := by
        refine ⟨?_, .inr ⟨l, b, bound, rfl, rfl⟩⟩
        cases priority with
        | none => exact .inr rfl
        | some q => exact .inl (by simpa using allowed)
      exact served_of_moves (Move.binds s l _ source).moves (.refl _)

theorem served_bindFull (l : LegId) (a : AgencyId) (channel : Nat) (expected : Option Byte) (priority : Option Nat) :
    Served s h (bindFull h l a channel expected priority s) := by
  unfold bindFull
  split
  · exact served_refuse _ _
  next e found =>
    obtain ⟨entry, allowed⟩ := translate_found found
    refine served_of_moves (moves_writeBinding l (bindingFrom_bindingOf entry ?_)) (noticed_writeBinding l _)
    cases priority with
    | none => exact .inr rfl
    | some q => exact .inl (allowed q rfl)

theorem served_bind (a : BindArgs) : Served s h (takeBind h a s) := by
  unfold takeBind
  split
  · split
    · exact served_refuse _ _
    split
    · exact served_bindFast _ _
    · exact served_bindFull _ _ _ _ _
  · exact served_refuse _ _

theorem still_unbindLeg (l : LegId) : Still s (unbindLeg l s) :=
  (still_unbound l fun x => by unfold Leg.dropFault; split <;> rfl : Still s (s.modLeg l fun x =>
    { x with binding := none }.dropFault)).trans (calm_mask l _).still

/-! ## JOIN -/

/-- The binding that step 7 of JOIN renews comes from a plan entry (R48). -/
theorem bindingFrom_refresh {b c : Binding} {force : Bool} (renewed : s.refresh b force = .renewed c) :
    BindingFrom s c := by
  unfold State.refresh at renewed
  split at renewed
  · cases renewed
  split at renewed
  · cases renewed
  next e found =>
    cases renewed
    refine bindingFrom_bindingOf (translate_found found).1 ?_
    unfold refreshedPriority
    split
    next allowed => exact .inl allowed
    next => exact .inr rfl

/-- The checks of JOIN answer with what step 7 yielded, or refuse (R58). -/
theorem joinChecks_refresh {p : PatchId} {l : LegId} {force override : Bool} {r : Refreshed}
    (checked : joinChecks p l force override s = r) (passed : ∀ e, r ≠ .refused e) :
    (s.patch p).state = .active ∧ (s.leg l).park.parked = false ∧ (s.leg l).membership = none ∧
      (s.patch p).monitors.any (·.1 = l) = false ∧ (s.patch p).members.length < 8 ∧
      ∃ b, (s.leg l).binding = some b ∧ s.refresh b force = r := by
  have refused {e : Result} : ¬ Refreshed.refused e = r := fun same => passed e same.symm
  unfold joinChecks at checked
  dsimp only at checked
  split at checked
  · exact absurd checked refused
  next active =>
    split at checked
    · exact absurd checked refused
    next b bound =>
      split at checked
      · exact absurd checked refused
      next unparked =>
        split at checked
        · exact absurd checked refused
        next alone =>
          split at checked
          · exact absurd checked refused
          next unmonitored =>
            split at checked
            · exact absurd checked refused
            next room =>
              have refreshes : s.refresh b force = r := by
                split at checked
                · exact absurd checked refused
                · split at checked
                  · exact absurd checked refused
                  split at checked
                  · exact absurd checked refused
                  · exact checked
              exact ⟨by simpa using active, by simpa using unparked, by simpa using alone, by simpa only [Bool.not_eq_true] using unmonitored,
                by simpa [Config.memberCapacity] using room, b, bound, refreshes⟩

/-- A new member's standing claim offered (R60). -/
def State.joinClaim (s : State) (p : PatchId) (l : LegId) : State :=
  if (s.leg l).stands l then s.claimArrives p (.leg l) else s

/-- A new member as a destination of its patch's floor (R61). -/
def State.joinFloor (s : State) (p : PatchId) (l : LegId) (e : EntryId) : State :=
  let f := (s.patch p).floor
  if f.state = .idle || f.owner = some (.leg l) then s
  else
    let t := if isRadio l then s.setDemand l true else s
    if f.state = .held then t.modEntry e fun x => { x with pendingSource := f.owner } else t

theorem handToFloor_eq (p : PatchId) (l : LegId) (e : EntryId) :
    s.handToFloor p l e = (s.joinClaim p l).joinFloor p l e := rfl

theorem arbitrates_joinClaim (p : PatchId) (l : LegId) : Arbitrates s (s.joinClaim p l) := by
  unfold State.joinClaim
  split
  · exact arbitrates_claimArrives p _
  · exact .refl s

theorem calm_joinFloor (p : PatchId) (l : LegId) {e : EntryId} (live : (s.entry e).live = true) :
    Calm s (s.joinFloor p l e) := by
  have keyed : Calm s (if isRadio l then s.setDemand l true else s) := by
    split
    · exact calm_setDemand l true
    · exact .refl s
  have still : ((if isRadio l then s.setDemand l true else s).entry e).live = true := by
    rw [live_of_fixed (keyed.entries e), live]
  unfold State.joinFloor
  dsimp only
  split
  · exact .refl s
  split
  · exact keyed.trans (calm_modEntry e (fun _ => rfl) still)
  · exact keyed

theorem arbitrates_handToFloor (p : PatchId) (l : LegId) {e : EntryId} (live : (s.entry e).live = true) :
    Arbitrates s (s.handToFloor p l e) := by
  have claimed := arbitrates_joinClaim (s := s) p l
  rw [handToFloor_eq]
  exact claimed.calmly (calm_joinFloor p l (by rw [live_of_fixed (claimed.kept.entries e), live]))

/-- A leg's entry of JOIN written, before the floor is told. -/
def admitted (p : PatchId) (l : LegId) (b : Binding) (s : State) : State :=
  ((s.modPatch p fun x => { x with members := x.members ++ [l] }).modLeg l fun x =>
    { x with membership := some p }).reserve p .member l (memberGain l b) none

theorem joinLeg_eq (p : PatchId) (l : LegId) (b : Binding) (renewed : Bool) (e : EntryId) :
    joinLeg p l b renewed e s =
      (admitted p l b (if renewed then s.writeBinding l (some b) else s)).handToFloor p l e := rfl

theorem still_admitted (p : PatchId) (l : LegId) (b : Binding) : Still s (admitted p l b s) :=
  ((still_modPatch p _).trans (still_modLeg l rfl)).trans (still_reserve p _ _ _ _)

theorem lowestFree_of_routes (same : t.routes = s.routes) : t.lowestFree = s.lowestFree := by
  unfold State.lowestFree State.entry
  rw [same]

theorem reserve_eq {e : EntryId} (free : s.lowestFree = some e) (p : PatchId) (kind : EntryKind) (dest : LegId)
    (gain : Nat) (source : Option Party) : s.reserve p kind dest gain source =
      (s.modEntry e fun _ =>
        { state := .reserved, tag := some p, kind := some kind, dest := some dest, pendingSource := source,
          gain }).modPatch p fun x => { x with chain := x.chain ++ [e] } := by
  rw [State.reserve, free]

/-- The entry of a new member is the lowest FREE one, reserved (R125). -/
theorem admitted_entry {e : EntryId} (free : s.lowestFree = some e) (p : PatchId) (l : LegId) (b : Binding) :
    (admitted p l b s).entry e =
      { state := .reserved, tag := some p, kind := some .member, dest := some l, gain := memberGain l b } := by
  unfold admitted
  rw [reserve_eq ((lowestFree_of_routes (by simp)).trans free), modPatch_entry, entry_modEntry_same]

theorem arbitrates_joinLeg {e : EntryId} (free : s.lowestFree = some e) (p : PatchId) (l : LegId) (b : Binding) :
    Arbitrates (admitted p l b s) ((admitted p l b s).handToFloor p l e) :=
  arbitrates_handToFloor p l (by rw [admitted_entry free]; rfl)

theorem writeBinding_lowestFree (l : LegId) (b : Option Binding) : (s.writeBinding l b).lowestFree = s.lowestFree :=
  lowestFree_of_routes (by simp [State.writeBinding])

theorem served_joinLeg (p : PatchId) (l : LegId) (b : Binding) {e : EntryId} (free : s.lowestFree = some e)
    (results : List Byte) : Served s h ((joinLeg p l b false e s).grantReply h .join results) :=
  served_of_moves ((still_admitted p l b).moves.trans (arbitrates_joinLeg free p l b).moves)
    ((still_admitted p l b).link.trans (arbitrates_joinLeg free p l b).kept.link)

theorem served_joinLeg_renewed (p : PatchId) (l : LegId) (b : Binding) {e : EntryId} (free : s.lowestFree = some e)
    (results : List Byte) (source : BindingFrom s b) :
    Served s h ((joinLeg p l b true e s).grantReply h .join results) := by
  have work := arbitrates_joinLeg ((writeBinding_lowestFree l (some b)).trans free) p l b
  exact served_of_moves (((moves_writeBinding l source).still (still_admitted p l b)).trans work.moves)
    (((noticed_writeBinding l _).trans (still_admitted p l b).link).trans work.kept.link)

theorem served_join (patch leg options : Byte) : Served s h (takeJoin h patch leg options s) := by
  unfold takeJoin
  split
  · split
    · exact served_refuse _ _
    next free => exact served_joinLeg _ _ _ free _
    next checked free =>
      obtain ⟨-, -, -, -, -, b, -, renewed⟩ := joinChecks_refresh checked (by simp)
      exact served_joinLeg_renewed _ _ _ free _ (bindingFrom_refresh renewed)
    · exact served_refuse _ _
  · exact served_refuse _ _

/-! ## The patches -/

theorem served_open (a : OpenArgs) : Served s h (takeOpen h a s) := by
  unfold takeOpen
  split
  · split
    · exact served_refuse _ _
    · split
      · exact (still_modPatch _ _).served
      · exact served_refuse _ _
  · exact served_refuse _ _

theorem served_access (patch : Byte) (list : AccessArgs) : Served s h (takeAccess h patch list s) := by
  unfold takeAccess
  split
  · split
    · exact (still_modPatch _ _).served
    · exact served_refuse _ _
  · exact served_refuse _ _

theorem served_monitorOn (leg patch gain : Byte) : Served s h (takeMonitorOn h leg patch gain s) := by
  unfold takeMonitorOn
  split
  · split
    · exact served_refuse _ _
    split
    · exact served_refuse _ _
    split
    · refine Still.served (.of_same ?_ ?_ ?_ ?_) <;> simp [State.setMonitorGain]
    split
    · exact served_refuse _ _
    split
    · exact served_refuse _ _
    · exact ((still_reserve _ _ _ _ _).trans (still_modPatch _ _)).served
  · exact served_refuse _ _

/-- Work begun that its purge completes, or that waits for it. -/
theorem served_purge {w : State × Bool} {k : Kind} {work : Work} (idle : s.link.inProgress = none)
    (moves : Moves (s.begin h k work) w.1) : Served s h (if w.2 then w.1.finish .ok [] else w.1) := by
  split
  · exact .begins idle (moves.tail (.finishes _ _ _))
  · exact .begins idle moves

theorem served_monitorOff (leg patch gain : Byte) (idle : s.link.inProgress = none) :
    Served s h (takeMonitorOff h leg patch gain s) := by
  unfold takeMonitorOff
  split
  · split
    · exact served_purge idle ((still_modPatch _ _).moves.still (still_purge _ _))
    · exact served_reply _ _
  · exact served_refuse _ _

theorem served_leave (leg : Byte) (idle : s.link.inProgress = none) : Served s h (takeLeave h leg s) := by
  unfold takeLeave
  split
  · exact served_refuse _ _
  split
  · exact served_refuse _ _
  · exact served_purge idle (moves_removeMember _ _ _)

theorem served_disband (first count options : Byte) (idle : s.link.inProgress = none) :
    Served s h (takeDisband h first count options s) := by
  unfold takeDisband
  split
  · exact .begins idle ((walksKeep_moves _).disbandWalk _ _ _ _ _ (.refl _))
  · exact served_refuse _ _

theorem served_revoke (agency : Byte) (idle : s.link.inProgress = none) : Served s h (takeRevoke h agency s) := by
  unfold takeRevoke
  split
  · exact served_refuse _ _
  next a _ =>
    have withdrawn : Still (s.begin h .revoke (.revoke none (s.revokeList a) a (s.revokeList a).length))
        ((s.modAgency a fun x => { x with valid := false }.bumped).begin h .revoke
          (.revoke none (s.revokeList a) a (s.revokeList a).length)) :=
      .of_same rfl (fun _ => rfl) rfl rfl
    exact .begins idle ((walksKeep_moves _).revokeWalk _ _ _ _ _ withdrawn.moves)

theorem served_resetPatches (idle : s.link.inProgress = none) : Served s h (takeResetPatches h s) := by
  unfold takeResetPatches
  split
  · exact served_reply _ _
  · refine .begins idle ((walksKeep_moves _).resetEach _ _ ((List.nodup_finRange 12).filter _) ?_ (.refl _))
    intro p named
    rw [List.mem_filter, decide_eq_true_eq] at named
    exact named.2

theorem served_resetAll (idle : s.link.inProgress = none) : Served s h (takeResetAll h s) := .waits idle

/-! ## The clips -/

theorem served_loadDefine (slot : Byte) (length : Word32) (level : Byte) :
    Served s h (takeLoadDefine h slot length level s) := by
  have defines {n : SlotId} (free : (s.slot n).state = .empty ∨ (s.slot n).state = .ready) :
      let t := s.modSlot n fun _ => {}
      Served s h (if t.freeBlocks.length < blocksFor length.toNat then t.refuse h .load .memoryFull
        else
          let u := fillSlot n length.toNat level.toNat (t.freeBlocks.take (blocksFor length.toNat)) t
          u.grantReply h .load (num16 u.freeBlocks.length)) := by
    have emptied : Moves s (s.modSlot n fun _ => {}) := (Move.empties s n free).moves
    intro t
    split
    · exact .replies emptied rfl rfl
    next room =>
      exact served_of_moves (emptied.tail (.fills _ n _ _ (slot_modSlot_same s n _) (Nat.le_of_not_lt room))) (.refl _)
  unfold takeLoadDefine
  split
  · split
    next empty => exact defines (.inl empty)
    next ready => exact defines (.inr ready)
    all_goals exact served_refuse _ _
  · exact served_refuse _ _

theorem served_loadWrite (slot : Byte) (offset : Word32) (samples : List Sample) :
    Served s h (takeLoadWrite h slot offset samples s) := by
  unfold takeLoadWrite
  split
  · split
    · exact served_refuse _ _
    split
    · exact served_refuse _ _
    · exact served_of_moves (Move.writes s _ _ _).moves (.refl _)
  · exact served_refuse _ _

theorem served_loadRelease (slot : Byte) : Served s h (takeLoadRelease h slot s) := by
  have releases (n : SlotId) : Moves s (releaseSlot n s) ∧ (releaseSlot n s).link = s.link := by
    unfold releaseSlot
    split
    next ready => exact ⟨(Move.empties s n (.inr ready)).moves, rfl⟩
    next stream => exact ⟨(Move.releases s n stream).moves, rfl⟩
    all_goals exact ⟨.refl s, rfl⟩
  unfold takeLoadRelease
  split
  · exact served_refuse _ _
  next n _ =>
    split
    · exact served_refuse _ _
    · obtain ⟨moves, link⟩ := releases n
      exact served_of_moves moves (link ▸ .refl _)

theorem served_streamDefine (slot : Byte) (length : Word32) (level : Byte) :
    Served s h (takeStreamDefine h slot length level s) := by
  unfold takeStreamDefine
  split
  · split
    · exact served_refuse _ _
    next free =>
      obtain ⟨empty, single⟩ : (s.slot _).state = .empty ∧ s.streamSlot = none := by simpa using free
      exact served_of_moves (Move.streams s _ length level empty single).moves (.refl _)
  · exact served_refuse _ _

theorem served_streamData (slot : Byte) (samples : List Sample) : Served s h (takeStreamData h slot samples s) := by
  unfold takeStreamData
  split
  · split
    · exact served_refuse _ _
    next accepts =>
      split
      · exact served_refuse _ _
      next declared =>
        split
        · exact served_refuse _ _
        next room =>
          exact served_of_moves (Move.appends s _ samples (by simpa using accepts) (Nat.le_of_not_lt declared)
            (Nat.le_of_not_lt room)).moves (.refl _)
  · exact served_refuse _ _

/-- The checks of PLAY that the moves of a playback look at (R153). -/
theorem playChecks_passed {n : SlotId} {p : PatchId} {overlay : Bool} {repeats : Byte}
    (passed : playChecks n p overlay repeats s = none) : s.context.phase = .none ∧
      ((s.slot n).state = .ready ∨ (s.slot n).state = .stream) ∧ (s.patch p).state = .active ∧
      (overlay = true → (s.patch p).overlayLegs.length ≤ s.freeEntryCount) := by
  unfold playChecks at passed
  dsimp only at passed
  split at passed
  · cases passed
  next idle =>
    split at passed
    · cases passed
    next ready =>
      split at passed
      · cases passed
      split at passed
      · cases passed
      next active =>
        split at passed
        · cases passed
        next room =>
          refine ⟨by simpa using idle, ?_, by simpa using active, fun overlays => ?_⟩
          · by_contra neither
            exact ready ⟨fun same => neither (.inl same), fun same => neither (.inr same)⟩
          · exact Nat.le_of_not_lt fun short => room ⟨overlays, short⟩

theorem reserveAll_keeps {α : Type} (g : State → α) {p : PatchId} {kind : EntryKind} {gain : State → Nat}
    {source : Option Party} (keeps : ∀ s l, g (State.reserve s p kind l (gain s) source) = g s) (ls : List LegId) :
    g (ls.foldl (fun s l => s.reserve p kind l (gain s) source) s) = g s := by
  induction ls generalizing s with
  | nil => rfl
  | cons l ls ih => rw [List.foldl_cons, ih, keeps]

/-- The entries of an overlay reserved, before the playback begins. -/
def State.overlaid (s : State) (n : SlotId) (p : PatchId) : State :=
  (s.patch p).overlayLegs.foldl (fun s l => s.reserve p .overlay l (s.slot n).level (some .clip)) s

theorem still_overlaid (n : SlotId) (p : PatchId) : Still s (s.overlaid n p) :=
  List.foldlRecOn (motive := Still s) _ _ (.refl s) fun _ before _ _ => before.trans (still_reserve p _ _ _ _)

theorem playOverlay_eq (n : SlotId) (p : PatchId) (priority repeats : Byte) :
    playOverlay n p priority repeats s = (s.overlaid n p).starts n p .overlay priority repeats := rfl

theorem playTake_eq (n : SlotId) (p : PatchId) (priority repeats : Byte) :
    playTake n p priority repeats s = (s.starts n p .take priority repeats).claimArrives p .clip := rfl

theorem served_play (slot patch mode priority repeats : Byte) :
    Served s h (takePlay h slot patch mode priority repeats s) := by
  unfold takePlay
  split
  next n p slotted named inRange =>
    have low : priority.toNat ≤ 14 := by
      rw [Bool.and_eq_true, decide_eq_true_eq] at inRange
      exact inRange.2
    split
    · exact served_refuse _ _
    next passed =>
      obtain ⟨idle, ready, -, -⟩ := playChecks_passed passed
      split
      · have reserved := still_overlaid (s := s) n p
        have start : Move (s.overlaid n p) ((s.overlaid n p).starts n p .overlay priority repeats) :=
          .plays _ n p .overlay priority repeats (by rw [context_of_clips reserved.clips]; exact idle)
            (by rw [slot_of_clips reserved.clips]; exact ready) low
        exact served_of_moves (reserved.moves.tail start) reserved.link
      · have start := Move.plays s n p .take priority repeats idle ready low
        exact served_of_moves (start.moves.trans (arbitrates_claimArrives p .clip).moves)
          (arbitrates_claimArrives (s := s.starts n p .take priority repeats) p .clip).kept.link
  · exact served_refuse _ _

theorem served_endTake {results : List Byte} : Served s h ((s.endTake .halted).grantReply h .halt results) :=
  (arbitrates_endTake _).acts.served

theorem served_halt (idle : s.link.inProgress = none) : Served s h (takeHalt h s) := by
  have overlay (phase : s.context.phase = .playing ∨ s.context.phase = .tone) :
      Served s h ((s.begin h .halt .halt).endOverlay .halted) := by
    unfold State.endOverlay
    split
    · exact .begins idle ((Move.ends (s.begin h .halt .halt) _ phase).moves.trans (moves_purgeOverlays _))
    · exact .begins idle (.refl _)
  unfold takeHalt
  dsimp only
  split
  · exact served_reply _ _
  · exact served_endTake
  · exact served_endTake
  · exact served_endTake
  · exact served_endTake
  next phase _ => exact overlay (.inl phase)
  next phase _ => exact overlay (.inr phase)
  · exact .begins idle (.refl _)

/-! ## The requests of legs and floors -/

theorem served_talk (leg : Byte) {effect : LegId → State → State} (acts : ∀ l s, Acts s (effect l s)) :
    Served s h (takeTalk h leg effect s) := by
  unfold takeTalk
  split
  · exact served_refuse _ _
  split
  · exact served_refuse _ _
  · exact (acts _ s).served

theorem served_declare (leg : Byte) {effect : LegId → State → State} {results : Leg → List Byte}
    (acts : ∀ l s, Acts s (effect l s)) : Served s h (takeDeclare h leg effect results s) := by
  unfold takeDeclare
  split
  · exact served_refuse _ _
  · exact (acts _ s).served

theorem served_seize (patch leg : Byte) : Served s h (takeSeize h patch leg s) := by
  unfold takeSeize
  split
  · split
    · exact served_refuse _ _
    split
    · exact served_refuse _ _
    · exact (arbitrates_seizeLeg _ _).acts.served
  · exact served_refuse _ _

theorem served_seizeClear (patch : Byte) : Served s h (takeSeizeClear h patch s) := by
  unfold takeSeizeClear
  split
  · exact served_refuse _ _
  split
  · exact served_refuse _ _
  · exact (arbitrates_clearSeize _).acts.served

theorem served_setLeg (a : SetLegArgs) : Served s h (takeSetLeg h a s) := by
  unfold takeSetLeg
  split
  · split
    · exact served_refuse _ _
    · exact (acts_writeConfig _ a).served
  · exact served_refuse _ _

theorem served_park (leg : Byte) : Served s h (takePark h leg s) := by
  unfold takePark
  split
  · exact served_refuse _ _
  split
  · exact served_refuse _ _
  next alone =>
    split
    · exact served_reply _ _
    · exact (acts_parkLeg (by simpa [Leg.isMember] using alone)).served

theorem served_unpark (leg : Byte) : Served s h (takeUnpark h leg s) := by
  unfold takeUnpark
  split
  · exact served_refuse _ _
  · split
    · exact (acts_unparkLeg _).served
    · exact served_reply _ _

theorem served_events : Served s h (takeEvents h s) := by
  unfold takeEvents
  split
  · exact served_reply _ _
  next l _ =>
    have cleared : Acts s (s.modLeg l fun x => { x with flags := {} }) := acts_modLeg l fun _ => ⟨rfl, rfl, rfl⟩
    exact cleared.served

theorem served_agency (a : AgencyArgs) : Served s h (takeAgency h a s) := by
  unfold takeAgency
  split
  · refine Still.served (.of_same ?_ (fun _ => rfl) ?_ ?_) <;> simp
  · exact served_refuse _ _

theorem served_unbind (leg : Byte) : Served s h (takeUnbind h leg s) := by
  unfold takeUnbind
  split
  · exact served_refuse _ _
  split
  · exact served_refuse _ _
  · exact (still_unbindLeg _).served

/-! ## The requests that only reply -/

theorem served_fetch (max : Byte) : Served s h (takeFetch h max s) := by
  unfold takeFetch
  split
  · exact .replies (Move.drops s _).moves rfl rfl
  · exact served_refuse _ _

theorem served_dirq (table first count : Byte) : Served s h (takeDirq h table first count s) := by
  by_cases inRange : ArgumentsInRange (.dirq h table first count)
  · rw [takeDirq_of_inRange inRange]
    exact served_reply _ _
  · rw [takeDirq_of_outOfRange inRange]
    exact served_refuse _ _

theorem served_legq (leg : Byte) : Served s h (takeLegq h leg s) := by
  unfold takeLegq
  split <;> exact served_reply _ _

theorem served_patchq (patch : Byte) : Served s h (takePatchq h patch s) := by
  unfold takePatchq
  split <;> exact served_reply _ _

theorem served_floorq (patch : Byte) : Served s h (takeFloorq h patch s) := by
  unfold takeFloorq
  split <;> exact served_reply _ _

theorem served_routeq (patch : Byte) : Served s h (takeRouteq h patch s) := by
  unfold takeRouteq
  split
  · exact served_reply _ _
  · split <;> exact served_reply _ _

/-! ## Every row -/

theorem answer_inProgress (code : Byte) (body : List Byte) :
    (s.answer h code body).link.inProgress = s.link.inProgress := by
  unfold State.answer
  split
  · rfl
  · unfold State.formReply State.startReply
    split <;> rfl

theorem served_of_taking {i : Instr} (row : taking i = some (h, k, take))
    (idle : servedBeside k = false → s.link.inProgress = none) : Served s h (take s) := by
  cases i <;> cases row
  case status => exact served_reply _ _
  case fetch => exact served_fetch _
  case resetAll => exact served_resetAll (idle rfl)
  case resetPatches => exact served_resetPatches (idle rfl)
  case events => exact served_events
  case setLeg => exact served_setLeg _
  case park => exact served_park _
  case unpark => exact served_unpark _
  case legq => exact served_legq _
  case agency => exact served_agency _
  case plan => exact served_plan _ _
  case revoke => exact served_revoke _ (idle rfl)
  case bind => exact served_bind _
  case unbind => exact served_unbind _
  case dirq => exact served_dirq _ _ _
  case openPatch => exact served_open _
  case join => exact served_join _ _ _
  case leave => exact served_leave _ (idle rfl)
  case disband => exact served_disband _ _ _ (idle rfl)
  case access => exact served_access _ _
  case monitorOn => exact served_monitorOn _ _ _
  case monitorOff => exact served_monitorOff _ _ _ (idle rfl)
  case patchq => exact served_patchq _
  case talkPress => exact served_talk _ fun l _ => acts_pressTalk l
  case talkRelease => exact served_talk _ fun l _ => acts_releaseTalk l
  case seize => exact served_seize _ _
  case seizeClear => exact served_seizeClear _
  case floorq => exact served_floorq _
  case declareOn => exact served_declare _ fun l _ => acts_declareSet l
  case declareOff => exact served_declare _ fun l _ => acts_declareClear l
  case routeq => exact served_routeq _
  case loadDefine => exact served_loadDefine _ _ _
  case loadWrite => exact served_loadWrite _ _ _
  case loadRelease => exact served_loadRelease _
  case streamDefine => exact served_streamDefine _ _ _
  case streamData => exact served_streamData _ _
  case play => exact served_play _ _ _ _ _
  case halt => exact served_halt (idle rfl)
  case clipq => exact served_reply _ _

theorem moves_beginFrame (inbound : Vector Block 20) : Moves s (s.beginFrame inbound) := by
  have supplied : Moves s s.supplyClip.2 := (Move.supplies s).moves
  refine supplied.still ?_
  rw [beginFrame_eq]
  exact .of_same rfl (planEntry_of_directory (by simp)) (by simp) (by simp)

theorem moves_frameStart (inbound : Vector Block 20) (order : List LegId) : Moves s (takeFrameStart inbound order s) := by
  unfold takeFrameStart
  split
  · exact .refl s
  have begun : Moves s (s.advanceStamp.tickTimers.beginFrame inbound) :=
    ((Move.stamps s).moves.trans acts_tickTimers.moves).trans (moves_beginFrame inbound)
  have ended : ∀ t, Moves s t → Moves s t.endBeforeTick := fun t before => by
    unfold State.endBeforeTick
    split
    · exact before.trans moves_takeDueEnd
    · exact before
  exact ((ended _ begun).trans (acts_compareVox inbound order).moves).trans moves_walkOn

/-- The frame in progress is over, and so many further purges come before the next tick. -/
theorem still_frameOver (beforeTick : Option Nat) :
    Still s { s with routes := { s.routes with frame := none }, walk := { s.walk with beforeTick } } :=
  .of_same rfl (fun _ => rfl) rfl rfl

theorem moves_frameDone (beforeTick : Option Nat) : Moves s (takeFrameDone beforeTick s) := by
  unfold takeFrameDone
  split
  · exact .refl s
  next taken _ =>
    exact ((records_deliver taken).still.moves.still (still_frameOver beforeTick)).trans moves_completePurges

theorem moves_of_happening {i : Instr} {f : State → State} (row : happening i = some f) (own : fromLine i = false)
    (resets : ∀ address rate, i ≠ .resetLine address rate) (s : State) : Moves s (f s) := by
  obtain line | ⟨address, rate, same⟩ | rfl | ⟨inbound, order, rfl⟩ | ⟨beforeTick, rfl⟩ | acts := acts_of_happening row
  · rw [own] at line; cases line
  · exact absurd same (resets address rate)
  · cases row; exact (Move.sends s).moves
  · cases row; exact moves_frameStart inbound order
  · cases row; exact moves_frameDone beforeTick
  · exact (acts s).moves

/-- A property is kept by every step when every move keeps it, and replies, the receiver, a reset of the whole part, the
beginning of a request, and the queue of commands. -/
theorem kept_of_moves {P : State → Prop} (queue : ∀ s rest, P s → P { s with pending := rest })
    (move : ∀ s t, Move s t → P s → P t)
    (answer : ∀ s h code body, P s → s.link.waiting.length < 4 → P (s.answer h code body))
    (receiver : ∀ s r, P s → P (s.setReceiver r))
    (reset : ∀ s address rate stamp, P s → P (resetWith s (Link.afterReset address rate stamp)))
    (begins : ∀ s h k work, P s → s.link.inProgress = none → (h.broadcast = true ∨ s.link.waiting.length ≤ 4) →
      P (s.begin h k work))
    (holds : P s) (next : step s = .next t) : P t := by
  have moved : ∀ {s t : State}, Moves s t → P s → P t := fun moves => moves.keeps move
  have silent : ∀ {s : State} {h : Header} {code : Byte} {body : List Byte}, h.broadcast = true →
      s.answer h code body = s := fun broadcast => by simp [State.answer, broadcast]
  refine step_keeps queue (fun i s t holds => exec_keeps ?settle answer receiver reset ?taken ?happens holds) holds next
  case settle =>
    intro s holds
    unfold State.settle
    split
    · exact reset s _ _ 0 holds
    · exact moved moves_takeDueEnd holds
  case taken =>
    intro i h k take row s holds admitted
    obtain ⟨progress, reply⟩ := admitted
    have idle : servedBeside k = false → s.link.inProgress = none := fun alone => by
      obtain none | ⟨beside, -⟩ := progress
      · exact none
      · rw [alone] at beside; cases beside
    have served := served_of_taking row idle
    generalize take s = t at served
    cases served with
    | replies moves waiting _ =>
      have before := moved moves holds
      obtain broadcast | room := reply
      · exact (silent broadcast).symm ▸ before
      · exact answer _ _ _ _ before (waiting ▸ room)
    | begins none moves =>
      exact moved moves (begins s _ _ _ holds none (reply.imp id fun room => by omega))
    | waits none =>
      obtain broadcast | room := reply
      · rw [silent broadcast]
        exact begins s _ _ _ holds none (.inl broadcast)
      · exact begins _ _ _ _ (answer _ _ _ _ holds room)
          ((answer_inProgress _ _).trans none) (.inr (answer_waiting_le _ _ 3 (by omega)))
    | ends moves => exact moved moves holds
  case happens =>
    intro i f row own s holds
    by_cases resets : ∃ address rate, i = .resetLine address rate
    · obtain ⟨address, rate, rfl⟩ := resets
      cases row
      exact reset s address rate s.now holds
    · exact moved (moves_of_happening row own (fun address rate same => resets ⟨address, rate, same⟩) s) holds

end Sys2Proof.Machine

/-! SUPPORT. The clips after each operation of the Clip Player: the slots, the ring and the context that a grant, an end and
a frame's supply leave (R146, R147, R156–R159). -/

namespace Sys2Proof.Machine

variable {s t u : State}

/-! ## Slots -/

theorem slot_modSlot (n m : SlotId) (f : Slot → Slot) :
    (s.modSlot n f).slot m = if m = n then f (s.slot n) else s.slot m := by
  split
  next same => rw [same, slot_modSlot_same]
  next other => rw [slot_modSlot_ne _ _ other]

/-- A slot whose playback has ended: READY if STORED, STREAM if STREAM (R145, R159). -/
def Slot.restored (x : Slot) : Slot :=
  { x with state := match x.mode with
      | some .stored => .ready
      | some .stream => .stream
      | none => x.state }

theorem restored_of_none {x : Slot} (mode : x.mode = none) : x.restored = x := by
  obtain ⟨_, _, _, _, _⟩ := x
  cases mode
  rfl

theorem restoreSlot_slot (n m : SlotId) :
    (s.restoreSlot n).slot m = if m = n then (s.slot n).restored else s.slot m := by
  cases mode : (s.slot n).mode with
  | none =>
    have kept : s.restoreSlot n = s := by rw [State.restoreSlot, mode]
    rw [kept, restored_of_none mode]
    split
    next same => rw [same]
    next => rfl
  | some kind =>
    cases kind with
    | stored =>
      have changed : s.restoreSlot n = s.modSlot n fun x => { x with state := .ready } := by
        rw [State.restoreSlot, mode]
      rw [changed, slot_modSlot, Slot.restored, mode]
    | stream =>
      have changed : s.restoreSlot n = (s.modSlot n fun x => { x with state := .stream }).emptyRing := by
        rw [State.restoreSlot, mode]
      rw [changed, slot_emptyRing, slot_modSlot, Slot.restored, mode]

theorem clearPlayback_slot (m : SlotId) :
    s.clearPlayback.slot m = if m = s.context.slot then (s.slot s.context.slot).restored else s.slot m := by
  rw [State.clearPlayback, slot_modContext, restoreSlot_slot]

theorem clearPlayback_context : s.clearPlayback.context = {} := rfl

/-- The end of a playback empties the ring if its slot is in STREAM mode (R159). -/
theorem clearPlayback_ring :
    ((s.slot s.context.slot).mode = some .stream → s.clearPlayback.clips.ring = [] ∧ s.clearPlayback.clips.accepted = 0) ∧
      ((s.slot s.context.slot).mode ≠ some .stream →
        s.clearPlayback.clips.ring = s.clips.ring ∧ s.clearPlayback.clips.accepted = s.clips.accepted) := by
  unfold State.clearPlayback State.restoreSlot
  cases (s.slot s.context.slot).mode with
  | none => exact ⟨nofun, fun _ => ⟨rfl, rfl⟩⟩
  | some kind =>
    cases kind with
    | stored => exact ⟨nofun, fun _ => ⟨rfl, rfl⟩⟩
    | stream => exact ⟨fun _ => ⟨rfl, rfl⟩, fun other => absurd rfl other⟩

theorem clipGranted_slot (waiting : s.context.phase = .waiting) (m : SlotId) : s.clipGranted.slot m =
    if m = s.context.slot then { s.slot s.context.slot with state := .playing } else s.slot m := by
  unfold State.clipGranted
  rw [waiting]
  exact slot_modSlot _ m _

theorem clipGranted_context (waiting : s.context.phase = .waiting) :
    s.clipGranted.context = { s.context with phase := .playing } := by
  unfold State.clipGranted
  rw [waiting] <;> rfl

theorem clipGranted_ring : s.clipGranted.clips.ring = s.clips.ring ∧ s.clipGranted.clips.accepted = s.clips.accepted := by
  unfold State.clipGranted
  cases s.context.phase <;> exact ⟨rfl, rfl⟩

/-! ## The supply of a frame -/

/-- A supply of stored samples moves the position, the count played and the repeats, and may make the end due. -/
theorem supplyStored_keeps (read : Nat → Sample) (length free n : Nat) (c : Context) :
    ∃ position played repeats due, (c.supplyStored read length free n).2 =
      { c with position, played, repeats, endDue := due } := by
  have one (c : Context) : ∃ position played repeats due, (c.supplyOne read length free).2 =
      { c with position, played, repeats, endDue := due } := by
    unfold Context.supplyOne
    split
    · exact ⟨_, _, _, _, rfl⟩
    · dsimp only
      split
      · unfold Context.endPass
        split <;> exact ⟨_, _, _, _, rfl⟩
      · exact ⟨_, _, _, _, rfl⟩
  induction n generalizing c with
  | zero => exact ⟨_, _, _, _, rfl⟩
  | succ n ih =>
    obtain ⟨position, played, repeats, due, first⟩ := one c
    obtain ⟨position', played', repeats', due', rest⟩ := ih (c.supplyOne read length free).2
    refine ⟨position', played', repeats', due', ?_⟩
    rw [Context.supplyStored]
    dsimp only
    rw [rest, first]

/-- A supply of cut tone moves the cut-tone phase, and may make the end due. -/
theorem supplyTone_keeps (places : Nat) (c : Context) : ∃ due, (c.supplyTone places).2 =
    { c with tone := c.tone + min places (Config.toneSamples - c.tone), endDue := due } := by
  unfold Context.supplyTone
  dsimp only
  split <;> exact ⟨_, rfl⟩

/-- What a frame's supply does to the clips: nothing, or a stored clip's context moves, or a stream's ring and context, or
the cut tone's context (R156–R158). -/
inductive Supplied (s : State) : State → Prop where
  | silent : Supplied s s
  | stored {c : Context} {count : Nat} (playing : s.context.phase = .playing)
      (mode : (s.slot s.context.slot).mode = some .stored)
      (moved : ∃ position played repeats due, c = { s.context with position, played, repeats, endDue := due }) :
      Supplied s { s with clips := { s.clips with context := c }, freeCount := count }
  | stream {ring : List Sample} {c : Context} (playing : s.context.phase = .playing)
      (mode : (s.slot s.context.slot).mode = some .stream)
      (moved : (∃ need due, need ≤ s.clips.ring.length ∧ need ≤ (s.slot s.context.slot).length - s.context.played.toNat ∧
          ring = s.clips.ring.drop need ∧
          c = { s.context with played := s.context.played + BitVec.ofNat 32 need, endDue := due }) ∨
        (∃ tone due, s.clips.ring.length ≤ (s.slot s.context.slot).length - s.context.played.toNat ∧ ring = [] ∧
          c = { s.context with played := s.context.played + BitVec.ofNat 32 s.clips.ring.length, phase := .tone, tone,
                               endDue := due })) :
      Supplied s { s with clips := { s.clips with context := c, ring } }
  | tone {c : Context} (phase : s.context.phase = .tone)
      (moved : ∃ tone due, c = { s.context with tone, endDue := due }) :
      Supplied s { s with clips := { s.clips with context := c } }

theorem supplied_supplyClip : Supplied s s.supplyClip.2 := by
  unfold State.supplyClip
  dsimp only
  split
  · exact .silent
  · split
    next playing mode =>
      exact .stored playing mode (supplyStored_keeps _ _ _ _ _)
    next playing mode =>
      refine .stream playing mode ?_
      unfold Context.supplyStream
      dsimp only
      split
      next enough =>
        split
        · exact .inl ⟨_, _, enough, Nat.min_le_right _ _, rfl, rfl⟩
        · exact .inl ⟨_, _, enough, Nat.min_le_right _ _, rfl, rfl⟩
      next short =>
        obtain ⟨due, toned⟩ := supplyTone_keeps (8 - s.clips.ring.length)
          { s.context with played := s.context.played + BitVec.ofNat 32 s.clips.ring.length, phase := .tone }
        exact .inr ⟨_, due, by omega, rfl, toned⟩
    next phase =>
      obtain ⟨due, toned⟩ := supplyTone_keeps 8 s.context
      exact .tone phase ⟨_, due, toned⟩
    · exact .silent

end Sys2Proof.Machine

/-! SUPPORT. The bounds of the Notice Queue, the ring and the reply path, and the priorities, under every step (R110, R144,
R146, R174, R185). -/

namespace Sys2Proof.Machine

variable {s t u : State}

/-! ## The buffers -/

theorem Supplied.memory (supplied : Supplied s t) : t.clips.memory = s.clips.memory := by
  cases supplied <;> rfl

theorem Supplied.ring_le (supplied : Supplied s t) : t.clips.ring.length ≤ s.clips.ring.length := by
  cases supplied with
  | silent | stored _ _ _ | tone _ _ => exact le_rfl
  | stream _ _ moved =>
    obtain ⟨need, due, -, -, rfl, -⟩ | ⟨tone, due, -, rfl, -⟩ := moved
    · exact (List.length_drop ▸ Nat.sub_le _ _)
    · exact Nat.zero_le _

theorem BufferLaw.of_same (law : BufferLaw s) (notices : t.link.notices = s.link.notices) (clips : t.clips = s.clips) :
    BufferLaw t := ⟨notices ▸ law.notices, clips ▸ law.ring, clips ▸ law.memory⟩

theorem notices_answer (h : Header) (code : Byte) (body : List Byte) :
    (s.answer h code body).link.notices = s.link.notices := by
  unfold State.answer State.formReply State.startReply
  split
  · rfl
  · split <;> rfl

theorem notices_finish (r : Result) (results : List Byte) : (s.finish r results).link.notices = s.link.notices := by
  unfold State.finish
  split
  · rfl
  · exact notices_answer _ _ _

theorem notices_startReply : s.startReply.link.notices = s.link.notices := by
  unfold State.startReply
  split <;> rfl

theorem replySent_keeps : (takeReplySent s).link.notices = s.link.notices ∧ (takeReplySent s).clips = s.clips ∧
    (takeReplySent s).directory = s.directory ∧ (takeReplySent s).legs = s.legs := by
  unfold takeReplySent
  split
  · exact ⟨rfl, rfl, rfl, rfl⟩
  · dsimp only
    split
    · split
      · exact ⟨rfl, rfl, rfl, rfl⟩
      · exact ⟨notices_startReply, by simp, by simp, by simp⟩
    · exact ⟨notices_startReply, by simp, by simp, by simp⟩

theorem clearPlayback_ring_le : s.clearPlayback.clips.ring.length ≤ s.clips.ring.length := by
  obtain ⟨streams, others⟩ := clearPlayback_ring (s := s)
  by_cases mode : (s.slot s.context.slot).mode = some .stream
  · rw [(streams mode).1]; exact Nat.zero_le _
  · rw [(others mode).1]

theorem bufferLaw_move (move : Move s t) (law : BufferLaw s) : BufferLaw t := by
  cases move with
  | still still => exact ⟨still.link.bound law.notices, still.clips ▸ law.ring, still.clips ▸ law.memory⟩
  | grants =>
    refine ⟨?_, ?_, ?_⟩
    · rw [clipGranted_link]; exact law.notices
    · rw [clipGranted_ring.1]; exact law.ring
    · rw [clipGranted_keeps.memory]; exact law.memory
  | clears =>
    refine ⟨?_, clearPlayback_ring_le.trans law.ring, ?_⟩
    · rw [clearPlayback_link]; exact law.notices
    · rw [clearPlayback_keeps.memory]; exact law.memory
  | supplies =>
    have supplied := supplied_supplyClip (s := s)
    refine ⟨?_, supplied.ring_le.trans law.ring, ?_⟩
    · rw [supplyClip_link]; exact law.notices
    · rw [supplied.memory]; exact law.memory
  | finishes r results => exact law.of_same (notices_finish r results) (by simp)
  | sends => exact law.of_same replySent_keeps.1 replySent_keeps.2.1
  | works work => exact law.of_same rfl rfl
  | stamps => exact law.of_same rfl rfl
  | plans => exact law.of_same rfl rfl
  | binds => exact law.of_same rfl rfl
  | drops n => exact ⟨(List.length_drop ▸ Nat.sub_le _ _ : (s.link.notices.drop n).length ≤ _).trans law.notices, law.ring, law.memory⟩
  | ends | endsDue | empties | plays => exact ⟨law.notices, law.ring, law.memory⟩
  | releases | streams => exact ⟨law.notices, Nat.zero_le _, law.memory⟩
  | fills => exact ⟨law.notices, law.ring, Memory.wf_zeroBlocks _ _ law.memory⟩
  | writes => exact ⟨law.notices, law.ring, Memory.wf_writeClip _ _ _ _ law.memory⟩
  | appends n samples _ _ room => exact ⟨law.notices, by rw [State.appendRing, List.length_append]; exact room, law.memory⟩

theorem bufferLaw_step (next : step s = .next t) (law : BufferLaw s) : BufferLaw t := by
  refine kept_of_moves (P := BufferLaw) ?queue (fun _ _ => bufferLaw_move) ?answer ?receiver ?reset ?begins law next
  case queue => exact fun s rest law => law.of_same rfl rfl
  case answer => exact fun s h code body law _ => law.of_same (notices_answer h code body) (by simp)
  case receiver => exact fun s r law => law.of_same rfl rfl
  case reset => exact fun s _ _ _ _ => ⟨Nat.zero_le _, Nat.zero_le _, Memory.wf_reset⟩
  case begins => exact fun s _ _ _ law _ _ => law.of_same rfl rfl

/-! ## The reply path -/

theorem ReplyLaw.of_same (law : ReplyLaw s) (waiting : t.link.waiting = s.link.waiting)
    (progress : t.link.inProgress = s.link.inProgress) : ReplyLaw t :=
  ⟨waiting ▸ law.waiting, fun r began addressed => waiting ▸ law.beside r (progress ▸ began) addressed⟩

/-- A reply formed lengthens the path by one at most. -/
theorem replyLaw_answer (h : Header) (code : Byte) (body : List Byte) (law : ReplyLaw s)
    (room : s.link.waiting.length < 4) : ReplyLaw (s.answer h code body) := by
  have le := answer_waiting_le (s := s) (h := h) code body 3 (by omega)
  exact ⟨by omega, fun _ _ _ => le⟩

theorem replyLaw_finish (r : Result) (results : List Byte) (law : ReplyLaw s) : ReplyLaw (s.finish r results) := by
  unfold State.finish
  split
  · exact law
  next p began =>
    have idle : ∀ (u : State), u.link.inProgress = none → u.link.waiting.length ≤ 5 → ReplyLaw u :=
      fun u none le => ⟨le, fun r began => by rw [none] at began; cases began⟩
    refine idle _ (answer_inProgress _ _) ?_
    cases broadcast : p.header.broadcast with
    | true =>
      have silent : ∀ (u : State), u.answer p.header p.kind.code (r.code :: results) = u := fun u => by
        simp [State.answer, broadcast]
      rw [silent]
      exact law.waiting
    | false => exact answer_waiting_le _ _ 4 (law.beside p began broadcast)

theorem startReply_waiting_le : s.startReply.link.waiting.length ≤ s.link.waiting.length := by
  unfold State.startReply
  split
  next waiting => rw [waiting]; exact Nat.le_succ _
  next => exact le_rfl

theorem startReply_inProgress : s.startReply.link.inProgress = s.link.inProgress := by
  unfold State.startReply
  split <;> rfl

/-- A reply path that does not grow, under the request in progress before. -/
theorem ReplyLaw.of_le (law : ReplyLaw s) (waiting : t.link.waiting.length ≤ s.link.waiting.length)
    (progress : ∀ r, t.link.inProgress = some r → ∃ q, s.link.inProgress = some q ∧ q.header = r.header) :
    ReplyLaw t where
  waiting := waiting.trans law.waiting
  beside r began addressed := by
    obtain ⟨q, before, header⟩ := progress r began
    exact waiting.trans (law.beside q before (header ▸ addressed))

theorem setWork_header (work : Work) (r : InProgress) (began : (s.setWork work).link.inProgress = some r) :
    ∃ q, s.link.inProgress = some q ∧ q.header = r.header := by
  obtain ⟨q, before, rfl⟩ := Option.map_eq_some_iff.mp began
  exact ⟨q, before, rfl⟩

theorem replyLaw_sends (law : ReplyLaw s) : ReplyLaw (takeReplySent s) := by
  unfold takeReplySent
  split
  · exact law
  have sent : ReplyLaw { s with link := { s.link with sending := none } } := law.of_same rfl rfl
  have started {u : State} (before : ReplyLaw u) : ReplyLaw u.startReply :=
    before.of_le startReply_waiting_le fun r began => ⟨r, startReply_inProgress ▸ began, rfl⟩
  dsimp only
  split
  · split
    · exact sent.of_le le_rfl (setWork_header _)
    · exact started (sent.of_le le_rfl (setWork_header _))
  · exact started sent

theorem replyLaw_move (move : Move s t) (law : ReplyLaw s) : ReplyLaw t := by
  cases move with
  | still still => exact law.of_same (waiting_of_noticed still.link) (inProgress_of_noticed still.link)
  | grants => exact law.of_same (by simp) (by simp)
  | clears => exact law.of_same (by simp) (by simp)
  | supplies => exact law.of_same (by simp) (by simp)
  | finishes r results => exact replyLaw_finish r results law
  | sends => exact replyLaw_sends law
  | works work => exact law.of_le le_rfl (setWork_header work)
  | ends | endsDue | stamps | drops | plans | binds | empties | releases | fills | writes | streams | appends | plays =>
    exact law.of_same rfl rfl

theorem replyLaw_step (next : step s = .next t) (law : ReplyLaw s) : ReplyLaw t := by
  refine kept_of_moves (P := ReplyLaw) ?queue (fun _ _ => replyLaw_move) ?answer ?receiver ?reset ?begins law next
  case queue => exact fun s rest law => law.of_same rfl rfl
  case answer => exact fun s h code body law room => replyLaw_answer h code body law room
  case receiver => exact fun s r law => law.of_same rfl rfl
  case reset => exact fun s _ _ _ _ => ⟨Nat.zero_le _, fun r began => nomatch began⟩
  case begins =>
    intro s h k work law _ reply
    refine ⟨law.waiting, fun r began addressed => ?_⟩
    cases began
    obtain broadcast | room := reply
    · exact Bool.noConfusion (addressed.symm.trans broadcast)
    · exact room

/-! ## Priorities -/

/-- A binding's priorities are within bounds (R110). -/
def Binding.low (b : Binding) : Prop := b.ceiling ≤ 14 ∧ b.priority ≤ b.ceiling ∧ b.defaultPriority ≤ b.ceiling

theorem bindingFrom_low (law : PriorityLaw s) {b : Binding} (source : BindingFrom s b) : b.low := by
  obtain ⟨priority, ⟨i, ceiling, default⟩ | ⟨l, c, bound, ceiling, default⟩⟩ := source
  · obtain ⟨top, within⟩ := law.plans i
    rw [ceiling] at top within
    rw [default] at within
    exact ⟨top, priority.elim id fun same => same ▸ within, within⟩
  · obtain ⟨top, -, within⟩ := law.bindings l c bound
    rw [ceiling] at top within
    rw [default] at within
    exact ⟨top, priority.elim id fun same => same ▸ within, within⟩

theorem PriorityLaw.of_same (law : PriorityLaw s) (directory : t.directory = s.directory) (legs : t.legs = s.legs)
    (clip : t.context.priority ≤ 14) : PriorityLaw t where
  plans i := planEntry_of_directory directory i ▸ law.plans i
  bindings l b bound := law.bindings l b (leg_of_legs legs l ▸ bound)
  clip := clip

theorem Supplied.priority (supplied : Supplied s t) : t.context.priority = s.context.priority := by
  cases supplied with
  | silent => rfl
  | stored _ _ moved => obtain ⟨_, _, _, _, rfl⟩ := moved; rfl
  | stream _ _ moved => obtain ⟨_, _, -, -, -, rfl⟩ | ⟨_, _, -, -, rfl⟩ := moved <;> rfl
  | tone _ moved => obtain ⟨_, _, rfl⟩ := moved; rfl

theorem clipGranted_priority : s.clipGranted.context.priority = s.context.priority := by
  unfold State.clipGranted
  cases s.context.phase <;> rfl

theorem priorityLaw_move (move : Move s t) (law : PriorityLaw s) : PriorityLaw t := by
  cases move with
  | still still =>
    exact ⟨fun i => still.plans i ▸ law.plans i, fun l b bound => law.bindings l b (still.bindings l b bound),
      context_of_clips still.clips ▸ law.clip⟩
  | grants => exact law.of_same (by simp) (by simp) (by rw [clipGranted_priority]; exact law.clip)
  | clears => exact law.of_same (by simp) (by simp) (Nat.zero_le _)
  | supplies => exact law.of_same (by simp) (by simp) (by rw [supplied_supplyClip.priority]; exact law.clip)
  | finishes r results => exact law.of_same (by simp) (by simp) (by simpa using law.clip)
  | sends =>
    obtain ⟨-, clips, directory, legs⟩ := replySent_keeps (s := s)
    exact law.of_same directory legs (context_of_clips clips ▸ law.clip)
  | plans i e inRange =>
    obtain ⟨-, -, -, ceiling, default, -⟩ := (planInRange_iff e).mp inRange
    refine ⟨fun j => ?_, law.bindings, law.clip⟩
    by_cases same : j = i
    · rw [same, planEntry_setPlan_same]
      exact ⟨ceiling, default⟩
    · rw [planEntry_setPlan_ne _ _ same]
      exact law.plans j
  | binds l b source =>
    refine ⟨law.plans, fun m c bound => ?_, law.clip⟩
    rw [leg_modLeg] at bound
    split at bound
    · cases bound
      exact bindingFrom_low law source
    · exact law.bindings m c bound
  | plays n p mode priority repeats _ _ low => exact law.of_same rfl rfl low
  | ends | endsDue | works | stamps | drops | empties | releases | fills | writes | streams | appends =>
    exact law.of_same rfl rfl law.clip

theorem priorityLaw_step (next : step s = .next t) (law : PriorityLaw s) : PriorityLaw t := by
  refine kept_of_moves (P := PriorityLaw) ?queue (fun _ _ => priorityLaw_move) ?answer ?receiver ?reset ?begins law next
  case queue => exact fun s rest law => law.of_same rfl rfl law.clip
  case answer => exact fun s h code body law _ => law.of_same (by simp) (by simp) (by simpa using law.clip)
  case receiver => exact fun s r law => law.of_same rfl rfl law.clip
  case begins => exact fun s _ _ _ law _ _ => law.of_same rfl rfl law.clip
  case reset =>
    intro s _ _ _ _
    refine ⟨fun i => ?_, fun l b bound => ?_, Nat.zero_le _⟩
    · rw [planEntry_resetBlocks]; exact ⟨Nat.zero_le _, le_rfl⟩
    · rw [leg_resetBlocks, afterReset_eq] at bound; cases bound

end Sys2Proof.Machine

/-! SUPPORT. The law of the clip blocks and the law of the playback under every step (R144–R148), and the five laws of the
bounds together. -/

namespace Sys2Proof.Machine

variable {s t u : State}

/-! ## Blocks -/

theorem blocks_once_iff : (allSlots.flatMap fun n => (s.slot n).blocks).Nodup ↔
    (∀ n, (s.slot n).blocks.Nodup) ∧ ∀ m n, m ≠ n → List.Disjoint (s.slot m).blocks (s.slot n).blocks := by
  rw [List.nodup_flatMap]
  constructor
  · rintro ⟨once, apart⟩
    have symmetric : Std.Symm (Function.onFun List.Disjoint fun n => (s.slot n).blocks) :=
      ⟨fun _ _ disjoint => List.Disjoint.symm disjoint⟩
    exact ⟨fun n => once n (List.mem_finRange n), fun m n other =>
      apart.forall (List.mem_finRange m) (List.mem_finRange n) other⟩
  · rintro ⟨once, apart⟩
    exact ⟨fun n _ => once n, (List.nodup_finRange 8).pairwise_of_forall_ne fun m _ n _ other => apart m n other⟩

/-- Slots that keep their clips, with READY only where it was or the clip is STORED. -/
theorem BlockLaw.of_slots (law : BlockLaw s)
    (slots : ∀ n, (t.slot n).length = (s.slot n).length ∧ (t.slot n).blocks = (s.slot n).blocks ∧
      (t.slot n).level = (s.slot n).level ∧ (t.slot n).mode = (s.slot n).mode)
    (ready : ∀ n, (t.slot n).state = .ready → (s.slot n).state = .ready ∨ (s.slot n).mode = some .stored) :
    BlockLaw t where
  once := by
    have same : (fun n => (t.slot n).blocks) = fun n => (s.slot n).blocks := funext fun n => (slots n).2.1
    rw [same]
    exact law.once
  ready n now := by
    rw [(slots n).2.2.2]
    exact (ready n now).elim (law.ready n) id
  filled n stored := by
    obtain ⟨length, blocks, -, mode⟩ := slots n
    rw [length, blocks]
    exact law.filled n (mode ▸ stored)

theorem BlockLaw.of_clips (law : BlockLaw s) (same : t.clips = s.clips) : BlockLaw t :=
  law.of_slots (fun n => by rw [slot_of_clips same]; exact ⟨rfl, rfl, rfl, rfl⟩) fun n ready =>
    .inl (slot_of_clips same n ▸ ready)

/-- One slot written, with blocks of its own, or none. -/
theorem BlockLaw.of_slot (law : BlockLaw s) {n : SlotId} {x : Slot}
    (slots : ∀ m, t.slot m = if m = n then x else s.slot m) (once : x.blocks.Nodup)
    (apart : ∀ m, m ≠ n → List.Disjoint x.blocks (s.slot m).blocks) (ready : x.state = .ready → x.mode = some .stored)
    (filled : x.mode = some .stored → x.length ≤ 512 * x.blocks.length) : BlockLaw t := by
  obtain ⟨onceBefore, apartBefore⟩ := blocks_once_iff.mp law.once
  refine ⟨blocks_once_iff.mpr ⟨fun m => ?_, fun m k other => ?_⟩, fun m now => ?_, fun m stored => ?_⟩
  · rw [slots]
    split
    · exact once
    · exact onceBefore m
  · rw [slots, slots]
    split <;> split
    next here there => exact absurd (here.trans there.symm) other
    next there => exact apart k there
    next there _ => exact (apart m there).symm
    · exact apartBefore m k other
  · by_cases here : m = n
    · rw [slots, if_pos here] at now ⊢
      exact ready now
    · rw [slots, if_neg here] at now ⊢
      exact law.ready m now
  · by_cases here : m = n
    · rw [slots, if_pos here] at stored ⊢
      exact filled stored
    · rw [slots, if_neg here] at stored ⊢
      exact law.filled m stored

theorem blockLaw_emptied (law : BlockLaw s) {n : SlotId} {x : Slot} (slots : ∀ m, t.slot m = if m = n then x else s.slot m)
    (blocks : x.blocks = []) (mode : x.mode ≠ some .stored) (state : x.state ≠ .ready) : BlockLaw t :=
  law.of_slot slots (by rw [blocks]; exact List.nodup_nil) (fun m _ => by rw [blocks]; exact List.disjoint_nil_left _)
    (fun ready => absurd ready state) fun stored => absurd stored mode

/-- The lowest free blocks for a length are held by no slot, and hold it (R144, R148). -/
theorem freeBlocks_take (k : Nat) : (s.freeBlocks.take k).Nodup ∧
    ∀ m, List.Disjoint (s.freeBlocks.take k) (s.slot m).blocks := by
  refine ⟨((List.nodup_finRange 256).filter _).sublist (List.take_sublist _ _), fun m b taken held => ?_⟩
  have free := (List.mem_filter.mp (List.mem_of_mem_take taken)).2
  have notFree : s.blockHeld b = true := by
    rw [State.blockHeld, List.contains_iff_mem, List.mem_flatMap]
    exact ⟨m, List.mem_finRange m, held⟩
  rw [notFree] at free
  cases free

theorem length_le_blocksFor (length : Nat) : length ≤ 512 * blocksFor length := by
  unfold blocksFor Config.blockSamples
  omega

theorem fillSlot_slot (n : SlotId) (length level : Nat) (blocks : List BlockId) (m : SlotId) :
    (fillSlot n length level blocks s).slot m =
      if m = n then { state := .ready, mode := some .stored, length, blocks, level } else s.slot m := by
  unfold fillSlot
  dsimp only
  rw [slot_modSlot]
  rfl

theorem clipGranted_ready (n : SlotId) (ready : (s.clipGranted.slot n).state = .ready) : (s.slot n).state = .ready := by
  by_cases waiting : s.context.phase = .waiting
  · rw [clipGranted_slot waiting] at ready
    split at ready
    · cases ready
    · exact ready
  · rw [clipGranted_eq_self waiting] at ready
    exact ready

theorem restored_ready (x : Slot) (ready : x.restored.state = .ready) : x.state = .ready ∨ x.mode = some .stored := by
  unfold Slot.restored at ready
  split at ready
  next mode => exact .inr mode
  · cases ready
  · exact .inl ready

theorem clearPlayback_ready (n : SlotId) (ready : (s.clearPlayback.slot n).state = .ready) :
    (s.slot n).state = .ready ∨ (s.slot n).mode = some .stored := by
  rw [clearPlayback_slot] at ready
  split at ready
  next same =>
    rw [same]
    exact restored_ready _ ready
  next => exact .inl ready

theorem Supplied.slot (supplied : Supplied s t) (n : SlotId) : t.slot n = s.slot n := by
  cases supplied <;> rfl

theorem starts_slot (n : SlotId) (p : PatchId) (mode : PlayMode) (priority repeats : Byte) (m : SlotId) :
    (s.starts n p mode priority repeats).slot m =
      if m = n then { s.slot n with state := match mode with | .take => .waiting | .overlay => .playing }
      else s.slot m := slot_modSlot _ _ _

theorem blockLaw_move (move : Move s t) (law : BlockLaw s) : BlockLaw t := by
  cases move with
  | still still => exact law.of_clips still.clips
  | grants => exact law.of_slots clipGranted_keeps.slots fun n ready => .inl (clipGranted_ready n ready)
  | clears => exact law.of_slots clearPlayback_keeps.slots clearPlayback_ready
  | supplies =>
    have supplied := supplied_supplyClip (s := s)
    exact law.of_slots (fun n => by rw [supplied.slot]; exact ⟨rfl, rfl, rfl, rfl⟩) fun n ready =>
      .inl (supplied.slot n ▸ ready)
  | finishes r results => exact law.of_clips (by simp)
  | sends => exact law.of_clips replySent_keeps.2.1
  | works | stamps | drops | plans | binds => exact law.of_clips rfl
  | ends | endsDue | writes | appends => exact law.of_slots (fun _ => ⟨rfl, rfl, rfl, rfl⟩) fun _ => .inl
  | empties n =>
    exact blockLaw_emptied law (fun m => slot_modSlot n m _) rfl (by decide) (by decide)
  | releases n =>
    exact blockLaw_emptied law (fun m => (slot_emptyRing _ m).trans (slot_modSlot n m _)) rfl (by decide) (by decide)
  | streams n length level =>
    exact blockLaw_emptied law (fun m => (slot_emptyRing _ m).trans (slot_modSlot n m _)) rfl (by simp) (by simp)
  | fills n length level empty room =>
    obtain ⟨once, apart⟩ := freeBlocks_take (s := s) (blocksFor length)
    refine law.of_slot (fillSlot_slot n length level _) once (fun m _ => apart m) (fun _ => rfl) fun _ => ?_
    rw [List.length_take, Nat.min_eq_left room]
    exact length_le_blocksFor length
  | plays n p mode priority repeats =>
    refine law.of_slots (fun m => ?_) fun m ready => ?_
    · rw [starts_slot]
      split
      next same => rw [same]; exact ⟨rfl, rfl, rfl, rfl⟩
      next => exact ⟨rfl, rfl, rfl, rfl⟩
    · rw [starts_slot] at ready
      split at ready
      · cases mode <;> cases ready
      · exact .inl ready

theorem blockLaw_reset (address : BitVec 6) (rate : BitVec 2) (stamp : Word32) :
    BlockLaw (resetWith s (Link.afterReset address rate stamp)) := by
  refine ⟨blocks_once_iff.mpr ⟨fun n => ?_, fun m n _ => ?_⟩, fun n ready => ?_, fun n stored => ?_⟩
  · rw [slot_resetBlocks]; exact List.nodup_nil
  · rw [slot_resetBlocks]; exact List.disjoint_nil_left _
  · rw [slot_resetBlocks] at ready; cases ready
  · rw [slot_resetBlocks] at stored; cases stored

theorem blockLaw_step (next : step s = .next t) (law : BlockLaw s) : BlockLaw t := by
  refine kept_of_moves (P := BlockLaw) ?queue (fun _ _ => blockLaw_move) ?answer ?receiver ?reset ?begins law next
  case queue => exact fun s rest law => law.of_clips rfl
  case answer => exact fun s h code body law _ => law.of_clips (by simp)
  case receiver => exact fun s r law => law.of_clips rfl
  case begins => exact fun s _ _ _ law _ _ => law.of_clips rfl
  case reset => exact fun s address rate stamp _ => blockLaw_reset address rate stamp

/-! ## The playback -/

theorem PlaybackLaw.of_clips (law : PlaybackLaw s) (same : t.clips = s.clips) : PlaybackLaw t := by
  have slots : ∀ n, t.slot n = s.slot n := slot_of_clips same
  have context : t.context = s.context := context_of_clips same
  constructor <;> simp only [slots, context, same]
  case inUse => exact law.inUse
  case phase => exact law.phase
  case blank => exact law.blank
  case ending => exact law.ending
  case empty => exact law.empty
  case modes => exact law.modes
  case ready => exact law.ready
  case streams => exact law.streams
  case single => exact law.single
  case accepted => exact law.accepted
  case ring => exact law.ring
  case tone => exact law.tone
  case played => exact law.played

/-- What a slot's state says of its clip. -/
structure Slot.Fits (x : Slot) : Prop where
  empty : x.state = .empty → x = {}
  modes : x.state ≠ .empty → x.mode.isSome = true
  ready : x.state = .ready → x.mode = some .stored
  streams : x.state = .stream → x.mode = some .stream

/-- What the slots say of their clips, and of the stream ring: the part of the playback law beside the context. -/
structure SlotsFit (s : State) : Prop where
  fits : ∀ n, (s.slot n).Fits
  single : ∀ m n, (s.slot m).mode = some .stream → (s.slot n).mode = some .stream → m = n
  accepted : ∀ n, (s.slot n).mode = some .stream → s.clips.accepted ≤ (s.slot n).length ∧ (s.slot n).length < 2 ^ 32
  ring : s.clips.ring.length ≤ s.clips.accepted

/-- What the playback context says of itself and of its slot. -/
structure ContextFits (s : State) : Prop where
  inUse : ∀ n, (s.slot n).state = .playing ∨ (s.slot n).state = .waiting →
    s.context.phase ≠ .none ∧ s.context.slot = n
  phase : s.context.phase ≠ .none → s.context.patch.isSome = true ∧
    (s.slot s.context.slot).state = if s.context.phase = .waiting then .waiting else .playing
  blank : s.context.phase = .none → s.context = {}
  ending : s.context.endDue.isSome = true → s.context.phase = .playing ∨ s.context.phase = .tone
  tone : s.context.phase ≠ .tone → s.context.tone = 0
  played : (s.slot s.context.slot).mode = some .stream → s.context.phase ≠ .none →
    s.context.played.toNat + s.clips.ring.length ≤ s.clips.accepted

theorem playbackLaw_iff : PlaybackLaw s ↔ SlotsFit s ∧ ContextFits s := by
  constructor
  · intro law
    exact ⟨⟨fun n => ⟨law.empty n, law.modes n, law.ready n, law.streams n⟩, law.single, law.accepted, law.ring⟩,
      ⟨law.inUse, law.phase, law.blank, law.ending, law.tone, law.played⟩⟩
  · rintro ⟨⟨fits, single, accepted, ring⟩, ⟨inUse, phase, blank, ending, tone, played⟩⟩
    exact ⟨inUse, phase, blank, ending, fun n => (fits n).empty, fun n => (fits n).modes, fun n => (fits n).ready,
      fun n => (fits n).streams, single, accepted, ring, tone, played⟩

/-- Slots that change their states alone, with the ring no longer and the accepted count as it was, or both emptied where
a stream slot's playback ended. -/
theorem SlotsFit.of_states (law : SlotsFit s) (fits : ∀ n, (t.slot n).Fits)
    (slots : ∀ n, (t.slot n).length = (s.slot n).length ∧ (t.slot n).blocks = (s.slot n).blocks ∧
      (t.slot n).level = (s.slot n).level ∧ (t.slot n).mode = (s.slot n).mode)
    (ring : (t.clips.accepted = s.clips.accepted ∧ t.clips.ring.length ≤ s.clips.ring.length) ∨
      (t.clips.accepted = 0 ∧ t.clips.ring = [])) : SlotsFit t where
  fits := fits
  single m n := by
    rw [(slots m).2.2.2, (slots n).2.2.2]
    exact law.single m n
  accepted n streams := by
    obtain ⟨length, -, -, mode⟩ := slots n
    obtain ⟨within, bound⟩ := law.accepted n (mode ▸ streams)
    rw [length]
    obtain ⟨same, -⟩ | ⟨zero, -⟩ := ring
    · exact ⟨same ▸ within, bound⟩
    · exact ⟨zero ▸ Nat.zero_le _, bound⟩
  ring := by
    have before := law.ring
    obtain ⟨same, le⟩ | ⟨zero, empty⟩ := ring
    · omega
    · rw [zero, empty]; exact le_rfl

/-- A slot in no use written with a clip that fits it, the ring and the count of a stream being its own. -/
theorem playbackLaw_slot (law : PlaybackLaw s) {n : SlotId} {x : Slot}
    (slots : ∀ m, t.slot m = if m = n then x else s.slot m) (context : t.context = s.context)
    (unused : (s.slot n).state ≠ .playing ∧ (s.slot n).state ≠ .waiting) (fits : x.Fits)
    (unusedNow : x.state ≠ .playing ∧ x.state ≠ .waiting)
    (stream : x.mode = some .stream → (∀ m, m ≠ n → (s.slot m).mode ≠ some .stream) ∧
      t.clips.accepted ≤ x.length ∧ x.length < 2 ^ 32)
    (others : ∀ m, m ≠ n → (s.slot m).mode = some .stream →
      t.clips.accepted = s.clips.accepted ∧ t.clips.ring = s.clips.ring)
    (ring : t.clips.ring.length ≤ t.clips.accepted) : PlaybackLaw t := by
  have here : t.slot n = x := by rw [slots, if_pos rfl]
  have there : ∀ m, m ≠ n → t.slot m = s.slot m := fun m other => by rw [slots, if_neg other]
  have apart : s.context.phase ≠ .none → s.context.slot ≠ n := by
    rintro playing rfl
    have state := (law.phase playing).2
    split at state
    · exact unused.2 state
    · exact unused.1 state
  obtain ⟨slotsFit, contextFits⟩ := playbackLaw_iff.mp law
  refine playbackLaw_iff.mpr ⟨⟨fun m => ?_, fun m k streams streams' => ?_, fun m streams => ?_, ring⟩,
    ⟨fun m used => ?_, fun playing => ?_, ?_, ?_, ?_, fun streams playing => ?_⟩⟩
  · by_cases same : m = n
    · rw [same, here]; exact fits
    · rw [there m same]; exact slotsFit.fits m
  · by_cases first : m = n <;> by_cases second : k = n
    · exact first.trans second.symm
    · rw [first, here] at streams
      exact absurd (there k second ▸ streams') ((stream streams).1 k second)
    · rw [second, here] at streams'
      exact absurd (there m first ▸ streams) ((stream streams').1 m first)
    · exact law.single m k (there m first ▸ streams) (there k second ▸ streams')
  · by_cases same : m = n
    · rw [same, here] at streams ⊢
      exact (stream streams).2
    · rw [there m same] at streams ⊢
      rw [(others m same streams).1]
      exact law.accepted m streams
  · by_cases same : m = n
    · rw [same, here] at used
      exact absurd used (by simp [unusedNow])
    · rw [there m same] at used
      rw [context]
      exact law.inUse m used
  · rw [context] at playing ⊢
    rw [there _ (apart playing)]
    exact law.phase playing
  · rw [context]; exact law.blank
  · rw [context]; exact law.ending
  · rw [context]; exact law.tone
  · rw [context] at streams playing ⊢
    rw [there _ (apart playing)] at streams
    obtain ⟨accepted, ring⟩ := others _ (apart playing) streams
    rw [accepted, ring]
    exact law.played streams playing

/-! ### The moves of a playback -/

theorem playbackLaw_grants (law : PlaybackLaw s) : PlaybackLaw s.clipGranted := by
  by_cases waiting : s.context.phase = .waiting
  · have playing : s.context.phase ≠ .none := by rw [waiting]; decide
    have context := clipGranted_context waiting
    have slots := clipGranted_slot waiting
    have here : s.clipGranted.slot s.context.slot = { s.slot s.context.slot with state := .playing } := by
      rw [slots, if_pos rfl]
    have before : (s.slot s.context.slot).state = .waiting := by rw [(law.phase playing).2, if_pos waiting]
    obtain ⟨slotsFit, -⟩ := playbackLaw_iff.mp law
    refine playbackLaw_iff.mpr ⟨slotsFit.of_states (fun n => ?_) clipGranted_keeps.slots
      (.inl ⟨clipGranted_ring.2, (congrArg List.length clipGranted_ring.1).le⟩),
      ⟨fun n used => ?_, fun _ => ?_, fun none => ?_, fun due => ?_, fun _ => ?_, fun streams _ => ?_⟩⟩
    · rw [slots]
      split
      · exact ⟨nofun, fun _ => (slotsFit.fits _).modes (by rw [before]; decide), nofun, nofun⟩
      · exact slotsFit.fits n
    · rw [context]
      refine ⟨nofun, ?_⟩
      rw [slots] at used
      split at used
      next same => exact same.symm
      next => exact (law.inUse n used).2
    · rw [context]
      refine ⟨(law.phase playing).1, ?_⟩
      rw [here]
      exact (if_neg nofun).symm
    · rw [context] at none; cases none
    · exact .inl (by rw [context])
    · rw [context]; exact law.tone (by rw [waiting]; decide)
    · rw [context] at streams ⊢
      rw [here] at streams
      rw [clipGranted_ring.1, clipGranted_ring.2]
      exact law.played streams playing
  · rw [clipGranted_eq_self waiting]
    exact law

theorem restored_fits {x : Slot} (fits : x.Fits) : x.restored.Fits := by
  cases mode : x.mode with
  | none => rw [restored_of_none mode]; exact fits
  | some kind =>
    unfold Slot.restored
    rw [mode]
    cases kind <;> exact ⟨nofun, fun _ => rfl, by simp, by simp⟩

theorem restored_unused {x : Slot} (fits : x.Fits) : x.restored.state ≠ .playing ∧ x.restored.state ≠ .waiting := by
  cases mode : x.mode with
  | none =>
    have empty : x.state = .empty := by
      by_contra used
      have some := fits.modes used
      rw [mode] at some
      cases some
    rw [restored_of_none mode, empty]
    decide
  | some kind =>
    unfold Slot.restored
    rw [mode]
    cases kind <;> exact ⟨nofun, nofun⟩

theorem playbackLaw_clears (law : PlaybackLaw s) : PlaybackLaw s.clearPlayback := by
  obtain ⟨slotsFit, -⟩ := playbackLaw_iff.mp law
  obtain ⟨emptied, left⟩ := clearPlayback_ring (s := s)
  have context : s.clearPlayback.context = {} := clearPlayback_context
  refine playbackLaw_iff.mpr ⟨slotsFit.of_states (fun n => ?_) clearPlayback_keeps.slots ?_,
    ⟨fun n used => ?_, fun playing => ?_, fun _ => context, fun due => ?_, fun _ => by rw [context], fun _ playing => ?_⟩⟩
  · rw [clearPlayback_slot]
    split
    · exact restored_fits (slotsFit.fits _)
    · exact slotsFit.fits n
  · by_cases mode : (s.slot s.context.slot).mode = some .stream
    · exact .inr (emptied mode).symm
    · exact .inl ⟨(left mode).2, (congrArg List.length (left mode).1).le⟩
  · rw [clearPlayback_slot] at used
    split at used
    next same =>
      have unused := restored_unused (slotsFit.fits s.context.slot)
      exact absurd used (by simp [unused])
    next other => exact absurd (law.inUse n used).2.symm other
  · rw [context] at playing; exact absurd rfl playing
  · rw [context] at due; cases due
  · rw [context] at playing; exact absurd rfl playing

theorem playbackLaw_ends (law : PlaybackLaw s) (reason : EndReason)
    (playing : s.context.phase = .playing ∨ s.context.phase = .tone) : PlaybackLaw (s.enterEnding reason) := by
  have inPhase : s.context.phase ≠ .none := by obtain phase | phase := playing <;> rw [phase] <;> decide
  have notWaiting : s.context.phase ≠ .waiting := by obtain phase | phase := playing <;> rw [phase] <;> decide
  have state := (law.phase inPhase).2
  rw [if_neg notWaiting] at state
  obtain ⟨slotsFit, -⟩ := playbackLaw_iff.mp law
  refine playbackLaw_iff.mpr ⟨slotsFit.of_states slotsFit.fits (fun _ => ⟨rfl, rfl, rfl, rfl⟩) (.inl ⟨rfl, le_rfl⟩),
    ⟨fun n used => ⟨nofun, (law.inUse n used).2⟩, fun _ => ⟨(law.phase inPhase).1, state⟩, nofun, nofun, fun _ => rfl,
      fun streams _ => law.played streams inPhase⟩⟩

/-- The count of samples played does not pass the declared length, and so does not wrap (R147). -/
theorem played_add {played : Word32} {need length : Nat} (within : played.toNat + need ≤ length) (bound : length < 2 ^ 32) :
    (played + BitVec.ofNat 32 need).toNat = played.toNat + need := by
  rw [BitVec.toNat_add, BitVec.toNat_ofNat]
  omega

theorem playbackLaw_supplied (supplied : Supplied s t) (law : PlaybackLaw s) : PlaybackLaw t := by
  obtain ⟨slotsFit, -⟩ := playbackLaw_iff.mp law
  have slots : ∀ n, t.slot n = s.slot n := supplied.slot
  have fit (ring : t.clips.accepted = s.clips.accepted) : SlotsFit t :=
    slotsFit.of_states (fun n => slots n ▸ slotsFit.fits n) (fun n => by rw [slots]; exact ⟨rfl, rfl, rfl, rfl⟩)
      (.inl ⟨ring, supplied.ring_le⟩)
  have playingState (phase : s.context.phase = .playing ∨ s.context.phase = .tone) :
      s.context.phase ≠ .none ∧ s.context.patch.isSome = true ∧ (s.slot s.context.slot).state = .playing := by
    have inPhase : s.context.phase ≠ .none := by obtain phase | phase := phase <;> rw [phase] <;> decide
    have notWaiting : s.context.phase ≠ .waiting := by obtain phase | phase := phase <;> rw [phase] <;> decide
    have state := (law.phase inPhase).2
    rw [if_neg notWaiting] at state
    exact ⟨inPhase, (law.phase inPhase).1, state⟩
  cases supplied with
  | silent => exact law
  | stored playing mode moved =>
    obtain ⟨position, played, repeats, due, rfl⟩ := moved
    obtain ⟨inPhase, patch, state⟩ := playingState (.inl playing)
    refine playbackLaw_iff.mpr ⟨fit rfl, ⟨law.inUse, law.phase, fun none => absurd none inPhase, fun _ => .inl playing,
      law.tone, fun streams => ?_⟩⟩
    rw [show (s.slot s.context.slot).mode = some .stream from streams] at mode
    cases mode
  | stream playing mode moved =>
    obtain ⟨inPhase, patch, state⟩ := playingState (.inl playing)
    have before := law.played mode inPhase
    obtain ⟨within, bound⟩ := law.accepted _ mode
    obtain ⟨need, due, enough, declared, rfl, rfl⟩ | ⟨tone, due, short, rfl, rfl⟩ := moved
    · refine playbackLaw_iff.mpr ⟨fit rfl, ⟨law.inUse, law.phase, fun none => absurd none inPhase, fun _ => .inl playing,
        law.tone, fun _ _ => ?_⟩⟩
      have played := played_add (played := s.context.played) (need := need) (length := (s.slot s.context.slot).length)
        (by omega) bound
      have drop : (s.clips.ring.drop need).length = s.clips.ring.length - need := List.length_drop
      change (s.context.played + BitVec.ofNat 32 need).toNat + (s.clips.ring.drop need).length ≤ s.clips.accepted
      omega
    · refine playbackLaw_iff.mpr ⟨fit rfl, ⟨fun n used => ⟨nofun, (law.inUse n used).2⟩, fun _ => ⟨patch, state⟩, nofun,
        fun _ => .inr rfl, fun other => absurd rfl other, fun _ _ => ?_⟩⟩
      have played := played_add (played := s.context.played) (need := s.clips.ring.length)
        (length := (s.slot s.context.slot).length) (by omega) bound
      change (s.context.played + BitVec.ofNat 32 s.clips.ring.length).toNat + 0 ≤ s.clips.accepted
      omega
  | tone phase moved =>
    obtain ⟨tone, due, rfl⟩ := moved
    obtain ⟨inPhase, patch, state⟩ := playingState (.inr phase)
    exact playbackLaw_iff.mpr ⟨fit rfl, ⟨law.inUse, law.phase, fun none => absurd none inPhase, fun _ => .inr phase,
      fun other => absurd phase other, law.played⟩⟩

theorem streamSlot_eq_none (none : s.streamSlot = none) (m : SlotId) : (s.slot m).mode ≠ some .stream := by
  intro streams
  have isSome := streamSlot_isSome_iff.mpr ⟨m, streams⟩
  rw [none] at isSome
  cases isSome

theorem playbackLaw_appends (law : PlaybackLaw s) {n : SlotId} {samples : List Sample} (accepts : s.acceptsData n = true)
    (declared : s.clips.accepted + samples.length ≤ (s.slot n).length) : PlaybackLaw (s.appendRing samples) := by
  have mode := (acceptsData_iff.mp accepts).1
  have length : (s.clips.ring ++ samples).length = s.clips.ring.length + samples.length := List.length_append
  have ring := law.ring
  obtain ⟨slotsFit, fits⟩ := playbackLaw_iff.mp law
  refine playbackLaw_iff.mpr ⟨⟨slotsFit.fits, slotsFit.single, fun m streams => ?_, ?_⟩,
    ⟨fits.inUse, fits.phase, fits.blank, fits.ending, fits.tone, fun streams playing => ?_⟩⟩
  · obtain rfl := law.single m n streams mode
    exact ⟨declared, (law.accepted m streams).2⟩
  · change (s.clips.ring ++ samples).length ≤ s.clips.accepted + samples.length
    omega
  · have before := law.played streams playing
    change s.context.played.toNat + (s.clips.ring ++ samples).length ≤ s.clips.accepted + samples.length
    omega

theorem playbackLaw_plays (law : PlaybackLaw s) {n : SlotId} {p : PatchId} {mode : PlayMode} {priority repeats : Byte}
    (idle : s.context.phase = .none) (ready : (s.slot n).state = .ready ∨ (s.slot n).state = .stream) :
    PlaybackLaw (s.starts n p mode priority repeats) := by
  obtain ⟨slotsFit, -⟩ := playbackLaw_iff.mp law
  have slots := starts_slot (s := s) n p mode priority repeats
  have clip : (s.slot n).mode.isSome = true :=
    (slotsFit.fits n).modes (by obtain state | state := ready <;> rw [state] <;> decide)
  have noneUsed : ∀ m, ¬ ((s.slot m).state = .playing ∨ (s.slot m).state = .waiting) := fun m used =>
    (law.inUse m used).1 idle
  refine playbackLaw_iff.mpr ⟨slotsFit.of_states (fun m => ?_) (fun m => ?_) (.inl ⟨rfl, le_rfl⟩),
    ⟨fun m used => ?_, fun _ => ⟨rfl, ?_⟩, fun none => ?_, nofun, fun _ => rfl, fun _ _ => ?_⟩⟩
  · rw [slots]
    split
    · cases mode <;> exact ⟨nofun, fun _ => clip, nofun, nofun⟩
    · exact slotsFit.fits m
  · rw [slots]
    split
    next same => rw [same]; exact ⟨rfl, rfl, rfl, rfl⟩
    next => exact ⟨rfl, rfl, rfl, rfl⟩
  · refine ⟨by cases mode <;> nofun, ?_⟩
    rw [slots] at used
    split at used
    next same => exact same.symm
    next => exact absurd used (noneUsed m)
  · rw [slots]
    cases mode <;> exact congrArg Slot.state (if_pos rfl)
  · cases mode <;> cases none
  · have ring := law.ring
    change 0 + s.clips.ring.length ≤ s.clips.accepted
    omega

theorem slot_unused {x : Slot} (state : x.state = .empty ∨ x.state = .ready ∨ x.state = .stream) :
    x.state ≠ .playing ∧ x.state ≠ .waiting := by
  obtain state | state | state := state <;> rw [state] <;> decide

theorem empty_fits : ({} : Slot).Fits := ⟨fun _ => rfl, fun used => absurd rfl used, nofun, nofun⟩

theorem playbackLaw_move (move : Move s t) (law : PlaybackLaw s) : PlaybackLaw t := by
  cases move with
  | still still => exact law.of_clips still.clips
  | grants => exact playbackLaw_grants law
  | clears => exact playbackLaw_clears law
  | ends reason playing => exact playbackLaw_ends law reason playing
  | endsDue reason due => exact playbackLaw_ends law reason (law.ending due)
  | supplies => exact playbackLaw_supplied supplied_supplyClip law
  | finishes r results => exact law.of_clips (by simp)
  | sends => exact law.of_clips replySent_keeps.2.1
  | works | stamps | drops | plans | binds => exact law.of_clips rfl
  | writes n offset samples =>
    exact ⟨law.inUse, law.phase, law.blank, law.ending, law.empty, law.modes, law.ready, law.streams, law.single,
      law.accepted, law.ring, law.tone, law.played⟩
  | empties n free =>
    exact playbackLaw_slot law (fun m => slot_modSlot n m _) rfl (slot_unused (free.imp id .inl)) empty_fits
      ⟨nofun, nofun⟩ nofun (fun _ _ _ => ⟨rfl, rfl⟩) law.ring
  | releases n streams =>
    refine playbackLaw_slot law (fun m => (slot_emptyRing _ m).trans (slot_modSlot n m _)) rfl
      (slot_unused (.inr (.inr streams))) empty_fits ⟨nofun, nofun⟩ nofun (fun m other stream => ?_) le_rfl
    exact absurd (law.single m n stream (law.streams n streams)) other
  | fills n length level empty =>
    have unused : (s.slot n).state = .empty := by rw [empty]
    exact playbackLaw_slot law (fillSlot_slot n length level _) rfl (slot_unused (.inl unused))
      ⟨nofun, fun _ => rfl, fun _ => rfl, nofun⟩ ⟨nofun, nofun⟩ nofun (fun _ _ _ => ⟨rfl, rfl⟩) law.ring
  | streams n length level empty none =>
    exact playbackLaw_slot law (fun m => (slot_emptyRing _ m).trans (slot_modSlot n m _)) rfl
      (slot_unused (.inl empty)) ⟨nofun, fun _ => rfl, nofun, fun _ => rfl⟩ ⟨nofun, nofun⟩
      (fun _ => ⟨fun m _ => streamSlot_eq_none none m, Nat.zero_le _, length.isLt⟩)
      (fun m _ stream => absurd stream (streamSlot_eq_none none m)) le_rfl
  | appends n samples accepts declared => exact playbackLaw_appends law accepts declared
  | plays n p mode priority repeats idle ready => exact playbackLaw_plays law idle ready

theorem playbackLaw_reset (address : BitVec 6) (rate : BitVec 2) (stamp : Word32) :
    PlaybackLaw (resetWith s (Link.afterReset address rate stamp)) := by
  have slots : ∀ n, (resetWith s (Link.afterReset address rate stamp)).slot n = {} := slot_resetBlocks _
  have context : (resetWith s (Link.afterReset address rate stamp)).context = {} := rfl
  refine playbackLaw_iff.mpr ⟨⟨fun n => slots n ▸ empty_fits, fun m n stream => ?_, fun n stream => ?_, le_rfl⟩,
    ⟨fun n used => ?_, fun playing => ?_, fun _ => context, fun due => ?_, fun _ => by rw [context],
      fun _ playing => ?_⟩⟩
  · rw [slots] at stream; cases stream
  · rw [slots] at stream; cases stream
  · rw [slots] at used; exact absurd used (by decide)
  · rw [context] at playing; exact absurd rfl playing
  · rw [context] at due; cases due
  · rw [context] at playing; exact absurd rfl playing

theorem playbackLaw_step (next : step s = .next t) (law : PlaybackLaw s) : PlaybackLaw t := by
  refine kept_of_moves (P := PlaybackLaw) ?queue (fun _ _ => playbackLaw_move) ?answer ?receiver ?reset ?begins law next
  case queue => exact fun s rest law => law.of_clips rfl
  case answer => exact fun s h code body law _ => law.of_clips (by simp)
  case receiver => exact fun s r law => law.of_clips rfl
  case begins => exact fun s _ _ _ law _ _ => law.of_clips rfl
  case reset => exact fun s address rate stamp _ => playbackLaw_reset address rate stamp

/-! ## The five laws -/

/-- Settles O56: each law is kept by every move, and so by every step. -/
theorem boundsAreKept : Obligations.BoundsAreKept :=
  ⟨fun _ _ next => ⟨bufferLaw_step next, replyLaw_step next⟩,
    fun _ _ next => ⟨priorityLaw_step next, blockLaw_step next⟩, fun _ _ next => playbackLaw_step next⟩

end Sys2Proof.Machine

/-! SUPPORT. What the membership law looks at, and that acts keep it (R52–R54). -/

namespace Sys2Proof.Machine

variable {s t u : State}

/-! ## The membership law and what it looks at -/

/-- What the last three clauses of the membership law say of the work that waits on a purge, and of the purges. -/
structure WaitsWell (t : State) : Prop where
  resetting : ∀ p, (∃ r ∈ t.routes.purges, r.requester = .resetPatches p) → (t.patch p).state = .disbanding
  disbanding : ∀ p rest n f, t.work = some (.disband (some p) rest n f) → (t.patch p).state ≠ .active
  revoking : ∀ l p rest a n, t.work = some (.revoke (some (l, p)) rest a n) → (t.leg l).membership = none

theorem PatchLaw.waitsWell (law : PatchLaw s) : WaitsWell s := ⟨law.resetting, law.disbanding, law.revoking⟩

/-- The membership law looks at memberships, bindings and park states of legs and at the states and lists of patches. -/
theorem PatchLaw.of_lists (law : PatchLaw s)
    (legs : ∀ l, (t.leg l).membership = (s.leg l).membership ∧
      ((s.leg l).membership.isSome = true →
        ((s.leg l).binding.isSome = true → (t.leg l).binding.isSome = true) ∧
          ((s.leg l).park.parked = false → (t.leg l).park.parked = false)))
    (lists : ∀ p, (t.patch p).members = (s.patch p).members ∧ (t.patch p).monitors = (s.patch p).monitors)
    (active : ∀ p, (s.patch p).state = .active → (t.patch p).state = .active) (waits : WaitsWell t) : PatchLaw t where
  membership l p := by
    rw [(legs l).1, (lists p).1]
    exact law.membership l p
  nodup p := by rw [(lists p).1]; exact law.nodup p
  capacity p := by rw [(lists p).1]; exact law.capacity p
  bound l member := by
    obtain ⟨membership, keeps⟩ := legs l
    rw [membership] at member
    obtain ⟨bound, unparked⟩ := law.bound l member
    exact ⟨(keeps member).1 bound, (keeps member).2 unparked⟩
  active p := by
    rw [(lists p).1, (lists p).2]
    exact active p ∘ law.active p
  consoles p := by
    rw [(lists p).1, (lists p).2]
    exact law.consoles p
  reach l := by
    have same : (fun p => (t.patch p).monitors.any fun m => decide (m.1 = l)) =
        fun p => (s.patch p).monitors.any fun m => decide (m.1 = l) := funext fun p => by rw [(lists p).2]
    rw [same]
    exact law.reach l
  resetting := waits.resetting
  disbanding := waits.disbanding
  revoking := waits.revoking

/-- The law is kept where memberships, states and lists stay, and no work or purge begins that waits. -/
theorem PatchLaw.of_view (law : PatchLaw s)
    (legs : ∀ l, (t.leg l).membership = (s.leg l).membership ∧
      ((s.leg l).membership.isSome = true →
        ((s.leg l).binding.isSome = true → (t.leg l).binding.isSome = true) ∧
          ((s.leg l).park.parked = false → (t.leg l).park.parked = false)))
    (patches : ∀ p, (t.patch p).state = (s.patch p).state ∧ (t.patch p).members = (s.patch p).members ∧
      (t.patch p).monitors = (s.patch p).monitors)
    (purges : ∀ p, (∃ r ∈ t.routes.purges, r.requester = .resetPatches p) →
      ∃ r ∈ s.routes.purges, r.requester = .resetPatches p)
    (work : ∀ w, w.atRest = false → t.work = some w → s.work = some w) : PatchLaw t := by
  refine law.of_lists legs (fun p => (patches p).2) (fun p active => (patches p).1.trans active) ⟨?_, ?_, ?_⟩
  · intro p outstanding
    rw [(patches p).1]
    exact law.resetting p (purges p outstanding)
  · intro p rest n f now
    rw [(patches p).1]
    exact law.disbanding p rest n f (work _ rfl now)
  · intro l p rest a n now
    rw [(legs l).1]
    exact law.revoking l p rest a n (work _ rfl now)

theorem park_of_fixed {x y : Leg} (same : x.fixed = y.fixed) : x.park = y.park :=
  show x.fixed.park = y.fixed.park from congrArg _ same

theorem membership_of_fixed {x y : Leg} (same : x.fixed = y.fixed) : x.membership = y.membership :=
  show x.fixed.membership = y.fixed.membership from congrArg _ same

theorem ArbiterKeeps.work (keeps : ArbiterKeeps s t) : t.work = s.work := by
  rw [State.work, State.work, inProgress_of_noticed keeps.link]

theorem PatchLaw.of_arbiter (law : PatchLaw s) (keeps : ArbiterKeeps s t) : PatchLaw t := by
  refine law.of_view (fun l => ?_) (fun p => ?_) (fun p => ?_) fun w _ => ?_
  · have same := keeps.legs l
    exact ⟨membership_of_fixed same, fun _ => ⟨fun bound => binding_eq_of_fixed same ▸ bound,
      fun unparked => park_of_fixed same ▸ unparked⟩⟩
  · have same := (keeps.patches p).1
    exact ⟨state_of_fixed same, members_of_fixed same, monitors_of_fixed same⟩
  · rw [keeps.frame.2]; exact id
  · rw [keeps.work]; exact id

theorem PatchLaw.of_records (law : PatchLaw s) (written : Records s t) : PatchLaw t := by
  refine law.of_view (fun l => ?_) (fun p => ?_) (fun p => ?_) fun w _ => ?_
  · obtain ⟨membership, binding, park⟩ := written.legs l
    refine ⟨membership, fun member => ⟨fun bound => binding ▸ bound, fun unparked => ?_⟩⟩
    by_contra parked
    obtain before | alone := park (by simpa using parked)
    · rw [unparked] at before; cases before
    · rw [alone] at member; cases member
  · rw [show t.patch p = s.patch p from congrArg (fun v : Vector Patch 12 => v.get p) written.patches]
    exact ⟨rfl, rfl, rfl⟩
  · rw [written.routes]; exact id
  · rw [State.work, written.link]; exact id

theorem PatchLaw.of_acts (law : PatchLaw s) (acts : Acts s t) : PatchLaw t :=
  acts.keeps (fun _ _ written law => law.of_records written) (fun _ _ work law => law.of_arbiter work.kept) law

end Sys2Proof.Machine

/-! SUPPORT. The floor law under the work of the Floor Arbiter (R77, R78): a grant needs no more of the floor it fills
than a queue in order, and leaves a floor that keeps the law. -/

namespace Sys2Proof.Machine

variable {s t u : State} {members : List LegId} {q rest : List Claim} {x : Patch}

/-! ## One floor -/

/-- A floor queue of members and CLIP, none twice, in queue order (R78). -/
structure QueueOk (members : List LegId) (q : List Claim) : Prop where
  member : ∀ c ∈ q, ∀ l, c.party = .leg l → l ∈ members
  once : (q.map Claim.party).Nodup
  ordered : InOrder q

/-- The floor law of one floor. -/
structure FloorOk (members : List LegId) (f : Floor) : Prop where
  owner : f.state = .held ↔ f.owner.isSome = true
  member : ∀ l, f.owner = some (.leg l) → l ∈ members
  waiting : f.queue ≠ [] → f.state = .held
  apart : ∀ c ∈ f.queue, f.owner ≠ some c.party
  queue : QueueOk members f.queue

theorem floorLaw_iff : FloorLaw s ↔ ∀ p, FloorOk (s.patch p).members (s.patch p).floor where
  mp law p := ⟨law.owner p, law.member p, law.waiting p, law.apart p,
    ⟨fun c queued l party => law.queued p l ⟨c, queued, party⟩, law.once p, law.ordered p⟩⟩
  mpr each := ⟨fun p => (each p).owner, fun p => (each p).member, fun p => (each p).waiting,
    fun p l ⟨c, queued, party⟩ => (each p).queue.member c queued l party, fun p => (each p).queue.once,
    fun p => (each p).apart, fun p => (each p).queue.ordered⟩

theorem QueueOk.fewer (ok : QueueOk members q) (fewer : rest.Sublist q) : QueueOk members rest where
  member c queued := ok.member c (fewer.subset queued)
  once := ok.once.sublist (fewer.map _)
  ordered := ok.ordered.sublist fewer

theorem queueOk_nil : QueueOk members [] := ⟨by simp, by simp, .nil⟩

/-- A claim of a member or of CLIP in the stead of any that its party has in the queue (R78). -/
theorem QueueOk.placed (ok : QueueOk members q) {c : Claim} (member : ∀ l, c.party = .leg l → l ∈ members) :
    QueueOk members (insertClaim c (q.filter fun d => d.party != c.party)) := by
  have others := ok.fewer (List.filter_sublist (p := fun d => d.party != c.party))
  refine ⟨fun d queued => ?_, ?_, (inOrder_insertClaim c others.ordered).1⟩
  · obtain rfl | waiting := mem_insertClaim.mp queued
    · exact member
    · exact others.member d waiting
  · rw [((insertClaim_perm c _).map Claim.party).nodup_iff, List.map_cons, List.nodup_cons]
    refine ⟨fun twice => ?_, others.once⟩
    obtain ⟨d, waiting, same⟩ := List.mem_map.mp twice
    rw [List.mem_filter] at waiting
    simp [same] at waiting

theorem FloorOk.fewer {f : Floor} (ok : FloorOk members f) (fewer : rest.Sublist f.queue) :
    FloorOk members { f with queue := rest } where
  owner := ok.owner
  member := ok.member
  waiting waits := ok.waiting fun empty => waits (by simpa [empty] using fewer)
  apart c queued := ok.apart c (fewer.subset queued)
  queue := ok.queue.fewer fewer

/-- The law looks at state, owner and queue alone. -/
theorem FloorOk.of_same {f g : Floor} (ok : FloorOk members f) (state : g.state = f.state) (owner : g.owner = f.owner)
    (queue : g.queue = f.queue) : FloorOk members g := by
  obtain ⟨held, member, waiting, apart, ordered⟩ := ok
  refine ⟨?_, ?_, ?_, ?_, ?_⟩
  · rw [state, owner]; exact held
  · rw [owner]; exact member
  · rw [queue, state]; exact waiting
  · rw [queue, owner]; exact apart
  · rw [queue]; exact ordered

theorem floorOk_idle {f : Floor} (state : f.state = .idle) (owner : f.owner = none) (queue : f.queue = []) :
    FloorOk members f := by
  refine ⟨?_, ?_, ?_, ?_, ?_⟩ <;> simp [state, owner, queue, queueOk_nil]

theorem floorOk_hang {f : Floor} (state : f.state = .hang) (owner : f.owner = none) (queue : f.queue = []) :
    FloorOk members f := by
  refine ⟨?_, ?_, ?_, ?_, ?_⟩ <;> simp [state, owner, queue, queueOk_nil]

/-- The floor of a grant to a member or to CLIP keeps the law, whatever owner it had (R85). -/
theorem floorOk_granted (queue : QueueOk members x.floor.queue) {party : Party} (member : ∀ l, party = .leg l → l ∈ members)
    {seized : Bool} {now : Word32} {time : ClaimTime}
    (fewer : rest.Sublist (x.floor.queue.filter fun c => c.party != party)) :
    FloorOk members { x.grantedFloor party seized now time with queue := rest } where
  owner := ⟨fun _ => rfl, fun _ => rfl⟩
  member l owned := member l (Option.some.inj owned)
  waiting _ := rfl
  apart c queued owned := by
    have waits := fewer.subset queued
    rw [List.mem_filter] at waits
    have same : party = c.party := Option.some.inj owned
    simp [same] at waits
  queue := queue.fewer (fewer.trans List.filter_sublist)

/-! ## Work that takes claims out of queues at most -/

/-- The members of every patch are as they were. -/
def SameMembers (s t : State) : Prop := ∀ p, (t.patch p).members = (s.patch p).members

theorem SameMembers.trans (first : SameMembers s t) (second : SameMembers t u) : SameMembers s u := fun p =>
  (second p).trans (first p)

theorem sameMembers_of_patches (same : t.patches = s.patches) : SameMembers s t := fun p =>
  congrArg (fun v : Vector Patch 12 => (v.get p).members) same

theorem Calm.sameMembers (calm : Calm s t) : SameMembers s t := fun p => members_of_fixed (calm.patches p).1

theorem Arbitrates.sameMembers (work : Arbitrates s t) : SameMembers s t := fun p => members_of_fixed (work.kept.patches p).1

theorem Acts.sameMembers (acts : Acts s t) : SameMembers s t :=
  acts.keeps (P := SameMembers s) (fun _ _ written before => before.trans (sameMembers_of_patches written.patches))
    (fun _ _ work before => before.trans work.sameMembers) fun _ => rfl

theorem sameMembers_modFloor (p : PatchId) (f : Floor → Floor) : SameMembers s (s.modFloor p f) :=
  (calm_modFloor p f).sameMembers

theorem FloorLaw.of_leaving (law : FloorLaw s) (same : SameMembers s t) (leaves : ClaimsOnlyLeave s t) : FloorLaw t := by
  rw [floorLaw_iff] at law ⊢
  intro p
  obtain ⟨rest, fewer, floor⟩ := leaves p
  rw [same p, floor]
  exact (law p).fewer fewer

theorem FloorLaw.of_patches (law : FloorLaw s) (same : t.patches = s.patches) : FloorLaw t :=
  law.of_leaving (sameMembers_of_patches same) (claimsOnlyLeave_of_patches same)

/-- One floor written so that it keeps the law. -/
theorem FloorLaw.of_floor (law : FloorLaw s) (p : PatchId) {f : Floor → Floor}
    (ok : FloorOk (s.patch p).members (s.patch p).floor → FloorOk (s.patch p).members (f (s.patch p).floor)) :
    FloorLaw (s.modFloor p f) := by
  rw [floorLaw_iff] at law ⊢
  intro q
  by_cases same : q = p
  · subst same
    rw [patch_modFloor_same]
    exact ok (law q)
  · rw [patch_modFloor_ne _ _ same]
    exact law q

/-! ## Grants -/

/-- A floor that may be granted: its queue keeps the law, and every other floor does. -/
structure Grantable (s : State) (p : PatchId) : Prop where
  queue : QueueOk (s.patch p).members (s.patch p).floor.queue
  others : ∀ q, q ≠ p → FloorOk (s.patch q).members (s.patch q).floor

theorem FloorLaw.grantable (law : FloorLaw s) (p : PatchId) : Grantable s p :=
  ⟨(floorLaw_iff.mp law p).queue, fun q _ => floorLaw_iff.mp law q⟩

theorem Grantable.of_patches {p : PatchId} (ok : Grantable s p) (same : t.patches = s.patches) : Grantable t p := by
  have patch (q : PatchId) : t.patch q = s.patch q := congrArg (fun v : Vector Patch 12 => v.get q) same
  refine ⟨?_, fun q other => ?_⟩
  · rw [patch]; exact ok.queue
  · rw [patch]; exact ok.others q other

theorem Grantable.modFloor {p : PatchId} (ok : Grantable s p) {f : Floor → Floor}
    (queue : QueueOk (s.patch p).members (f (s.patch p).floor).queue) : Grantable (s.modFloor p f) p := by
  refine ⟨?_, fun q other => ?_⟩
  · rw [patch_modFloor_same]; exact queue
  · rw [patch_modFloor_ne _ _ other]; exact ok.others q other

theorem Grantable.enqueue {p : PatchId} (ok : Grantable s p) {c : Claim}
    (member : ∀ l, c.party = .leg l → l ∈ (s.patch p).members) : Grantable (s.enqueue p c) p :=
  ok.modFloor (ok.queue.placed member)

/-- A floor written from a grantable state, and what follows taking claims out at most. -/
theorem Grantable.fills {p : PatchId} (ok : Grantable s p) {f : Patch → Floor} (same : SameMembers s t)
    (leaves : ClaimsOnlyLeave (s.modPatch p fun x => { x with floor := f x }) t)
    (filled : ∀ rest, rest.Sublist (f (s.patch p)).queue →
      FloorOk (s.patch p).members { f (s.patch p) with queue := rest }) : FloorLaw t := by
  rw [floorLaw_iff]
  intro q
  obtain ⟨rest, fewer, floor⟩ := leaves q
  rw [same q, floor]
  by_cases here : q = p
  · subst here
    rw [patch_modPatch_same] at fewer ⊢
    exact filled rest fewer
  · rw [patch_modPatch_ne _ _ here] at fewer ⊢
    exact (ok.others q here).fewer fewer

theorem floorLaw_grant {p : PatchId} (ok : Grantable s p) {party : Party}
    (member : ∀ l, party = .leg l → l ∈ (s.patch p).members) (seized : Bool) (time : ClaimTime) :
    FloorLaw (s.grant p party seized time) :=
  ok.fills (arbitrates_grant p _ _ _).sameMembers (claimsOnlyLeave_grant p party seized time)
    fun _ fewer => floorOk_granted ok.queue member fewer

theorem floorLaw_enterIdle {p : PatchId} (ok : Grantable s p) (empty : (s.patch p).floor.queue = []) :
    FloorLaw (s.enterIdle p) := by
  have leaves : ClaimsOnlyLeave (s.modPatch p fun x => { x with floor := { queue := x.floor.queue } }) (s.enterIdle p) :=
    (claimsOnlyLeave_demands p fun _ => false).trans (claimsOnlyLeave_of_patches (by simp [State.enterIdle, State.modFloor]))
  refine ok.fills (calm_enterIdle p).sameMembers leaves fun rest fewer => ?_
  exact floorOk_idle rfl rfl (by simpa [empty] using fewer)

theorem floorLaw_enterHang {p : PatchId} (ok : Grantable s p) (empty : (s.patch p).floor.queue = []) :
    FloorLaw (s.enterHang p) := by
  have leaves := claimsOnlyLeave_of_patches (retarget_patches (s.modPatch p fun x => { x with floor :=
    { state := .hang
      lastOwner := match x.floor.owner with
        | some (.leg o) => some o
        | some .clip | none => none
      hangTimer := some x.hang, queue := x.floor.queue } }) p none)
  refine ok.fills (calm_enterHang p).sameMembers leaves fun rest fewer => ?_
  exact floorOk_hang rfl rfl (by simpa [empty] using fewer)

theorem Grantable.head_member {p : PatchId} (ok : Grantable s p) {c : Claim} (queue : (s.patch p).floor.queue = c :: q)
    (l : LegId) (party : c.party = .leg l) : l ∈ (s.patch p).members :=
  ok.queue.member c (by rw [queue]; exact List.mem_cons_self ..) l party

theorem floorLaw_pass {p : PatchId} (ok : Grantable s p) : FloorLaw (s.pass p) := by
  cases queue : (s.patch p).floor.queue with
  | cons c q => exact pass_of_queue queue ▸ floorLaw_grant ok (ok.head_member queue) false c.time
  | nil => exact pass_of_empty queue ▸ floorLaw_enterIdle ok queue

theorem floorLaw_ownerStops {p : PatchId} (ok : Grantable s p) : FloorLaw (s.ownerStops p) := by
  cases queue : (s.patch p).floor.queue with
  | cons c q => exact ownerStops_of_queue queue ▸ floorLaw_grant ok (ok.head_member queue) false c.time
  | nil =>
    rw [ownerStops_of_empty queue]
    split
    · exact floorLaw_enterIdle ok queue
    · exact floorLaw_enterHang ok queue

/-! ## Preemption, claims and withdrawals -/

theorem Grantable.putBack {p : PatchId} (ok : Grantable s p) {o : LegId} (member : o ∈ (s.patch p).members) :
    Grantable (s.putBack p o) p := by
  have event : Grantable s.nextEvent p := ok.of_patches rfl
  have cleared : Grantable (s.nextEvent.modFloor p fun f => { f with seized := false }) p := event.modFloor event.queue
  unfold State.putBack
  dsimp only
  split
  · refine cleared.enqueue fun l party => ?_
    cases party
    rw [sameMembers_modFloor p _ p]
    exact member
  · exact cleared

theorem FloorLaw.preempt (law : FloorLaw s) {p : PatchId} {party : Party}
    (member : ∀ l, party = .leg l → l ∈ (s.patch p).members) (seized : Bool) (time : ClaimTime) :
    FloorLaw (s.preempt p party seized time) := by
  have ok := law.grantable p
  unfold State.preempt
  split
  next o owned =>
    have same := ((calm_putBack (s := s) p o).trans (calm_offerFloor p .preempted (some (.leg o)))).sameMembers
    refine floorLaw_grant ((ok.putBack (law.member p o owned)).of_patches (by simp)) (fun l named => ?_) seized time
    rw [same p]
    exact member l named
  · refine FloorLaw.of_patches (floorLaw_grant (ok.of_patches (offerFloor_patches _ _ _ _)) (fun l named => ?_) seized time)
      (endUnreported_patches _ _)
    rw [offerFloor_patch]
    exact member l named
  · exact floorLaw_grant ok member seized time

theorem FloorLaw.claimArrives (law : FloorLaw s) {p : PatchId} {party : Party}
    (member : ∀ l, party = .leg l → l ∈ (s.patch p).members) : FloorLaw (s.claimArrives p party) := by
  have event : FloorLaw s.nextEvent := law.of_patches rfl
  have asked : ∀ l, party = .leg l → l ∈ (s.nextEvent.patch p).members := member
  unfold State.claimArrives
  dsimp only
  split
  · exact floorLaw_grant (event.grantable p) asked _ _
  · exact floorLaw_grant (event.grantable p) asked _ _
  next held =>
    split
    · exact event.of_floor p fun ok => ok.of_same rfl rfl rfl
    next other =>
      split
      · exact event.preempt asked _ _
      · refine FloorLaw.of_patches (event.of_floor p fun ok => ?_) (offerFloor_patches _ _ _ _)
        refine ⟨ok.owner, ok.member, fun _ => held, fun c queued owned => ?_, ok.queue.placed asked⟩
        obtain rfl | waits := mem_insertClaim.mp queued
        · exact other owned
        · exact ok.apart c (List.mem_of_mem_filter waits) owned

theorem FloorLaw.unqueue (law : FloorLaw s) (p : PatchId) (party : Party) : FloorLaw (s.unqueue p party) :=
  law.of_leaving (calm_unqueue p party).sameMembers (claimsOnlyLeave_unqueue p party)

theorem FloorLaw.withdraws (law : FloorLaw s) (p : PatchId) (party : Party) : FloorLaw (s.withdraws p party) := by
  unfold State.withdraws
  dsimp only
  split
  · split
    · exact law
    · exact floorLaw_ownerStops (law.grantable p)
  · exact law.unqueue p party

/-- Every leg is in the list of the patch it is a member of. -/
def Placed (s : State) : Prop := ∀ l p, (s.leg l).membership = some p → l ∈ (s.patch p).members

theorem PatchLaw.placed (law : PatchLaw s) : Placed s := fun l p => (law.membership l p).mp

theorem FloorLaw.claimChange {f : State → State} {l : LegId} (law : FloorLaw (f s)) (placed : Placed (f s)) :
    FloorLaw (s.claimChange l f) := by
  unfold State.claimChange State.offerClaim State.offerWithdrawal
  dsimp only
  split
  · split
    next p joined => exact law.claimArrives fun m party => by cases party; exact placed l p joined
    next => exact law
  · split
    · exact law.withdraws _ _
    · exact law
  · exact law

theorem FloorLaw.emergencyChange (law : FloorLaw s) (placed : Placed s) (l : LegId) : FloorLaw (s.emergencyChange l) := by
  unfold State.emergencyChange
  split
  · exact law
  next p joined =>
    split
    · exact law
    next c found =>
      obtain ⟨party, queued⟩ : c.party = .leg l ∧ c ∈ (s.patch p).floor.queue :=
        ⟨by simpa using List.find?_some found, List.mem_of_find?_eq_some found⟩
      have member := placed l p joined
      have replaced : FloorLaw (s.enqueue p { c with priority := s.priorityOf (.leg l) }) := by
        refine law.of_floor p fun ok => ?_
        have held : (s.patch p).floor.state = .held := ok.waiting (List.ne_nil_of_mem queued)
        refine ⟨ok.owner, ok.member, fun _ => held, fun d placed owned => ?_,
          ok.queue.placed fun m same => ?_⟩
        · obtain rfl | waits := mem_insertClaim.mp placed
          · exact ok.apart c queued owned
          · exact ok.apart d (List.mem_of_mem_filter waits) owned
        · cases party.symm.trans same
          exact member
      dsimp only
      split
      · refine replaced.preempt (fun m same => ?_) _ _
        cases same
        rw [(calm_enqueue p _).sameMembers p]
        exact member
      · exact replaced

theorem FloorLaw.clearPlayback (law : FloorLaw s) : FloorLaw s.clearPlayback := law.of_patches (clearPlayback_patches _)

theorem FloorLaw.endTake (law : FloorLaw s) (reason : EndReason) : FloorLaw (s.endTake reason) := by
  have cleared := law.clearPlayback
  unfold State.endTake
  dsimp only
  split
  · exact cleared.of_patches (offerClip_patches _ _ _)
  · split
    · exact (floorLaw_pass (cleared.grantable _)).of_patches (offerClip_patches _ _ _)
    · exact (cleared.unqueue _ _).of_patches (offerClip_patches _ _ _)

end Sys2Proof.Machine

/-! SUPPORT. Acts keep the floor law; the rows that leave patches and routes to the arbiter (R52–R54, R77, R78). -/

namespace Sys2Proof.Machine

variable {s t u : State} {h : Header} {k : Kind} {take : State → State}

/-! ## Acts and the floor law -/

/-- Acts that keep the floor law where the membership law holds. -/
structure Fares (s t : State) : Prop where
  acts : Acts s t
  floors : PatchLaw s → FloorLaw s → FloorLaw t

theorem Fares.refl (s : State) : Fares s s := ⟨.refl, fun _ => id⟩

theorem Fares.trans (first : Fares s t) (second : Fares t u) : Fares s u where
  acts := first.acts.trans second.acts
  floors patches floors := second.floors (patches.of_acts first.acts) (first.floors patches floors)

/-- Fares behind fares, said from their end. -/
theorem Fares.after (last : Fares t u) (first : Fares s t) : Fares s u := first.trans last

/-- What takes claims out of queues at most keeps the floor law. -/
theorem fares_of_leaving (acts : Acts s t) (leaves : ClaimsOnlyLeave s t) : Fares s t :=
  ⟨acts, fun _ law => law.of_leaving acts.sameMembers leaves⟩

theorem fares_of_patches (acts : Acts s t) (same : t.patches = s.patches) : Fares s t :=
  fares_of_leaving acts (claimsOnlyLeave_of_patches same)

theorem Records.fares (written : Records s t) : Fares s t := fares_of_patches written.acts written.patches

/-- A part of a record written that holds neither membership nor binding nor park state. -/
theorem fares_modLeg (l : LegId) {f : Leg → Leg}
    (keeps : ∀ x, (f x).membership = x.membership ∧ (f x).binding = x.binding ∧ (f x).park = x.park) :
    Fares s (s.modLeg l f) := fares_of_patches (acts_modLeg l keeps) (modLeg_patches _ l _)

theorem fares_of_ite {c : Prop} [Decidable c] (fares : Fares s t) : Fares s (if c then t else s) := by
  split
  · exact fares
  · exact .refl s

/-! ## The requests of legs and floors -/

theorem claimsOnlyLeave_clearFault (l : LegId) : ClaimsOnlyLeave s (s.clearFault l) := by
  unfold State.clearFault
  split
  · dsimp only
    split
    · exact (claimsOnlyLeave_of_patches (modLeg_patches _ l _)).trans (claimsOnlyLeave_enterLead l)
    · exact claimsOnlyLeave_of_patches (modLeg_patches _ l _)
  all_goals exact claimsOnlyLeave_of_patches rfl

theorem fares_writeConfig (l : LegId) (a : SetLegArgs) : Fares s (writeConfig l a s) := by
  refine fares_of_leaving (acts_writeConfig l a) ?_
  have evaluated : ClaimsOnlyLeave s (((s.modLeg l (Leg.configured (configOf l a))).evaluate l).evaluateAux l) :=
    claimsOnlyLeave_of_patches (by simp)
  unfold writeConfig
  dsimp only
  split
  · exact evaluated.trans (claimsOnlyLeave_clearFault l)
  · exact evaluated

theorem fares_parkLeg {l : LegId} (alone : (s.leg l).membership = none) : Fares s (parkLeg l s) := by
  refine fares_of_patches (acts_parkLeg alone) ?_
  unfold parkLeg
  dsimp only
  split <;> simp

theorem fares_unparkLeg (l : LegId) : Fares s (unparkLeg l s) :=
  fares_of_patches (acts_unparkLeg l) (by simp [unparkLeg])

/-- A change of the leg record by which its claim may begin or cease to stand. -/
theorem Fares.claimChange {f : State → State} {l : LegId} (change : Fares s (f s)) : Fares s (s.claimChange l f) where
  acts := acts_claimChange l change.acts
  floors patches law := (change.floors patches law).claimChange (patches.of_acts change.acts).placed

theorem Fares.emergencyChange (change : Fares s t) (l : LegId) : Fares s (t.emergencyChange l) where
  acts := .arbiter change.acts (arbitrates_emergencyChange l)
  floors patches law := (change.floors patches law).emergencyChange (patches.of_acts change.acts).placed l

theorem fares_pressTalk (l : LegId) : Fares s (pressTalk l s) :=
  Fares.claimChange (fares_modLeg l fun _ => ⟨rfl, rfl, rfl⟩)

theorem fares_releaseTalk (l : LegId) : Fares s (releaseTalk l s) := by
  have released : Fares s (s.modLeg l fun x => { x with talk := false }) :=
    fares_modLeg l fun _ => ⟨rfl, rfl, rfl⟩
  refine Fares.claimChange ?_
  dsimp only
  split
  · split
    · exact released.trans (fares_of_patches (calm_endBar l).acts (endBar_patches _ l))
    · exact released
  all_goals exact released

theorem fares_seizeLeg {p : PatchId} {l : LegId} (joined : (s.leg l).membership = some p) : Fares s (seizeLeg p l s) where
  acts := (arbitrates_seizeLeg p l).acts
  floors patches law := by
    unfold seizeLeg
    split
    · exact law.of_floor p fun ok => ok.of_same rfl rfl rfl
    · have event : FloorLaw s.nextEvent := law.of_patches rfl
      exact event.preempt (fun m party => by cases party; exact patches.placed l p joined) _ _

theorem fares_clearSeize (p : PatchId) : Fares s (clearSeize p s) where
  acts := (arbitrates_clearSeize p).acts
  floors _ law := by
    have cleared : FloorLaw (s.modFloor p fun f => { f with seized := false }) :=
      law.of_floor p fun ok => ok.of_same rfl rfl rfl
    unfold clearSeize
    dsimp only
    split
    · split
      · rw [floorLaw_iff] at cleared ⊢
        intro q
        rw [patch_modPatch]
        split
        next same => subst same; exact (cleared q).of_same rfl rfl rfl
        next => exact cleared q
      · exact floorLaw_ownerStops (cleared.grantable p)
    · exact law

/-- The emergency flag written, with its notice and its effect on the floor. -/
theorem fares_emergency (l : LegId) (source : Option EmergencySource) (d : Detail) :
    Fares s (((s.modLeg l fun x => { x with emergency := source }).offerLeg d l).emergencyChange l) := by
  have written : Fares s (s.modLeg l fun x => { x with emergency := source }) := fares_modLeg l fun _ => ⟨rfl, rfl, rfl⟩
  exact (written.trans (fares_of_patches (calm_offerLeg d l).acts (offerLeg_patches _ d l))).emergencyChange l

theorem fares_declareSet (l : LegId) : Fares s (declareSet l s) := by
  unfold declareSet
  split
  · exact .refl s
  · exact fares_emergency l _ _

theorem fares_declareClear (l : LegId) : Fares s (declareClear l s) := by
  unfold declareClear
  split
  · exact .refl s
  · exact fares_emergency l _ _

/-! ## The events of legs and floors -/

theorem fares_conditionEvent (l : LegId) : Fares s (s.conditionEvent l) := by
  have evaluated : Fares s (s.evaluate l) := fares_of_patches (calm_evaluate l).acts (evaluate_patches _ l)
  have rises : Fares (s.evaluate l) ((s.evaluate l).riseQualified l) :=
    Fares.claimChange (fares_of_patches ((calm_offerMasked _ l).after (calm_flagRose l _)).acts (by simp))
  have drops : Fares (s.evaluate l) ((s.evaluate l).dropQualified l) :=
    Fares.claimChange (fares_of_patches ((calm_offerMasked _ l).after (calm_flagFell l _)).acts (by simp))
  unfold State.conditionEvent
  dsimp only
  split
  · split
    · exact evaluated.trans rises
    · exact evaluated
  · split
    · exact evaluated.trans drops
    · exact evaluated
  · exact evaluated

theorem fares_riseQualified (l : LegId) : Fares s (s.riseQualified l) :=
  Fares.claimChange (fares_of_patches ((calm_offerMasked _ l).after (calm_flagRose l _)).acts (by simp))

theorem fares_dropQualified (l : LegId) : Fares s (s.dropQualified l) :=
  Fares.claimChange (fares_of_patches ((calm_offerMasked _ l).after (calm_flagFell l _)).acts (by simp))

theorem fares_barredExpiry (l : LegId) : Fares s (takeBarredExpiry l s) := by
  refine fares_of_ite ?_
  split
  · exact fares_modLeg l fun _ => ⟨rfl, rfl, rfl⟩
  · exact fares_of_patches (calm_endBar l).acts (endBar_patches _ l)

theorem claimsOnlyLeave_transmitEvent (l : LegId) (e : TransmitEvent) :
    ClaimsOnlyLeave s ((s.flagTransmit l).offerMasked (.transmit e) l) := claimsOnlyLeave_of_patches (by simp)

theorem claimsOnlyLeave_endLockout (l : LegId) : ClaimsOnlyLeave s (s.endLockout l) := by
  have ended : ClaimsOnlyLeave s (((s.flagTransmit l).offerMasked (.transmit .lockoutEnd) l).modLeg l fun x =>
      { x with tx := x.tx.released .off none }) := claimsOnlyLeave_of_patches (by simp)
  unfold State.endLockout
  dsimp only
  split
  · exact ended.trans (claimsOnlyLeave_enterLead l)
  · exact ended

theorem claimsOnlyLeave_timeOut (l : LegId) : ClaimsOnlyLeave s (s.timeOut l) := by
  have timed := (claimsOnlyLeave_maskedChange (s := s) l fun x =>
    { x with tx := x.tx.released .lockout (some (1000 * (s.leg l).tx.lockout)) }).trans
    (claimsOnlyLeave_transmitEvent l .timeout)
  unfold State.timeOut
  dsimp only
  split
  · exact timed.trans (claimsOnlyLeave_endLockout l)
  · exact timed

theorem claimsOnlyLeave_confirmFailure (l : LegId) : ClaimsOnlyLeave s (s.confirmFailure l) :=
  (claimsOnlyLeave_maskedChange l _).trans (claimsOnlyLeave_transmitEvent l _)

theorem fares_confirmFailure (l : LegId) : Fares s (s.confirmFailure l) :=
  fares_of_leaving (calm_confirmFailure l).acts (claimsOnlyLeave_confirmFailure l)

theorem fares_confirmExpiry (l : LegId) : Fares s (takeConfirmExpiry l s) := by
  unfold takeConfirmExpiry
  dsimp only
  split
  · refine fares_of_ite ?_
    split
    · exact fares_modLeg l fun _ => ⟨rfl, rfl, rfl⟩
    · exact fares_confirmFailure l
  · exact .refl s

/-- A qualified aux edge: the aux state written, the flag and the notice. -/
theorem fares_qualifiedAux (l : LegId) (active : Bool) (e : Edge) :
    Fares s ((s.modLeg l fun x => { x with aux := { active } }).auxEdge l e) :=
  fares_of_patches ((calm_auxEdge l _).acts.after (acts_modLeg l fun _ => ⟨rfl, rfl, rfl⟩)) (by simp)

theorem fares_auxRose (l : LegId) : Fares s (s.auxRose l) := by
  have edge : Fares s ((s.modLeg l fun x => { x with aux := { active := true } }).auxEdge l .rose) :=
    fares_qualifiedAux l _ _
  unfold State.auxRose State.emergencyRise
  split
  · exact edge.trans (fares_emergency l _ _)
  · exact edge

theorem fares_auxFell (l : LegId) : Fares s (s.auxFell l) := by
  have edge : Fares s ((s.modLeg l fun x => { x with aux := { active := false } }).auxEdge l .fell) :=
    fares_qualifiedAux l _ _
  unfold State.auxFell
  dsimp only
  split
  · exact edge.trans (fares_confirmFailure l)
  · exact edge

theorem fares_auxEvent (l : LegId) : Fares s (s.auxEvent l) := by
  have evaluated : Fares s (s.evaluateAux l) := fares_of_patches (acts_evaluateAux l) (evaluateAux_patches _ l)
  unfold State.auxEvent
  dsimp only
  split
  · exact evaluated.trans (fares_auxRose l)
  split
  · exact evaluated.trans (fares_auxFell l)
  · exact evaluated

theorem fares_hangExpiry (p : PatchId) : Fares s (takeHangExpiry p s) where
  acts := acts_of_ite (calm_enterIdle p).acts
  floors _ law := by
    unfold takeHangExpiry
    dsimp only
    split
    next due =>
      refine floorLaw_enterIdle (law.grantable p) ?_
      by_contra waits
      cases due.1.symm.trans (law.waiting p waits)
    next => exact law

theorem fares_talkLimit (p : PatchId) : Fares s (takeTalkLimit p s) where
  acts := acts_talkLimit p
  floors _ law := by
    unfold takeTalkLimit
    dsimp only
    split
    · split
      · exact floorLaw_pass ((law.of_patches (by simp)).grantable p)
      · exact law
    · exact law

/-- An event of the legs or floors fares. -/
theorem fares_of_happening {i : Instr} {f : State → State} (row : happening i = some f) :
    fromLine i = true ∨ (∃ address rate, i = .resetLine address rate) ∨ i = .replySent ∨
      (∃ inbound order, i = .frameStart inbound order) ∨ (∃ beforeTick, i = .frameDone beforeTick) ∨
      ∀ s, Fares s (f s) := by
  cases i
  case byteReceived event => exact .inl rfl
  case frameReceived => exact .inl rfl
  case resetLine address rate => exact .inr (.inl ⟨address, rate, rfl⟩)
  case replySent => exact .inr (.inr (.inl rfl))
  case frameStart inbound order => exact .inr (.inr (.inr (.inl ⟨inbound, order, rfl⟩)))
  case frameDone beforeTick => exact .inr (.inr (.inr (.inr (.inl ⟨beforeTick, rfl⟩))))
  all_goals
    cases row
    all_goals refine .inr (.inr (.inr (.inr (.inr fun s => ?_))))
  case resetAllTakesPlace | clipComplete | cutToneEnd => exact .refl s
  case carrierConditionChange l high =>
    exact (fares_conditionEvent l).after (fares_modLeg l fun _ => ⟨rfl, rfl, rfl⟩)
  case riseQualifyExpiry l => exact fares_of_ite (fares_riseQualified l)
  case dropQualifyExpiry l => exact fares_of_ite (fares_dropQualified l)
  case barredDropExpiry l => exact fares_barredExpiry l
  case auxInputChange r high =>
    exact (fares_auxEvent _).after (fares_modLeg _ fun _ => ⟨rfl, rfl, rfl⟩)
  case auxRiseQualifyExpiry r => exact fares_of_ite (fares_auxRose _)
  case auxDropQualifyExpiry r => exact fares_of_ite (fares_auxFell _)
  case leadTimerExpiry r =>
    exact fares_of_ite (fares_modLeg _ fun _ => ⟨rfl, rfl, rfl⟩)
  case tailTimerExpiry r =>
    exact fares_of_ite (fares_of_leaving (calm_releaseKey _ _ _).acts (claimsOnlyLeave_maskedChange _ _))
  case transmitTimeLimit r =>
    exact fares_of_ite (fares_of_leaving (calm_timeOut _).acts (claimsOnlyLeave_timeOut _))
  case lockoutExpiry r =>
    exact fares_of_ite (fares_of_leaving (calm_endLockout _).acts (claimsOnlyLeave_endLockout _))
  case confirmWindowExpiry r => exact fares_confirmExpiry _
  case hangExpiry p => exact fares_hangExpiry p
  case talkLimitExpiry p => exact fares_talkLimit p

theorem fares_tickTimers : Fares s s.tickTimers where
  acts := acts_tickTimers
  floors _ law := by
    rw [floorLaw_iff] at law ⊢
    intro p
    unfold State.tickTimers
    rw [patch_mapPatches, mapLegs_patch]
    exact (law p).of_same rfl rfl rfl

theorem fares_compareVox (inbound : Vector Block 20) (order : List LegId) : Fares s (s.compareVox inbound order) := by
  have peaks : Records s (s.setPeaks inbound) := records_mapLegs fun _ _ => ⟨rfl, rfl, rfl⟩
  refine List.foldlRecOn (motive := Fares s) _ _ peaks.fares fun t before l _ => ?_
  split
  · exact before.trans (fares_conditionEvent l)
  · exact before

theorem fares_endTake (reason : EndReason) : Fares s (s.endTake reason) :=
  ⟨(arbitrates_endTake reason).acts, fun _ law => law.endTake reason⟩

/-! ## Rows that write no patch and no route -/

/-- Legs, patches, routes and the request in progress are as they were. -/
structure Untouched (s t : State) : Prop where
  legs : t.legs = s.legs
  patches : t.patches = s.patches
  routes : t.routes = s.routes
  progress : t.link.inProgress = s.link.inProgress

theorem Untouched.refl (s : State) : Untouched s s := ⟨rfl, rfl, rfl, rfl⟩

theorem untouched_answer (h : Header) (code : Byte) (body : List Byte) : Untouched s (s.answer h code body) :=
  ⟨by simp, by simp, by simp, answer_inProgress code body⟩

theorem Untouched.answered (untouched : Untouched s u) (h : Header) (code : Byte) (body : List Byte) :
    Untouched s (u.answer h code body) where
  legs := by simp [untouched.legs]
  patches := by simp [untouched.patches]
  routes := by simp [untouched.routes]
  progress := (answer_inProgress code body).trans untouched.progress

theorem untouched_modSlot (n : SlotId) (f : Slot → Slot) : Untouched s (s.modSlot n f) :=
  ⟨by simp, by simp, by simp, by simp⟩

theorem untouched_loadDefine (slot : Byte) (length : Word32) (level : Byte) :
    Untouched s (takeLoadDefine h slot length level s) := by
  have defines (n : SlotId) :
      let t := s.modSlot n fun _ => {}
      Untouched s (if t.freeBlocks.length < blocksFor length.toNat then t.refuse h .load .memoryFull
        else
          let u := fillSlot n length.toNat level.toNat (t.freeBlocks.take (blocksFor length.toNat)) t
          u.grantReply h .load (num16 u.freeBlocks.length)) := by
    have emptied : Untouched s (s.modSlot n fun _ => {}) := untouched_modSlot n _
    intro t
    split
    · exact emptied.answered h _ _
    · exact (⟨emptied.legs, emptied.patches, emptied.routes, emptied.progress⟩ :
        Untouched s (fillSlot n length.toNat level.toNat (t.freeBlocks.take (blocksFor length.toNat)) t)).answered h _ _
  unfold takeLoadDefine
  split
  · split
    · exact defines _
    · exact defines _
    all_goals exact untouched_answer _ _ _
  · exact untouched_answer _ _ _

theorem untouched_loadWrite (slot : Byte) (offset : Word32) (samples : List Sample) :
    Untouched s (takeLoadWrite h slot offset samples s) := by
  unfold takeLoadWrite
  split
  · split
    · exact untouched_answer _ _ _
    split
    · exact untouched_answer _ _ _
    next n _ _ _ _ => exact (⟨rfl, rfl, rfl, rfl⟩ : Untouched s (writeSlot n offset.toNat samples s)).answered h _ _
  · exact untouched_answer _ _ _

theorem untouched_loadRelease (slot : Byte) : Untouched s (takeLoadRelease h slot s) := by
  have releases (n : SlotId) : Untouched s (releaseSlot n s) := by
    unfold releaseSlot
    split
    · exact untouched_modSlot n _
    · exact ⟨rfl, rfl, rfl, rfl⟩
    all_goals exact .refl s
  unfold takeLoadRelease
  split
  · exact untouched_answer _ _ _
  split
  · exact untouched_answer _ _ _
  · exact (releases _).answered h _ _

theorem untouched_streamDefine (slot : Byte) (length : Word32) (level : Byte) :
    Untouched s (takeStreamDefine h slot length level s) := by
  unfold takeStreamDefine
  split
  · split
    · exact untouched_answer _ _ _
    next n _ _ _ => exact (⟨rfl, rfl, rfl, rfl⟩ : Untouched s (streamDefined s n length level)).answered h _ _
  · exact untouched_answer _ _ _

theorem untouched_streamData (slot : Byte) (samples : List Sample) :
    Untouched s (takeStreamData h slot samples s) := by
  unfold takeStreamData
  split
  · split
    · exact untouched_answer _ _ _
    split
    · exact untouched_answer _ _ _
    split
    · exact untouched_answer _ _ _
    · exact (⟨rfl, rfl, rfl, rfl⟩ : Untouched s (s.appendRing samples)).answered h _ _
  · exact untouched_answer _ _ _

theorem untouched_plan (first : Byte) (es : List PlanArgs) : Untouched s (takePlan h first es s) := by
  have planned : Untouched s (planned s first.toNat es) := by
    rw [planned_eq]
    exact ⟨rfl, rfl, rfl, rfl⟩
  unfold takePlan
  split
  · exact planned.answered h _ _
  · exact untouched_answer _ _ _

theorem untouched_agency (a : AgencyArgs) : Untouched s (takeAgency h a s) := by
  unfold takeAgency
  split
  next n _ _ =>
    exact (⟨rfl, rfl, rfl, rfl⟩ : Untouched s (s.modAgency n (Agency.written a))).answered h _ _
  · exact untouched_answer _ _ _

theorem untouched_fetch (max : Byte) : Untouched s (takeFetch h max s) := by
  unfold takeFetch
  split
  · exact (⟨rfl, rfl, rfl, rfl⟩ : Untouched s (s.dropNotices max.toNat)).answered h _ _
  · exact untouched_answer _ _ _

/-- A row acts on legs and floors at most, and answers. -/
def ActsOnly (s t : State) : Prop := ∃ u, Fares s u ∧ Untouched u t

theorem Untouched.actsOnly (untouched : Untouched s t) : ActsOnly s t := ⟨s, .refl s, untouched⟩

theorem actsOnly_answer (h : Header) (code : Byte) (body : List Byte) : ActsOnly s (s.answer h code body) :=
  (untouched_answer h code body).actsOnly

theorem Fares.answers (fares : Fares s u) (h : Header) (code : Byte) (body : List Byte) :
    ActsOnly s (u.answer h code body) := ⟨u, fares, untouched_answer h code body⟩

theorem actsOnly_talk (leg : Byte) {effect : LegId → State → State} (fares : ∀ l s, Fares s (effect l s)) :
    ActsOnly s (takeTalk h leg effect s) := by
  unfold takeTalk
  split
  · exact actsOnly_answer _ _ _
  split
  · exact actsOnly_answer _ _ _
  · exact (fares _ s).answers h _ _

theorem actsOnly_declare (leg : Byte) {effect : LegId → State → State} {results : Leg → List Byte}
    (fares : ∀ l s, Fares s (effect l s)) : ActsOnly s (takeDeclare h leg effect results s) := by
  unfold takeDeclare
  split
  · exact actsOnly_answer _ _ _
  · exact (fares _ s).answers h _ _

theorem actsOnly_seize (patch leg : Byte) : ActsOnly s (takeSeize h patch leg s) := by
  unfold takeSeize
  split
  · split
    · exact actsOnly_answer _ _ _
    split
    · exact actsOnly_answer _ _ _
    next joined => exact (fares_seizeLeg (by simpa using joined)).answers h _ _
  · exact actsOnly_answer _ _ _

theorem actsOnly_seizeClear (patch : Byte) : ActsOnly s (takeSeizeClear h patch s) := by
  unfold takeSeizeClear
  split
  · exact actsOnly_answer _ _ _
  split
  · exact actsOnly_answer _ _ _
  · exact (fares_clearSeize _).answers h _ _

theorem actsOnly_setLeg (a : SetLegArgs) : ActsOnly s (takeSetLeg h a s) := by
  unfold takeSetLeg
  split
  · split
    · exact actsOnly_answer _ _ _
    · exact (fares_writeConfig _ a).answers h _ _
  · exact actsOnly_answer _ _ _

theorem actsOnly_park (leg : Byte) : ActsOnly s (takePark h leg s) := by
  unfold takePark
  split
  · exact actsOnly_answer _ _ _
  split
  · exact actsOnly_answer _ _ _
  next alone =>
    split
    · exact actsOnly_answer _ _ _
    · exact (fares_parkLeg (by simpa [Leg.isMember] using alone)).answers h _ _

theorem actsOnly_unpark (leg : Byte) : ActsOnly s (takeUnpark h leg s) := by
  unfold takeUnpark
  split
  · exact actsOnly_answer _ _ _
  · split
    · exact (fares_unparkLeg _).answers h _ _
    · exact actsOnly_answer _ _ _

theorem actsOnly_events : ActsOnly s (takeEvents h s) := by
  unfold takeEvents
  split
  · exact actsOnly_answer _ _ _
  next l _ =>
    have cleared : Fares s (s.modLeg l fun x => { x with flags := {} }) :=
      fares_modLeg l fun _ => ⟨rfl, rfl, rfl⟩
    exact cleared.answers h _ _

theorem actsOnly_dirq (table first count : Byte) : ActsOnly s (takeDirq h table first count s) := by
  by_cases inRange : ArgumentsInRange (.dirq h table first count)
  · rw [takeDirq_of_inRange inRange]
    exact actsOnly_answer _ _ _
  · rw [takeDirq_of_outOfRange inRange]
    exact actsOnly_answer _ _ _

theorem actsOnly_legq (leg : Byte) : ActsOnly s (takeLegq h leg s) := by
  unfold takeLegq
  split <;> exact actsOnly_answer _ _ _

theorem actsOnly_patchq (patch : Byte) : ActsOnly s (takePatchq h patch s) := by
  unfold takePatchq
  split <;> exact actsOnly_answer _ _ _

theorem actsOnly_floorq (patch : Byte) : ActsOnly s (takeFloorq h patch s) := by
  unfold takeFloorq
  split <;> exact actsOnly_answer _ _ _

theorem actsOnly_routeq (patch : Byte) : ActsOnly s (takeRouteq h patch s) := by
  unfold takeRouteq
  split
  · exact actsOnly_answer _ _ _
  · split <;> exact actsOnly_answer _ _ _

/-- The rows that write patches, routes, bindings or the request in progress. -/
def manages : Instr → Bool
  | .bind _ _ | .unbind _ _ | .revoke _ _ | .openPatch _ _ | .join _ _ _ _ | .leave _ _ | .disband _ _ _ _
  | .access _ _ _ | .monitorOn _ _ _ _ | .monitorOff _ _ _ _ | .play _ _ _ _ _ _ | .halt _ | .resetAll _
  | .resetPatches _ => true
  | _ => false

theorem actsOnly_of_taking {i : Instr} (row : taking i = some (h, k, take)) (plain : manages i = false) :
    ActsOnly s (take s) := by
  cases i <;> cases row
  case status => exact actsOnly_answer _ _ _
  case fetch => exact (untouched_fetch _).actsOnly
  case events => exact actsOnly_events
  case setLeg => exact actsOnly_setLeg _
  case park => exact actsOnly_park _
  case unpark => exact actsOnly_unpark _
  case legq => exact actsOnly_legq _
  case agency => exact (untouched_agency _).actsOnly
  case plan => exact (untouched_plan _ _).actsOnly
  case dirq => exact actsOnly_dirq _ _ _
  case patchq => exact actsOnly_patchq _
  case talkPress => exact actsOnly_talk _ fun l _ => fares_pressTalk l
  case talkRelease => exact actsOnly_talk _ fun l _ => fares_releaseTalk l
  case seize => exact actsOnly_seize _ _
  case seizeClear => exact actsOnly_seizeClear _
  case floorq => exact actsOnly_floorq _
  case declareOn => exact actsOnly_declare _ fun l _ => fares_declareSet l
  case declareOff => exact actsOnly_declare _ fun l _ => fares_declareClear l
  case routeq => exact actsOnly_routeq _
  case loadDefine => exact (untouched_loadDefine _ _ _).actsOnly
  case loadWrite => exact (untouched_loadWrite _ _ _).actsOnly
  case loadRelease => exact (untouched_loadRelease _).actsOnly
  case streamDefine => exact (untouched_streamDefine _ _ _).actsOnly
  case streamData => exact (untouched_streamData _ _).actsOnly
  case clipq => exact actsOnly_answer _ _ _
  all_goals cases plain


theorem PatchLaw.of_untouched (law : PatchLaw s) (untouched : Untouched s t) : PatchLaw t := by
  refine law.of_view (fun l => ?_) (fun p => ?_) (fun p => ?_) fun w _ => ?_
  · rw [leg_of_legs untouched.legs]; exact ⟨rfl, fun _ => ⟨id, id⟩⟩
  · rw [show t.patch p = s.patch p from congrArg (fun v : Vector Patch 12 => v.get p) untouched.patches]
    exact ⟨rfl, rfl, rfl⟩
  · rw [untouched.routes]; exact id
  · rw [State.work, untouched.progress]; exact id

end Sys2Proof.Machine

/-! SUPPORT. What a removal and a teardown leave of legs, lists, purges and the work in progress (R62, R67). -/

namespace Sys2Proof.Machine

variable {s t u : State} {p : PatchId} {l : LegId}

/-! ## Purges -/

theorem purge_purges (sel : Selector) (r : Requester) : (s.purge sel r).1.routes.purges = s.routes.purges ∨
    (s.purge sel r).2 = false ∧ (s.purge sel r).1.routes.purges = s.routes.purges ++ [⟨r, s.purged sel⟩] := by
  cases waits : (s.purge sel r).2 with
  | false => exact .inr ⟨rfl, purge_waiting s sel r waits⟩
  | true =>
    unfold State.purge at waits ⊢
    dsimp only at waits ⊢
    split at waits
    next done =>
      rw [if_pos done]
      exact .inl (by unfold State.freeEntries State.mapEntries State.mapPatches; rfl)
    · cases waits

/-- A purge asks in the name of its requester alone. -/
theorem purge_requesters (sel : Selector) (r : Requester) {x : Purge} (outstanding : x ∈ (s.purge sel r).1.routes.purges) :
    x ∈ s.routes.purges ∨ (s.purge sel r).2 = false ∧ x.requester = r := by
  obtain same | ⟨waits, added⟩ := purge_purges (s := s) sel r
  · exact .inl (same ▸ outstanding)
  · rw [added, List.mem_append, List.mem_singleton] at outstanding
    obtain before | rfl := outstanding
    · exact .inl before
    · exact .inr ⟨waits, rfl⟩

/-! ## The work in progress -/

theorem Calm.work (calm : Calm s t) : t.work = s.work := calm.keeps.work

theorem Arbitrates.work (work : Arbitrates s t) : t.work = s.work := work.kept.work

theorem answer_work (h : Header) (code : Byte) (body : List Byte) : (s.answer h code body).work = s.work := by
  rw [State.work, answer_inProgress, State.work]

theorem finish_work (r : Result) (results : List Byte) : (s.finish r results).work = none := by
  unfold State.finish
  split
  next idle => rw [State.work, idle]; rfl
  next => rw [answer_work]; rfl

/-- The request in progress is as it was, or has completed. -/
def WorkOnly (s t : State) : Prop := t.work = s.work ∨ t.work = none

theorem WorkOnly.trans (first : WorkOnly s t) (second : WorkOnly t u) : WorkOnly s u := by
  obtain same | done := second
  · exact first.imp same.trans same.trans
  · exact .inr done

theorem WorkOnly.now (only : WorkOnly s t) {w : Work} (now : t.work = some w) : s.work = some w := by
  obtain same | done := only
  · exact same.symm.trans now
  · rw [done] at now; cases now

theorem workOnly_overlayEnded : WorkOnly s s.overlayEnded := by
  have cleared : WorkOnly s s.clearPlayback := .inl (clearPlayback_work s)
  have offered (c : Context) (r : EndReason) : WorkOnly s (s.clearPlayback.offerClip c r) :=
    cleared.trans (.inl (calm_offer _ _ _).work)
  unfold State.overlayEnded
  dsimp only
  split
  · exact .inr (finish_work _ _)
  · split
    · exact offered _ _
    · exact cleared

theorem workOnly_purge (sel : Selector) (r : Requester) : WorkOnly s (s.purge sel r).1 :=
  .inl (by rw [State.work, State.work, purge_link])

theorem workOnly_purgeOverlays (p : PatchId) : WorkOnly s (s.purgeOverlays p) := by
  unfold State.purgeOverlays
  dsimp only
  split
  · exact (workOnly_purge _ _).trans workOnly_overlayEnded
  · exact workOnly_purge _ _

theorem endInTeardown_work (p : PatchId) (reason : EndReason) : (s.endInTeardown p reason).1.work = s.work := by
  unfold State.endInTeardown
  dsimp only
  split
  · split
    · rfl
    · exact (arbitrates_endUnreported _).work
    · exact (arbitrates_endUnreported _).work
    · exact (arbitrates_endUnreported _).work
    · exact (arbitrates_endUnreported _).work
    all_goals rfl
  · rfl

/-! ## Legs that leave a patch -/

/-- The members of a patch that leave it, from s to t: their membership goes, and they alone leave its member list; its
monitor list stays or is emptied; purges and the work in progress are in their requesters' names. -/
structure Departs (s t : State) (p : PatchId) (gone : LegId → Prop) : Prop where
  leaves : ∀ l, gone l → (s.leg l).membership = some p ∧ (t.leg l).membership = none
  stays : ∀ l, ¬ gone l → (t.leg l).membership = (s.leg l).membership ∧ (t.leg l).binding = (s.leg l).binding ∧
    (t.leg l).park = (s.leg l).park
  others : ∀ q, q ≠ p → (t.patch q).fixed = (s.patch q).fixed
  members : (t.patch p).members.Sublist (s.patch p).members
  member : ∀ l, l ∈ (t.patch p).members ↔ l ∈ (s.patch p).members ∧ ¬ gone l
  monitors : (t.patch p).monitors.Sublist (s.patch p).monitors
  state : ((t.patch p).state = (s.patch p).state) ∨
    (t.patch p).state = .disbanding ∧ (t.patch p).members = [] ∧ (t.patch p).monitors = []
  requesters : ∀ r ∈ t.routes.purges, r ∈ s.routes.purges ∨ ∀ q, r.requester = .resetPatches q →
    q = p ∧ (t.patch p).state = .disbanding
  work : WorkOnly s t

theorem PatchLaw.of_departs {gone : LegId → Prop} (law : PatchLaw s) (departs : Departs s t p gone) : PatchLaw t := by
  have members (q : PatchId) (other : q ≠ p) : (t.patch q).members = (s.patch q).members :=
    members_of_fixed (departs.others q other)
  have monitors (q : PatchId) (other : q ≠ p) : (t.patch q).monitors = (s.patch q).monitors :=
    monitors_of_fixed (departs.others q other)
  have sublist (q : PatchId) : (t.patch q).members.Sublist (s.patch q).members := by
    by_cases here : q = p
    · exact here ▸ departs.members
    · rw [members q here]
  have fewer (q : PatchId) : (t.patch q).monitors.Sublist (s.patch q).monitors := by
    by_cases here : q = p
    · exact here ▸ departs.monitors
    · rw [monitors q here]
  have inactive (q : PatchId) (not : (s.patch q).state ≠ .active) : (t.patch q).state ≠ .active := by
    by_cases here : q = p
    · subst here
      obtain same | ⟨disbanding, -⟩ := departs.state
      · rwa [same]
      · rw [disbanding]; nofun
    · rwa [state_of_fixed (departs.others q here)]
  constructor
  case membership =>
    intro l q
    by_cases left : gone l
    · obtain ⟨before, now⟩ := departs.leaves l left
      rw [now]
      refine ⟨nofun, fun listed => ?_⟩
      by_cases here : q = p
      · subst here
        exact absurd left ((departs.member l).mp listed).2
      · have elsewhere := (law.membership l q).mpr (members q here ▸ listed)
        exact absurd (Option.some.inj (elsewhere.symm.trans before)) here
    · rw [(departs.stays l left).1, law.membership]
      by_cases here : q = p
      · subst here
        rw [departs.member]
        exact ⟨fun listed => ⟨listed, left⟩, And.left⟩
      · rw [members q here]
  case nodup => exact fun q => (law.nodup q).sublist (sublist q)
  case capacity => exact fun q => (sublist q).length_le.trans (law.capacity q)
  case bound =>
    intro l member
    by_cases left : gone l
    · rw [(departs.leaves l left).2] at member; cases member
    · obtain ⟨membership, binding, park⟩ := departs.stays l left
      rw [membership] at member
      rw [binding, park]
      exact law.bound l member
  case active =>
    intro q listed
    by_cases here : q = p
    · subst here
      obtain same | ⟨-, noMember, noMonitor⟩ := departs.state
      · rw [same]
        refine law.active q (listed.imp (fun some empty => some ?_) fun some empty => some ?_)
        · exact List.sublist_nil.mp (empty ▸ departs.members)
        · exact List.sublist_nil.mp (empty ▸ departs.monitors)
      · rw [noMember, noMonitor] at listed
        simp at listed
    · rw [members q here, monitors q here] at listed
      rw [state_of_fixed (departs.others q here)]
      exact law.active q listed
  case consoles =>
    intro q
    obtain ⟨once, each⟩ := law.consoles q
    refine ⟨once.sublist ((fewer q).map _), fun m monitoring => ?_⟩
    obtain ⟨console, gain, alone⟩ := each m ((fewer q).subset monitoring)
    exact ⟨console, gain, fun listed => alone ((sublist q).subset listed)⟩
  case reach =>
    intro l
    refine le_trans (List.Sublist.length_le (List.monotone_filter_right _ fun q monitoring => ?_)) (law.reach l)
    obtain ⟨m, listed, named⟩ := List.any_eq_true.mp monitoring
    exact List.any_eq_true.mpr ⟨m, (fewer q).subset listed, named⟩
  case resetting =>
    rintro q ⟨r, outstanding, named⟩
    obtain before | new := departs.requesters r outstanding
    · have disbanding := law.resetting q ⟨r, before, named⟩
      by_cases here : q = p
      · subst here
        obtain same | ⟨now, -⟩ := departs.state
        · exact same.trans disbanding
        · exact now
      · rw [state_of_fixed (departs.others q here), disbanding]
    · obtain ⟨rfl, disbanding⟩ := new q named
      exact disbanding
  case disbanding => exact fun q rest n f now => inactive q (law.disbanding q rest n f (departs.work.now now))
  case revoking =>
    intro l q rest a n now
    have before := law.revoking l q rest a n (departs.work.now now)
    by_cases left : gone l
    · exact (departs.leaves l left).2
    · rw [(departs.stays l left).1, before]

/-! ## The removal of a member -/

/-- A member taken out of its patch's list and floor, before its entries are purged (items 1 to 3 of R62). -/
def State.takenOut (s : State) (p : PatchId) (l : LegId) : State :=
  ((s.modPatch p fun x => { x with members := x.members.filter (· != l) }).leaveFloor p l).setDemand l false

theorem removeMember_eq (p : PatchId) (l : LegId) (r : Requester) : s.removeMember p l r =
    (((s.takenOut p l).purge (.dest p l) r).1.modLeg l Leg.released, ((s.takenOut p l).purge (.dest p l) r).2) := rfl

theorem arbitrates_takenOut (p : PatchId) (l : LegId) :
    Arbitrates (s.modPatch p fun x => { x with members := x.members.filter (· != l) }) (s.takenOut p l) :=
  (arbitrates_leaveFloor p l).calmly (calm_setDemand l false)

theorem takenOut_leg_fixed (m : LegId) : ((s.takenOut p l).leg m).fixed = (s.leg m).fixed :=
  (arbitrates_takenOut p l).kept.legs m

theorem removeMember_leg_fixed (r : Requester) (m : LegId) : ((s.removeMember p l r).1.leg m).fixed =
    if m = l then (s.leg m).released.fixed else (s.leg m).fixed := by
  rw [removeMember_eq, released_leg, purge_leg, purge_leg]
  split
  next same =>
    subst same
    have released (x : Leg) : x.released.fixed = x.fixed.released := rfl
    rw [released, takenOut_leg_fixed, released]
  next => exact takenOut_leg_fixed m

theorem removeMember_patch_fixed (r : Requester) (q : PatchId) : ((s.removeMember p l r).1.patch q).fixed =
    if q = p then { s.patch p with members := (s.patch p).members.filter (· != l) }.fixed else (s.patch q).fixed := by
  rw [removeMember_eq, modLeg_patch, (purge_patch _ _ q).1, ((arbitrates_takenOut p l).kept.patches q).1, patch_modPatch]
  split <;> rfl

theorem departs_removeMember {r : Requester} (joined : (s.leg l).membership = some p) (placed : l ∈ (s.patch p).members)
    (named : (s.removeMember p l r).2 = true ∨ ∀ q, r ≠ .resetPatches q) :
    Departs s (s.removeMember p l r).1 p (· = l) := by
  have here := removeMember_patch_fixed (s := s) (p := p) (l := l) r p
  rw [if_pos rfl] at here
  have members : ((s.removeMember p l r).1.patch p).members = (s.patch p).members.filter (· != l) := members_of_fixed here
  constructor
  case leaves =>
    rintro m rfl
    have left := removeMember_leg_fixed (s := s) (p := p) (l := m) r m
    rw [if_pos rfl] at left
    exact ⟨joined, membership_of_fixed left⟩
  case stays =>
    intro m other
    have same := removeMember_leg_fixed (s := s) (p := p) (l := l) r m
    rw [if_neg other] at same
    exact ⟨membership_of_fixed same, binding_eq_of_fixed same, park_of_fixed same⟩
  case others =>
    intro q other
    rw [removeMember_patch_fixed, if_neg other]
  case members => rw [members]; exact List.filter_sublist
  case member => intro m; rw [members]; simp
  case monitors => rw [monitors_of_fixed here]
  case state =>
    have state := state_of_fixed here
    exact .inl state
  case requesters =>
    intro x outstanding
    rw [removeMember_eq] at outstanding named
    obtain before | ⟨waits, asked⟩ := purge_requesters _ _ outstanding
    · rw [(arbitrates_takenOut p l).kept.frame.2] at before
      exact .inl before
    · refine .inr fun q reset => ?_
      obtain done | other := named
      · rw [waits] at done; cases done
      · exact absurd (asked.symm.trans reset) (other q)
  case work =>
    refine .inl ?_
    rw [removeMember_eq, modLeg_work]
    refine Eq.trans ?_ (arbitrates_takenOut (s := s) p l).work
    rw [State.work, State.work, purge_link]

/-! ## Teardowns -/

theorem releaseAll_leg (ls : List LegId) (m : LegId) :
    (ls.foldl (fun s l => s.modLeg l Leg.released) s).leg m = if m ∈ ls then (s.leg m).released else s.leg m := by
  induction ls generalizing s with
  | nil => simp
  | cons l ls ih =>
    rw [List.foldl_cons, ih, leg_modLeg]
    by_cases here : m = l
    · subst here
      simp [Leg.released]
    · simp [here]

/-- A patch in teardown once its floor is clear and its members' keys are released (items 1 to 3 of R67). -/
def State.silenced (s : State) (p : PatchId) (reason : EndReason) : State :=
  (((s.modPatch p fun x => { x with state := .disbanding }).endInTeardown p reason).1.clearFloor p).demands p fun _ => false

theorem vacated_eq (p : PatchId) (reason : EndReason) : s.vacated p reason =
    (((s.silenced p reason).patch p).members.foldl (fun s l => s.modLeg l Leg.released) (s.silenced p reason)).modPatch p
      fun x => { x with members := [], monitors := [] } := rfl

theorem silenced_leg_fixed (reason : EndReason) (m : LegId) : ((s.silenced p reason).leg m).fixed = (s.leg m).fixed := by
  rw [State.silenced, demands_fixed, clearFloor_leg]
  exact congrArg Leg.fixed (leg_of_legs (endInTeardown_legs _ _ _) m)

theorem silenced_members (reason : EndReason) : ((s.silenced p reason).patch p).members = (s.patch p).members := by
  rw [State.silenced, (calm_demands p _).sameMembers p, (calm_clearFloor p).sameMembers p,
    sameMembers_of_patches (endInTeardown_patches _ _ _) p, patch_modPatch_same]

theorem teardown_leg_fixed (reason : EndReason) (r : Requester) (m : LegId) :
    ((s.teardown p reason r).1.leg m).fixed =
      if m ∈ (s.patch p).members then (s.leg m).released.fixed else (s.leg m).fixed := by
  have untagged : (s.untagged p reason).leg m = (s.vacated p reason).leg m := by
    unfold State.untagged
    split
    · exact purgeOverlays_leg _ _ _
    · rfl
  rw [teardown_eq, purge_leg, untagged, vacated_eq, modPatch_leg, releaseAll_leg, silenced_members]
  split
  · have released (x : Leg) : x.released.fixed = x.fixed.released := rfl
    rw [released, silenced_leg_fixed, released]
  · exact silenced_leg_fixed reason m

theorem vacated_purges (reason : EndReason) : (s.vacated p reason).routes = s.routes := by
  rw [vacated_eq, modPatch_routes,
    releaseAll_keeps (s.silenced p reason) (fun t => t.routes) (fun _ _ => rfl), State.silenced, demands_routes,
    clearFloor_routes, endInTeardown_routes, modPatch_routes]

theorem vacated_work (reason : EndReason) : (s.vacated p reason).work = s.work := by
  rw [vacated_eq, modPatch_work, releaseAll_keeps (s.silenced p reason) (fun t => t.work) (fun _ _ => rfl), State.silenced,
    (calm_demands p _).work, (calm_clearFloor p).work, endInTeardown_work, modPatch_work]

theorem untagged_requesters (reason : EndReason) {x : Purge} (outstanding : x ∈ (s.untagged p reason).routes.purges) :
    x ∈ s.routes.purges ∨ x.requester = .overlayEnd := by
  have vacated : ∀ x ∈ (s.vacated p reason).routes.purges, x ∈ s.routes.purges := by
    rw [vacated_purges]
    exact fun _ => id
  unfold State.untagged at outstanding
  split at outstanding
  · have purged : x ∈ ((s.vacated p reason).purge (.overlays p) .overlayEnd).1.routes.purges := by
      unfold State.purgeOverlays at outstanding
      dsimp only at outstanding
      split at outstanding
      · rwa [overlayEnded_routes] at outstanding
      · exact outstanding
    exact (purge_requesters _ _ purged).imp (vacated x) And.right
  · exact .inl (vacated x outstanding)

theorem workOnly_teardown (reason : EndReason) (r : Requester) : WorkOnly s (s.teardown p reason r).1 := by
  have vacated : WorkOnly s (s.vacated p reason) := .inl (vacated_work reason)
  have untagged : WorkOnly s (s.untagged p reason) := by
    unfold State.untagged
    split
    · exact vacated.trans (workOnly_purgeOverlays p)
    · exact vacated
  rw [teardown_eq]
  exact untagged.trans (workOnly_purge _ _)

theorem teardown_state (reason : EndReason) (r : Requester) : ((s.teardown p reason r).1.patch p).state = .disbanding := by
  have here : ((s.teardown p reason r).1.patch p).fixed =
      { s.patch p with state := .disbanding, members := [], monitors := [] }.fixed := by
    rw [teardown_patch_fixed, if_pos rfl]
    rfl
  exact state_of_fixed here

/-- A purge outstanding after a teardown that completed was so before, or is the overlay's. -/
theorem teardown_requesters (reason : EndReason) {r : Requester} {x : Purge}
    (outstanding : x ∈ (s.teardown p reason r).1.routes.purges) : x ∈ s.routes.purges ∨ x.requester = .overlayEnd ∨
      (s.teardown p reason r).2 = false ∧ x.requester = r := by
  rw [teardown_eq] at outstanding ⊢
  obtain before | new := purge_requesters _ _ outstanding
  · exact (untagged_requesters reason before).imp id .inl
  · exact .inr (.inr new)

theorem departs_teardown (law : PatchLaw s) (reason : EndReason) {r : Requester}
    (named : (s.teardown p reason r).2 = true ∨ ∀ q, r = .resetPatches q → q = p) :
    Departs s (s.teardown p reason r).1 p (· ∈ (s.patch p).members) := by
  have here : ((s.teardown p reason r).1.patch p).fixed =
      { s.patch p with state := .disbanding, members := [], monitors := [] }.fixed := by
    rw [teardown_patch_fixed, if_pos rfl]
    rfl
  have members : ((s.teardown p reason r).1.patch p).members = [] := members_of_fixed here
  have monitors : ((s.teardown p reason r).1.patch p).monitors = [] := monitors_of_fixed here
  have state := teardown_state (s := s) (p := p) reason r
  constructor
  case leaves =>
    intro m listed
    have left := teardown_leg_fixed (s := s) (p := p) reason r m
    rw [if_pos listed] at left
    exact ⟨(law.membership m p).mpr listed, membership_of_fixed left⟩
  case stays =>
    intro m other
    have same := teardown_leg_fixed (s := s) (p := p) reason r m
    rw [if_neg other] at same
    exact ⟨membership_of_fixed same, binding_eq_of_fixed same, park_of_fixed same⟩
  case others =>
    intro q other
    rw [teardown_patch_fixed, if_neg other]
  case members => rw [members]; exact List.nil_sublist _
  case member => intro m; simp [members]
  case monitors => rw [monitors]; exact List.nil_sublist _
  case state => exact .inr ⟨state, members, monitors⟩
  case requesters =>
    intro x outstanding
    obtain before | overlay | ⟨waits, asked⟩ := teardown_requesters reason outstanding
    · exact .inl before
    · exact .inr fun q reset => by rw [overlay] at reset; cases reset
    · refine .inr fun q reset => ⟨?_, state⟩
      obtain done | tagged := named
      · rw [waits] at done; cases done
      · exact tagged q (asked.symm.trans reset)
  case work => exact workOnly_teardown reason r

end Sys2Proof.Machine

/-! SUPPORT. The shifts that every command is made of, as far as patches and routes go, and the membership law under each
(R52–R54). -/

namespace Sys2Proof.Machine

variable {s t u : State} {p : PatchId} {l : LegId}

/-! ## Shifts -/

/-- Legs, patches, the frame, the purges and the entries are as they were; the request in progress is, or it ends, or its
work waits for no purge of one patch or leg. -/
structure Elsewhere (s t : State) : Prop where
  legs : t.legs = s.legs
  patches : t.patches = s.patches
  routes : t.routes = s.routes
  work : ∀ w, w.atRest = false → t.work = some w → s.work = some w

/-- The frame in progress over, so many further purges coming before the next tick (R132, R139). -/
def State.frameEnded (s : State) (beforeTick : Option Nat) : State :=
  { s with routes := { s.routes with frame := none }, walk := { s.walk with beforeTick } }

/-- The frame in progress over, and the entries of the purges outstanding FREE (R138). -/
def State.frameOver (s : State) (beforeTick : Option Nat) : State := (s.frameEnded beforeTick).purgesFreed

/-- A console taken off a monitor list, and its entry purged (R73). -/
def State.dropMonitor (s : State) (p : PatchId) (l : LegId) : State × Bool :=
  (s.modPatch p fun x => { x with monitors := x.monitors.filter fun m => m.1 != l }).purge (.monitor p l) .monitorOff

/-- One shift of patches and routes. -/
inductive Shift : State → State → Prop where
  | fares {s t : State} : Fares s t → Shift s t
  | elsewhere {s t : State} : Elsewhere s t → Shift s t
  | waits (s : State) (w : Work) : (∀ p rest n f, w = .disband (some p) rest n f → (s.patch p).state ≠ .active) →
      (∀ l p rest a n, w = .revoke (some (l, p)) rest a n → (s.leg l).membership = none) → Shift s (s.setWork w)
  | binds (s : State) (l : LegId) (f : Leg → Leg) : (s.leg l).membership = none → (f (s.leg l)).membership = none →
      Shift s (s.modLeg l f)
  | opens (s : State) (p : PatchId) (a : OpenArgs) : (s.patch p).state = .free → s.work = none →
      Shift s (s.modPatch p fun _ => openedPatch a)
  | grants (s : State) (p : PatchId) (access : AccessList) : Shift s (s.modPatch p fun x => { x with access })
  | admits (s : State) (p : PatchId) (l : LegId) (b : Binding) : s.lowestFree.isSome = true →
      (s.patch p).state = .active → (s.leg l).park.parked = false → (s.leg l).membership = none →
      (s.patch p).monitors.any (·.1 = l) = false → (s.patch p).members.length < 8 → (s.leg l).binding.isSome = true →
      s.work = none → Shift s (admitted p l b s)
  | regains (s : State) (p : PatchId) (l : LegId) (gain : Nat) : gain ≤ 15 → Shift s (s.setMonitorGain p l gain)
  | monitors (s : State) (p : PatchId) (l : LegId) (gain : Nat) : s.lowestFree.isSome = true → 16 ≤ l.val → gain ≤ 15 →
      (s.patch p).state = .active → (s.leg l).membership ≠ some p → (s.patch p).monitoredBy l = false →
      s.monitorCount l < 4 → Shift s (s.addMonitor p l gain)
  | unmonitors (s : State) (p : PatchId) (l : LegId) : Shift s (s.dropMonitor p l).1
  | removes (s : State) (p : PatchId) (l : LegId) (r : Requester) : (s.leg l).membership = some p →
      ((s.removeMember p l r).2 = true ∨ ∀ q, r ≠ .resetPatches q) → Shift s (s.removeMember p l r).1
  | tears (s : State) (p : PatchId) (reason : EndReason) (r : Requester) : (s.patch p).state = .active →
      (s.teardown p reason r).2 = true → Shift s ((s.teardown p reason r).1.freePatch p)
  | disbands (s : State) (p : PatchId) (reason : EndReason) (r : Requester) : (s.patch p).state = .active →
      (s.teardown p reason r).2 = false → (∀ q, r = .resetPatches q → q = p) → Shift s (s.teardown p reason r).1
  | frees (s : State) (p : PatchId) : (s.patch p).state ≠ .active → s.routes.frame = none → s.routes.purges = [] →
      Shift s (s.freePatch p)
  | overlays (s : State) (n : SlotId) (p : PatchId) : (s.patch p).state = .active → Shift s (s.overlaid n p)
  | purges (s : State) (p : PatchId) : Shift s (s.purge (.overlays p) .overlayEnd).1
  | begins (s : State) (inbound : Vector Block 20) : s.routes.frame = none → Shift s (s.beginFrame inbound)
  | frameOver (s : State) (beforeTick : Option Nat) : Shift s (s.frameOver beforeTick)
  | resets (s : State) (address : BitVec 6) (rate : BitVec 2) (stamp : Word32) :
      Shift s (resetWith s (Link.afterReset address rate stamp))

/-- Any number of shifts. -/
def Shifts : State → State → Prop := Relation.ReflTransGen Shift

theorem Shifts.refl (s : State) : Shifts s s := Relation.ReflTransGen.refl

theorem Shift.shifts (shift : Shift s t) : Shifts s t := Relation.ReflTransGen.single shift

theorem Shifts.tail (shifts : Shifts s t) (last : Shift t u) : Shifts s u := Relation.ReflTransGen.tail shifts last

theorem Shifts.trans (first : Shifts s t) (second : Shifts t u) : Shifts s u := Relation.ReflTransGen.trans first second

theorem Shifts.fares (shifts : Shifts s t) (fares : Fares t u) : Shifts s u := shifts.tail (.fares fares)

theorem Shifts.keeps {P : State → Prop} (shifts : Shifts s t) (shift : ∀ s t, Shift s t → P s → P t) (holds : P s) : P t := by
  induction shifts with
  | refl => exact holds
  | tail _ last ih => exact shift _ _ last ih

/-! ## The membership law under a shift -/

theorem leg_same (same : t.legs = s.legs) (l : LegId) : (t.leg l).membership = (s.leg l).membership ∧
    ((s.leg l).membership.isSome = true →
      ((s.leg l).binding.isSome = true → (t.leg l).binding.isSome = true) ∧
        ((s.leg l).park.parked = false → (t.leg l).park.parked = false)) := by
  rw [leg_of_legs same]
  exact ⟨rfl, fun _ => ⟨id, id⟩⟩

theorem patch_of_patches (same : t.patches = s.patches) (p : PatchId) : t.patch p = s.patch p :=
  congrArg (fun v : Vector Patch 12 => v.get p) same

theorem PatchLaw.of_elsewhere (law : PatchLaw s) (elsewhere : Elsewhere s t) : PatchLaw t := by
  refine law.of_view (leg_same elsewhere.legs) (fun p => ?_) (fun p => ?_) elsewhere.work
  · rw [patch_of_patches elsewhere.patches]; exact ⟨rfl, rfl, rfl⟩
  · rw [elsewhere.routes]; exact id

theorem setWork_now {w v : Work} (now : (s.setWork w).work = some v) : v = w := by
  unfold State.work State.setWork at now
  cases progress : s.link.inProgress with
  | none => simp [progress] at now
  | some r => simpa [progress, eq_comm] using now

theorem PatchLaw.setWork (law : PatchLaw s) {w : Work}
    (patch : ∀ p rest n f, w = .disband (some p) rest n f → (s.patch p).state ≠ .active)
    (leg : ∀ l p rest a n, w = .revoke (some (l, p)) rest a n → (s.leg l).membership = none) : PatchLaw (s.setWork w) :=
  law.of_lists (leg_same (setWork_legs s w)) (fun _ => ⟨rfl, rfl⟩) (fun _ => id)
    ⟨law.resetting, fun p rest n f now => patch p rest n f (setWork_now now).symm,
      fun l p rest a n now => leg l p rest a n (setWork_now now).symm⟩

theorem PatchLaw.bind (law : PatchLaw s) {f : Leg → Leg} (alone : (s.leg l).membership = none)
    (keeps : (f (s.leg l)).membership = none) : PatchLaw (s.modLeg l f) := by
  refine law.of_view (fun m => ?_) (fun _ => ⟨rfl, rfl, rfl⟩) (fun _ => id) fun _ _ => id
  rw [leg_modLeg]
  split
  next same =>
    subst same
    exact ⟨keeps.trans alone.symm, fun member => by rw [alone] at member; cases member⟩
  next => exact ⟨rfl, fun _ => ⟨id, id⟩⟩

/-- A patch that is not ACTIVE has no member and no monitor (R52). -/
theorem PatchLaw.lists_empty (law : PatchLaw s) (inactive : (s.patch p).state ≠ .active) :
    (s.patch p).members = [] ∧ (s.patch p).monitors = [] := by
  constructor
  · by_contra listed
    exact inactive (law.active p (.inl listed))
  · by_contra listed
    exact inactive (law.active p (.inr listed))

/-- A patch that is not ACTIVE written with empty lists. -/
theorem PatchLaw.rewritten (law : PatchLaw s) {x : Patch} (inactive : (s.patch p).state ≠ .active)
    (blank : x.members = [] ∧ x.monitors = []) (waits : WaitsWell (s.modPatch p fun _ => x)) :
    PatchLaw (s.modPatch p fun _ => x) := by
  obtain ⟨noMember, noMonitor⟩ := law.lists_empty inactive
  refine law.of_lists (leg_same (modPatch_legs s p _)) (fun q => ?_) (fun q active => ?_) waits
  · rw [patch_modPatch]
    split
    next same => rw [same, noMember, noMonitor]; exact blank
    next => exact ⟨rfl, rfl⟩
  · rw [patch_modPatch]
    split
    next same => rw [same] at active; exact absurd active inactive
    next => exact active

theorem PatchLaw.opens (law : PatchLaw s) (a : OpenArgs) (free : (s.patch p).state = .free) (idle : s.work = none) :
    PatchLaw (s.modPatch p fun _ => openedPatch a) := by
  refine law.rewritten (by rw [free]; nofun) ⟨rfl, rfl⟩ ⟨?_, ?_, ?_⟩
  · intro q outstanding
    have disbanding := law.resetting q outstanding
    rw [patch_modPatch, if_neg (fun same => by rw [same, free] at disbanding; cases disbanding)]
    exact disbanding
  · intro q rest n f now
    rw [modPatch_work, idle] at now
    cases now
  · intro m q rest a n now
    rw [modPatch_work, idle] at now
    cases now

theorem PatchLaw.frees (law : PatchLaw s) (inactive : (s.patch p).state ≠ .active)
    (none : ∀ r ∈ s.routes.purges, r.requester ≠ .resetPatches p) : PatchLaw (s.freePatch p) := by
  refine law.rewritten inactive ⟨rfl, rfl⟩ ⟨?_, ?_, law.revoking⟩
  · rintro q ⟨r, outstanding, named⟩
    have other : q ≠ p := fun same => none r outstanding (same ▸ named)
    rw [patch_modPatch, if_neg other]
    exact law.resetting q ⟨r, outstanding, named⟩
  · intro q rest n f now
    rw [patch_modPatch]
    split
    · nofun
    · exact law.disbanding q rest n f now

/-- Patches written in part: neither state nor lists. -/
theorem PatchLaw.settings (law : PatchLaw s) (legs : t.legs = s.legs) (purges : t.routes.purges = s.routes.purges)
    (work : t.work = s.work) (patches : ∀ q, (t.patch q).state = (s.patch q).state ∧
      (t.patch q).members = (s.patch q).members ∧ (t.patch q).monitors = (s.patch q).monitors) : PatchLaw t :=
  law.of_view (leg_same legs) patches (fun _ => by rw [purges]; exact id) fun _ _ now => work ▸ now

theorem reserve_patch (kind : EntryKind) (dest : LegId) (gain : Nat) (source : Option Party) (q : PatchId) :
    (s.reserve p kind dest gain source).patch q =
      { s.patch q with chain := ((s.reserve p kind dest gain source).patch q).chain } := by
  unfold State.reserve
  split
  · rfl
  · rw [patch_modPatch]
    split
    next same => rw [same]; rfl
    next => rfl

theorem reserve_purges (kind : EntryKind) (dest : LegId) (gain : Nat) (source : Option Party) :
    (s.reserve p kind dest gain source).routes.purges = s.routes.purges := by
  unfold State.reserve
  split <;> rfl

theorem PatchLaw.admits (law : PatchLaw s) (b : Binding) (active : (s.patch p).state = .active)
    (unparked : (s.leg l).park.parked = false) (alone : (s.leg l).membership = none)
    (unmonitored : (s.patch p).monitors.any (·.1 = l) = false) (room : (s.patch p).members.length < 8)
    (bound : (s.leg l).binding.isSome = true) (idle : s.work = none) : PatchLaw (admitted p l b s) := by
  have outside (q : PatchId) : l ∉ (s.patch q).members := fun listed => by
    rw [(law.membership l q).mpr listed] at alone
    cases alone
  have leg (m : LegId) : (admitted p l b s).leg m = if m = l then { s.leg l with membership := some p } else s.leg m := by
    unfold admitted
    rw [reserve_leg, leg_modLeg, modPatch_leg, modPatch_leg]
  have patch (q : PatchId) : ((admitted p l b s).patch q).state = (s.patch q).state ∧
      ((admitted p l b s).patch q).monitors = (s.patch q).monitors ∧ ((admitted p l b s).patch q).members =
        if q = p then (s.patch p).members ++ [l] else (s.patch q).members := by
    unfold admitted
    rw [reserve_patch, modLeg_patch, patch_modPatch]
    split
    next same => subst same; exact ⟨rfl, rfl, rfl⟩
    next => exact ⟨rfl, rfl, rfl⟩
  have work : (admitted p l b s).work = none := by
    unfold admitted
    rw [reserve_work, modLeg_work, modPatch_work, idle]
  constructor
  case membership =>
    intro m q
    rw [leg, (patch q).2.2]
    by_cases here : m = l
    · subst here
      rw [if_pos rfl]
      by_cases there : q = p
      · subst there; simp
      · rw [if_neg there]
        exact ⟨fun same => absurd (Option.some.inj same).symm there, fun listed => absurd listed (outside q)⟩
    · rw [if_neg here, law.membership]
      split
      next same => subst same; simp [here]
      next => rfl
  case nodup =>
    intro q
    rw [(patch q).2.2]
    split
    · exact List.nodup_append.mpr ⟨law.nodup p, by simp, fun m listed n new => by
        rintro rfl
        exact outside p (List.mem_singleton.mp new ▸ listed)⟩
    · exact law.nodup q
  case capacity =>
    intro q
    rw [(patch q).2.2]
    split
    · rw [List.length_append]; exact room
    · exact law.capacity q
  case bound =>
    intro m member
    rw [leg] at member ⊢
    split at member
    next here => rw [if_pos here]; exact ⟨bound, unparked⟩
    next other => rw [if_neg other]; exact law.bound m member
  case active =>
    intro q listed
    rw [(patch q).1]
    by_cases here : q = p
    · exact here ▸ active
    · rw [(patch q).2.1, (patch q).2.2, if_neg here] at listed
      exact law.active q listed
  case consoles =>
    intro q
    rw [(patch q).2.1, (patch q).2.2]
    obtain ⟨once, each⟩ := law.consoles q
    refine ⟨once, fun m monitoring => ?_⟩
    obtain ⟨console, gain, apart⟩ := each m monitoring
    refine ⟨console, gain, ?_⟩
    split
    next same =>
      subst same
      rw [List.mem_append, List.mem_singleton]
      rintro (listed | rfl)
      · exact apart listed
      · exact List.any_eq_false.mp unmonitored m monitoring (decide_eq_true rfl)
    next => exact apart
  case reach =>
    intro m
    have same : (fun q => ((admitted p l b s).patch q).monitors.any fun x => decide (x.1 = m)) =
        fun q => (s.patch q).monitors.any fun x => decide (x.1 = m) := funext fun q => by rw [(patch q).2.1]
    rw [same]
    exact law.reach m
  case resetting =>
    intro q outstanding
    rw [(patch q).1]
    refine law.resetting q ?_
    unfold admitted at outstanding
    rwa [reserve_purges] at outstanding
  case disbanding => intro q rest n f now; rw [work] at now; cases now
  case revoking => intro m q rest a n now; rw [work] at now; cases now

theorem PatchLaw.regains (law : PatchLaw s) {gain : Nat} (allowed : gain ≤ 15) : PatchLaw (s.setMonitorGain p l gain) := by
  have patch (q : PatchId) : (s.setMonitorGain p l gain).patch q = if q = p then { s.patch p with
      monitors := (s.patch p).monitors.map fun m => if m.1 = l then (l, gain) else m } else s.patch q := by
    unfold State.setMonitorGain
    rw [mapEntries_patch, patch_modPatch]
  have consoles (q : PatchId) : ((s.setMonitorGain p l gain).patch q).monitors.map Prod.fst =
      (s.patch q).monitors.map Prod.fst := by
    rw [patch]
    split
    next same =>
      subst same
      rw [List.map_map]
      refine List.map_congr_left fun m _ => ?_
      dsimp only [Function.comp]
      split
      next named => exact named.symm
      next => rfl
    next => rfl
  have others (q : PatchId) : ((s.setMonitorGain p l gain).patch q).state = (s.patch q).state ∧
      ((s.setMonitorGain p l gain).patch q).members = (s.patch q).members := by
    rw [patch]
    split
    next same => subst same; exact ⟨rfl, rfl⟩
    next => exact ⟨rfl, rfl⟩
  have purges : (s.setMonitorGain p l gain).routes.purges = s.routes.purges := by
    unfold State.setMonitorGain State.mapEntries
    rfl
  have work : (s.setMonitorGain p l gain).work = s.work := by
    unfold State.setMonitorGain
    rw [mapEntries_work, modPatch_work]
  have leg (m : LegId) : (s.setMonitorGain p l gain).leg m = s.leg m := by
    unfold State.setMonitorGain
    rw [mapEntries_leg, modPatch_leg]
  have any (q : PatchId) (m : LegId) : ((s.setMonitorGain p l gain).patch q).monitors.any (fun x => decide (x.1 = m)) =
      (s.patch q).monitors.any fun x => decide (x.1 = m) := by
    have named (ms : List (LegId × Nat)) : ms.any (fun x => decide (x.1 = m)) =
        (ms.map Prod.fst).any fun n => decide (n = m) := by rw [List.any_map]; rfl
    rw [named, named, consoles]
  constructor
  case membership => intro m q; rw [leg, (others q).2]; exact law.membership m q
  case nodup => intro q; rw [(others q).2]; exact law.nodup q
  case capacity => intro q; rw [(others q).2]; exact law.capacity q
  case bound => intro m member; rw [leg] at member ⊢; exact law.bound m member
  case active =>
    intro q listed
    rw [(others q).1]
    refine law.active q (listed.imp (fun some => (others q).2 ▸ some) fun some empty => some ?_)
    have same := consoles q
    rw [empty, List.map_nil] at same
    exact List.map_eq_nil_iff.mp same
  case consoles =>
    intro q
    obtain ⟨once, each⟩ := law.consoles q
    rw [consoles, (others q).2, patch]
    refine ⟨once, fun m monitoring => ?_⟩
    split at monitoring
    next same =>
      subst same
      obtain ⟨n, listed, rfl⟩ := List.mem_map.mp monitoring
      obtain ⟨console, gained, apart⟩ := each n listed
      split
      next named => rw [← named]; exact ⟨console, allowed, apart⟩
      next => exact ⟨console, gained, apart⟩
    next => exact each m monitoring
  case reach =>
    intro m
    rw [show (fun q => ((s.setMonitorGain p l gain).patch q).monitors.any fun x => decide (x.1 = m)) =
      fun q => (s.patch q).monitors.any fun x => decide (x.1 = m) from funext fun q => any q m]
    exact law.reach m
  case resetting => intro q; rw [purges, (others q).1]; exact law.resetting q
  case disbanding => intro q rest n f now; rw [(others q).1]; exact law.disbanding q rest n f (work ▸ now)
  case revoking => intro m q rest a n now; rw [leg]; exact law.revoking m q rest a n (work ▸ now)

end Sys2Proof.Machine

/-! SUPPORT. The membership law under the shifts of monitors, purges, frames and resets (R54, R71, R73). -/

namespace Sys2Proof.Machine

variable {s t u : State} {p : PatchId} {l : LegId}

theorem PatchLaw.monitors (law : PatchLaw s) {gain : Nat} (console : 16 ≤ l.val) (allowed : gain ≤ 15)
    (active : (s.patch p).state = .active) (outside : (s.leg l).membership ≠ some p)
    (fresh : (s.patch p).monitoredBy l = false) (room : s.monitorCount l < 4) : PatchLaw (s.addMonitor p l gain) := by
  let source := if (s.patch p).floor.state = .held then (s.patch p).floor.owner else none
  have patch (q : PatchId) : ((s.addMonitor p l gain).patch q).state = (s.patch q).state ∧
      ((s.addMonitor p l gain).patch q).members = (s.patch q).members ∧ ((s.addMonitor p l gain).patch q).monitors =
        if q = p then (s.patch p).monitors ++ [(l, gain)] else (s.patch q).monitors := by
    unfold State.addMonitor
    dsimp only
    rw [patch_modPatch]
    split
    next same => subst same; rw [reserve_patch]; exact ⟨rfl, rfl, rfl⟩
    next => rw [reserve_patch]; exact ⟨rfl, rfl, rfl⟩
  have leg (m : LegId) : (s.addMonitor p l gain).leg m = s.leg m := by
    unfold State.addMonitor
    rw [modPatch_leg, reserve_leg]
  have purges : (s.addMonitor p l gain).routes.purges = s.routes.purges := by
    unfold State.addMonitor
    rw [modPatch_routes, reserve_purges]
  have work : (s.addMonitor p l gain).work = s.work := by
    unfold State.addMonitor
    rw [modPatch_work, reserve_work]
  have unlisted : l ∉ (s.patch p).members := fun listed => outside ((law.membership l p).mpr listed)
  have unnamed : ∀ m ∈ (s.patch p).monitors, m.1 ≠ l := fun m monitoring named =>
    List.any_eq_false.mp fresh m monitoring (decide_eq_true named)
  constructor
  case membership => intro m q; rw [leg, (patch q).2.1]; exact law.membership m q
  case nodup => intro q; rw [(patch q).2.1]; exact law.nodup q
  case capacity => intro q; rw [(patch q).2.1]; exact law.capacity q
  case bound => intro m member; rw [leg] at member ⊢; exact law.bound m member
  case active =>
    intro q listed
    rw [(patch q).1]
    by_cases here : q = p
    · exact here ▸ active
    · rw [(patch q).2.1, (patch q).2.2, if_neg here] at listed
      exact law.active q listed
  case consoles =>
    intro q
    rw [(patch q).2.1, (patch q).2.2]
    obtain ⟨once, each⟩ := law.consoles q
    split
    next same =>
      subst same
      refine ⟨?_, fun m monitoring => ?_⟩
      · rw [List.map_append, List.nodup_append]
        refine ⟨once, by simp, fun a listed b new => ?_⟩
        obtain ⟨m, monitoring, rfl⟩ := List.mem_map.mp listed
        rw [List.map_singleton, List.mem_singleton] at new
        exact new ▸ unnamed m monitoring
      · obtain listed | new := List.mem_append.mp monitoring
        · exact each m listed
        · rw [List.mem_singleton] at new
          subst new
          exact ⟨console, allowed, unlisted⟩
    next => exact ⟨once, each⟩
  case reach =>
    intro m
    by_cases here : m = l
    · subst here
      have added : ∀ q, ((s.addMonitor p m gain).patch q).monitors.any (fun x => decide (x.1 = m)) = true →
          q = p ∨ (s.patch q).monitoredBy m = true := by
        intro q monitoring
        rw [(patch q).2.2] at monitoring
        split at monitoring
        next same => exact .inl same
        next => exact .inr monitoring
      have within : ((List.finRange 12).filter fun q =>
          ((s.addMonitor p m gain).patch q).monitors.any fun x => decide (x.1 = m)).Subset
          (p :: (List.finRange 12).filter fun q => (s.patch q).monitoredBy m) := by
        intro q listed
        obtain ⟨inside, monitoring⟩ := List.mem_filter.mp listed
        obtain same | before := added q monitoring
        · exact same ▸ List.mem_cons_self ..
        · exact List.mem_cons_of_mem _ (List.mem_filter.mpr ⟨inside, before⟩)
      have count := (((List.nodup_finRange 12).filter _).subperm within).length_le
      rw [List.length_cons] at count
      exact count.trans room
    · have same : (fun q => ((s.addMonitor p l gain).patch q).monitors.any fun x => decide (x.1 = m)) =
          fun q => (s.patch q).monitors.any fun x => decide (x.1 = m) := by
        funext q
        rw [(patch q).2.2]
        split
        next there => subst there; simp [List.any_append, Ne.symm here]
        next => rfl
      rw [same]
      exact law.reach m
  case resetting => intro q; rw [purges, (patch q).1]; exact law.resetting q
  case disbanding => intro q rest n f now; rw [(patch q).1]; exact law.disbanding q rest n f (work ▸ now)
  case revoking => intro m q rest a n now; rw [leg]; exact law.revoking m q rest a n (work ▸ now)

/-- A console taken off a monitor list: no leg leaves the patch. -/
theorem departs_dropMonitor (p : PatchId) (l : LegId) : Departs s (s.dropMonitor p l).1 p fun _ => False := by
  have here : ((s.dropMonitor p l).1.patch p).fixed =
      { s.patch p with monitors := (s.patch p).monitors.filter fun m => m.1 != l }.fixed := by
    rw [State.dropMonitor, (purge_patch _ _ p).1, patch_modPatch_same]
  have members : ((s.dropMonitor p l).1.patch p).members = (s.patch p).members := by
    have same := members_of_fixed here
    exact same
  constructor
  case leaves => exact fun _ => False.elim
  case stays =>
    intro m _
    rw [State.dropMonitor, purge_leg, modPatch_leg]
    exact ⟨rfl, rfl, rfl⟩
  case others =>
    intro q other
    rw [State.dropMonitor, (purge_patch _ _ q).1, patch_modPatch_ne _ _ other]
  case members => rw [members]
  case member => intro m; rw [members]; simp
  case monitors => rw [monitors_of_fixed here]; exact List.filter_sublist
  case state =>
    have state := state_of_fixed here
    exact .inl state
  case requesters =>
    intro x outstanding
    obtain before | ⟨-, asked⟩ := purge_requesters _ _ outstanding
    · exact .inl before
    · exact .inr fun q reset => by rw [asked] at reset; cases reset
  case work =>
    refine WorkOnly.trans (.inl ?_) (workOnly_purge _ _)
    exact modPatch_work _ _ _

theorem PatchLaw.purgesOverlays (law : PatchLaw s) (p : PatchId) : PatchLaw (s.purge (.overlays p) .overlayEnd).1 := by
  refine law.of_view (leg_same (purge_legs s _ _)) (fun q => ?_) (fun q => ?_) fun w _ now => ?_
  · have same := (purge_patch (s := s) (.overlays p) .overlayEnd q).1
    exact ⟨state_of_fixed same, members_of_fixed same, monitors_of_fixed same⟩
  · rintro ⟨r, outstanding, reset⟩
    obtain before | ⟨-, asked⟩ := purge_requesters _ _ outstanding
    · exact ⟨r, before, reset⟩
    · rw [asked] at reset; cases reset
  · exact (workOnly_purge _ _).now now

theorem overlaid_patch (n : SlotId) (q : PatchId) :
    (s.overlaid n p).patch q = { s.patch q with chain := ((s.overlaid n p).patch q).chain } :=
  List.foldlRecOn (motive := fun t : State => t.patch q = { s.patch q with chain := (t.patch q).chain }) _ _ rfl
    fun t before l _ => by rw [reserve_patch, before]

theorem PatchLaw.overlays (law : PatchLaw s) (n : SlotId) (p : PatchId) : PatchLaw (s.overlaid n p) := by
  refine law.settings ?_ ?_ ?_ fun q => ?_
  · exact reserveAll_keeps (fun t => t.legs) (gain := fun s => (s.slot n).level) (fun s l => reserve_legs s _ _ _ _ _) _
  · exact reserveAll_keeps (fun t => t.routes.purges) (gain := fun s => (s.slot n).level)
      (fun s l => reserve_purges _ _ _ _) _
  · exact reserveAll_keeps (fun t => t.work) (gain := fun s => (s.slot n).level) (fun s l => reserve_work s _ _ _ _ _) _
  · rw [overlaid_patch]; exact ⟨rfl, rfl, rfl⟩

theorem beginFrame_purges (inbound : Vector Block 20) : (s.beginFrame inbound).routes.purges = s.routes.purges := by
  rw [beginFrame_eq]
  unfold State.applyPending State.mapEntries
  rfl

theorem PatchLaw.begins (law : PatchLaw s) (inbound : Vector Block 20) : PatchLaw (s.beginFrame inbound) := by
  refine law.settings ?_ (beginFrame_purges inbound) ?_ fun q => ?_
  · simp [beginFrame_eq]
  · rw [State.work, State.work]
    exact congrArg (Option.map InProgress.work) (congrArg Link.inProgress (by simp [beginFrame_eq]))
  · rw [patch_of_patches (show (s.beginFrame inbound).patches = s.patches by simp [beginFrame_eq])]
    exact ⟨rfl, rfl, rfl⟩

theorem purgesFreed_patch (q : PatchId) : (s.purgesFreed.patch q).fixed = (s.patch q).fixed := by
  rw [State.purgesFreed, freeEntries_patch]
  rfl

theorem purgesFreed_purges : s.purgesFreed.routes.purges = [] := by
  unfold State.purgesFreed State.freeEntries State.mapEntries State.mapPatches
  rfl

theorem PatchLaw.frameOver (law : PatchLaw s) (beforeTick : Option Nat) : PatchLaw (s.frameOver beforeTick) := by
  refine law.of_view (leg_same (freeEntries_legs _ _)) (fun q => ?_) (fun q => ?_) fun w _ now => ?_
  · have same : ((s.frameOver beforeTick).patch q).fixed = (s.patch q).fixed := purgesFreed_patch q
    exact ⟨state_of_fixed same, members_of_fixed same, monitors_of_fixed same⟩
  · rw [State.frameOver, purgesFreed_purges]
    rintro ⟨r, outstanding, -⟩
    cases outstanding
  · rw [State.frameOver, State.purgesFreed, freeEntries_work] at now
    exact now

theorem patchLaw_reset (address : BitVec 6) (rate : BitVec 2) (stamp : Word32) :
    PatchLaw (resetWith s (Link.afterReset address rate stamp)) := by
  have patch (q : PatchId) : (resetWith s (Link.afterReset address rate stamp)).patch q = {} := get_replicate _ q
  have membership (l : LegId) : ((resetWith s (Link.afterReset address rate stamp)).leg l).membership = none := by
    rw [resetWith, leg_resetBlocks, afterReset_eq]
  constructor
  case membership => intro l q; rw [membership, patch]; simp
  case nodup => intro q; rw [patch]; exact List.nodup_nil
  case capacity => intro q; rw [patch]; simp
  case bound => intro l member; rw [membership] at member; cases member
  case active => intro q listed; rw [patch] at listed; simp at listed
  case consoles => intro q; rw [patch]; simp
  case reach => intro l; simp [patch]
  case resetting => rintro q ⟨r, outstanding, -⟩; cases outstanding
  case disbanding => intro q rest n f now; cases now
  case revoking => intro l q rest a n now; cases now

/-- Every shift keeps the membership law. -/
theorem PatchLaw.of_shift (law : PatchLaw s) (shift : Shift s t) : PatchLaw t := by
  cases shift with
  | fares fares => exact law.of_acts fares.acts
  | elsewhere elsewhere => exact law.of_elsewhere elsewhere
  | waits w patch leg => exact law.setWork patch leg
  | binds l f alone keeps => exact law.bind alone keeps
  | opens p a free idle => exact law.opens a free idle
  | grants p access =>
    refine law.settings rfl rfl rfl fun q => ?_
    rw [patch_modPatch]
    split
    next same => subst same; exact ⟨rfl, rfl, rfl⟩
    next => exact ⟨rfl, rfl, rfl⟩
  | admits p l b _ active unparked alone unmonitored room bound idle =>
    exact law.admits b active unparked alone unmonitored room bound idle
  | regains p l gain allowed => exact law.regains allowed
  | monitors p l gain _ console allowed active outside fresh room =>
    exact law.monitors console allowed active outside fresh room
  | unmonitors p l => exact law.of_departs (departs_dropMonitor p l)
  | removes p l r joined named => exact law.of_departs (departs_removeMember joined (law.placed l p joined) named)
  | tears p reason r active done =>
    have departs := departs_teardown law reason (.inl done)
    refine (law.of_departs departs).frees ?_ fun x outstanding reset => ?_
    · rw [teardown_state]; nofun
    · obtain before | overlay | ⟨waits, -⟩ := teardown_requesters reason outstanding
      · cases active.symm.trans (law.resetting p ⟨x, before, reset⟩)
      · rw [overlay] at reset; cases reset
      · rw [done] at waits; cases waits
  | disbands p reason r _ waits named => exact law.of_departs (departs_teardown law reason (.inr named))
  | frees p inactive _ noPurge => exact law.frees inactive (by rw [noPurge]; simp)
  | overlays n p _ => exact law.overlays n p
  | purges p => exact law.purgesOverlays p
  | begins inbound _ => exact law.begins inbound
  | frameOver beforeTick => exact law.frameOver beforeTick
  | resets address rate stamp => exact patchLaw_reset address rate stamp

end Sys2Proof.Machine

/-! SUPPORT. Every command is made of shifts, and so keeps the membership law (R52–R54). -/

namespace Sys2Proof.Machine

variable {s t u : State} {h : Header} {k : Kind} {take : State → State} {p : PatchId} {l : LegId}

/-! ## Shifts of the link and the clips -/

/-- The link, the clips, the directory or the walk alone, the work in progress as it was or over. -/
theorem elsewhere_of (legs : t.legs = s.legs) (patches : t.patches = s.patches) (routes : t.routes = s.routes)
    (work : WorkOnly s t) : Elsewhere s t := ⟨legs, patches, routes, fun _ _ now => work.now now⟩

theorem elsewhere_finish (r : Result) (results : List Byte) : Elsewhere s (s.finish r results) :=
  elsewhere_of (finish_legs s r results) (finish_patches s r results) (finish_routes s r results)
    (.inr (finish_work r results))

theorem elsewhere_answer (h : Header) (code : Byte) (body : List Byte) : Elsewhere s (s.answer h code body) :=
  elsewhere_of (answer_legs s h code body) (answer_patches s h code body) (answer_routes s h code body)
    (.inl (answer_work h code body))

theorem elsewhere_place (w : Walk) : Elsewhere s { s with walk := w } := elsewhere_of rfl rfl rfl (.inl rfl)

theorem elsewhere_rests {work : Work} (rest : work.atRest = true) : Elsewhere s (s.setWork work) where
  legs := setWork_legs s work
  patches := setWork_patches s work
  routes := setWork_routes s work
  work w waits now := by
    rw [setWork_now now, rest] at waits
    cases waits

theorem elsewhere_begin (h : Header) (k : Kind) {work : Work} (rest : work.atRest = true) :
    Elsewhere s (s.begin h k work) where
  legs := rfl
  patches := rfl
  routes := rfl
  work w waits now := by
    cases now
    rw [rest] at waits
    cases waits

theorem Untouched.elsewhere (untouched : Untouched s t) : Elsewhere s t :=
  elsewhere_of untouched.legs untouched.patches untouched.routes
    (.inl (by rw [State.work, State.work, untouched.progress]))

theorem Shifts.elsewhere (shifts : Shifts s t) (elsewhere : Elsewhere t u) : Shifts s u := shifts.tail (.elsewhere elsewhere)

theorem fares_offer (d : Detail) (l : Option LegId) (p : Option PatchId) : Fares s (s.offer d l p) :=
  fares_of_patches (calm_offer d l p).acts (offer_patches s d l p)

theorem fares_setDemand (l : LegId) (on : Bool) : Fares s (s.setDemand l on) :=
  fares_of_leaving (calm_setDemand l on).acts (claimsOnlyLeave_setDemand l on)

theorem fares_clearPlayback : Fares s s.clearPlayback :=
  fares_of_patches (Arbitrates.clears (.refl s)).acts (clearPlayback_patches s)

theorem shifts_overlayEnded : Shifts s s.overlayEnded := by
  have cleared : Shifts s s.clearPlayback := (Shift.fares fares_clearPlayback).shifts
  unfold State.overlayEnded
  dsimp only
  split <;> split
  · exact (cleared.fares (fares_offer _ _ _)).elsewhere (elsewhere_finish _ _)
  · exact cleared.elsewhere (elsewhere_finish _ _)
  · exact cleared.fares (fares_offer _ _ _)
  · exact cleared

theorem shifts_purgeOverlays (p : PatchId) : Shifts s (s.purgeOverlays p) := by
  have purged : Shifts s (s.purge (.overlays p) .overlayEnd).1 := (Shift.purges s p).shifts
  unfold State.purgeOverlays
  dsimp only
  split
  · exact purged.trans shifts_overlayEnded
  · exact purged

theorem shifts_endOverlay (reason : EndReason) : Shifts s (s.endOverlay reason) := by
  have entered : Elsewhere s (s.enterEnding reason) := elsewhere_of rfl rfl rfl (.inl rfl)
  unfold State.endOverlay
  split
  · exact (Shift.elsewhere entered).shifts.trans (shifts_purgeOverlays _)
  · exact .refl s

theorem shifts_takeDueEnd : Shifts s s.takeDueEnd := by
  unfold State.takeDueEnd
  split
  · unfold State.endPlayback
    split
    · exact (Shift.fares (fares_endTake _)).shifts
    · exact shifts_endOverlay _
  · exact .refl s

/-! ## The walks -/

/-- What of a masked change follows the writing of the record takes claims out of queues at most. -/
theorem fares_mask (l : LegId) (f : Leg → Leg) : Fares (s.modLeg l f) (s.maskedChange l f) := by
  refine fares_of_leaving (calm_mask l f).acts fun p => ?_
  obtain ⟨rest, fewer, floor⟩ := claimsOnlyLeave_maskedChange (s := s) l f p
  rw [modLeg_patch]
  exact ⟨rest, fewer, floor⟩

theorem membership_dropFault (x : Leg) : x.dropFault.membership = x.membership := by
  unfold Leg.dropFault
  split <;> rfl

/-- A leg that is no member, its binding and transmit machine written, and the masking that follows. -/
theorem shifts_rebind (alone : (s.leg l).membership = none) {f : Leg → Leg}
    (keeps : (f (s.leg l)).membership = none) : Shifts s (s.maskedChange l f) :=
  (Shift.binds s l f alone keeps).shifts.fares (fares_mask l f)

theorem shifts_revokeLeg (alone : (s.leg l).membership = none) (left : Option PatchId) (a : AgencyId) :
    Shifts s (s.revokeLeg l left a) := by
  have still : ((s.setDemand l false).leg l).membership = none :=
    (membership_of_fixed ((calm_setDemand l false).legs l)).trans alone
  have demanded : Shifts s (s.setDemand l false) := (Shift.fares (fares_setDemand l false)).shifts
  have unbound := shifts_rebind (f := fun x => { x with binding := none }.dropFault) still
    ((membership_dropFault { (s.setDemand l false).leg l with binding := none }).trans still)
  exact (demanded.trans unbound).fares (fares_offer _ _ _)

theorem walksKeep_shifts (s : State) : WalksKeep (Shifts s) where
  place _ w before := before.elsewhere (elsewhere_place w)
  finish _ r results before := before.elsewhere (elsewhere_finish r results)
  rests _ _ rest before := before.elsewhere (elsewhere_rests rest)
  tears u p reason r before active done := before.tail (.tears u p reason r active done)
  disbands u p _ _ _ before active waits := by
    refine (before.tail (.disbands u p _ _ active waits nofun)).tail (.waits _ _ ?_ ?_)
    · intro q rest n f same
      cases same
      rw [teardown_state]
      nofun
    · intro l q rest a n same
      cases same
  resets u p before active waits := before.tail (.disbands u p _ _ active waits fun q same => by cases same; rfl)
  unbinds _ _ left a before alone := before.trans (shifts_revokeLeg alone left a)
  removes u l p r before joined done := before.tail (.removes u p l r joined (.inl done))
  revokes u l p _ _ _ before joined _ := by
    refine (before.tail (.removes u p l .revoke joined (.inr nofun))).tail (.waits _ _ ?_ ?_)
    · intro q rest n f same
      cases same
    · intro m q rest a n same
      cases same
      rw [membership_of_fixed ((removeMember_leg_fixed _ _).trans (if_pos rfl))]
      rfl

/-! ## Between frames -/

/-- Between frames with no purge outstanding, and no patch ACTIVE that the purges just over are to free. -/
structure BetweenFrames (purges : List Purge) (t : State) : Prop where
  frame : t.routes.frame = none
  settled : t.routes.purges = []
  inactive : ∀ p, (∃ r ∈ purges, r.requester = .resetPatches p) → (t.patch p).state ≠ .active

theorem BetweenFrames.of_same {purges : List Purge} (between : BetweenFrames purges s) (frame : t.routes.frame = s.routes.frame)
    (same : t.routes.purges = s.routes.purges)
    (state : ∀ p, (s.patch p).state ≠ .active → (t.patch p).state ≠ .active) : BetweenFrames purges t :=
  ⟨frame.trans between.frame, same.trans between.settled, fun p named => state p (between.inactive p named)⟩

theorem BetweenFrames.arbiter {purges : List Purge} (between : BetweenFrames purges s) (keeps : ArbiterKeeps s t) : BetweenFrames purges t :=
  between.of_same keeps.frame.1 keeps.frame.2 fun p inactive => by rwa [state_of_fixed (keeps.patches p).1]

theorem BetweenFrames.patches {purges : List Purge} (between : BetweenFrames purges s) (routes : t.routes = s.routes)
    (same : t.patches = s.patches) : BetweenFrames purges t :=
  between.of_same (by rw [routes]) (by rw [routes]) fun p inactive => by rwa [patch_of_patches same]

theorem freeEntries_frame (taken : List EntryId) : (s.freeEntries taken).routes.frame = s.routes.frame ∧
    (s.freeEntries taken).routes.purges = s.routes.purges := by
  unfold State.freeEntries State.mapEntries State.mapPatches
  exact ⟨rfl, rfl⟩

theorem BetweenFrames.purge {purges : List Purge} (between : BetweenFrames purges s) (sel : Selector) (r : Requester) :
    BetweenFrames purges (s.purge sel r).1 := by
  have frame := freeEntries_frame (s := s) (s.purged sel)
  refine between.of_same ?_ ?_ fun p inactive => ?_
  · rw [purge_betweenFrames _ _ _ between.frame]; exact frame.1
  · rw [purge_betweenFrames _ _ _ between.frame]; exact frame.2
  · rwa [state_of_fixed (purge_patch sel r p).1]

theorem BetweenFrames.modPatch {purges : List Purge} (between : BetweenFrames purges s) (p : PatchId) {f : Patch → Patch}
    (state : (s.patch p).state ≠ .active → (f (s.patch p)).state ≠ .active) : BetweenFrames purges (s.modPatch p f) :=
  between.of_same rfl rfl fun q inactive => by
    rw [patch_modPatch]
    split
    next same => subst same; exact state inactive
    next => exact inactive

theorem BetweenFrames.removeMember {purges : List Purge} (between : BetweenFrames purges s) (p : PatchId) (l : LegId) (r : Requester) :
    BetweenFrames purges (s.removeMember p l r).1 := by
  have listed : BetweenFrames purges (s.modPatch p fun x => { x with members := x.members.filter (· != l) }) :=
    between.modPatch p id
  exact ((listed.arbiter (arbitrates_takenOut p l).kept).purge _ _).patches (modLeg_routes _ _ _) (modLeg_patches _ _ _)

theorem BetweenFrames.overlayEnded {purges : List Purge} (between : BetweenFrames purges s) : BetweenFrames purges s.overlayEnded :=
  between.patches (overlayEnded_routes s) (overlayEnded_patches s)

theorem BetweenFrames.teardown {purges : List Purge} (between : BetweenFrames purges s) (p : PatchId) (reason : EndReason) (r : Requester) :
    BetweenFrames purges (s.teardown p reason r).1 := by
  have vacated : BetweenFrames purges (s.vacated p reason) := by
    refine between.of_same (by rw [vacated_purges]) (by rw [vacated_purges]) fun q inactive => ?_
    have fixed := vacated_patch_fixed (s := s) p reason q
    by_cases here : q = p
    · have state : ((s.vacated p reason).patch q).fixed =
          { s.patch p with state := .disbanding, members := [], monitors := [] }.fixed := by
        rw [fixed, if_pos here]
        rfl
      rw [state_of_fixed state]
      nofun
    · rw [if_neg here] at fixed
      rwa [state_of_fixed fixed]
  have untagged : BetweenFrames purges (s.untagged p reason) := by
    unfold State.untagged State.purgeOverlays
    dsimp only
    split
    · split
      · exact (vacated.purge _ _).overlayEnded
      · exact vacated.purge _ _
    · exact vacated
  rw [teardown_eq]
  exact untagged.purge _ _

theorem BetweenFrames.revokeLeg {purges : List Purge} (between : BetweenFrames purges s) (l : LegId) (left : Option PatchId) (a : AgencyId) :
    BetweenFrames purges (s.revokeLeg l left a) := by
  have demanded := between.arbiter (calm_setDemand l false).keeps
  have unbound : BetweenFrames purges ((s.setDemand l false).modLeg l fun x => { x with binding := none }.dropFault) :=
    demanded.patches rfl rfl
  exact (unbound.arbiter (calm_mask l _).keeps).arbiter (calm_offer _ _ _).keeps

theorem BetweenFrames.freePatch {purges : List Purge} (between : BetweenFrames purges s) (p : PatchId) : BetweenFrames purges (s.freePatch p) :=
  between.modPatch p fun _ => nofun

theorem walksKeep_over (purges : List Purge) : WalksKeep (BetweenFrames purges) where
  place _ _ between := between.patches rfl rfl
  finish u r results between := between.patches (finish_routes u r results) (finish_patches u r results)
  rests u w _ between := between.patches (setWork_routes u w) (setWork_patches u w)
  tears _ p reason r between _ _ := (between.teardown p reason r).freePatch p
  disbands _ p _ _ _ between _ _ := (between.teardown p _ _).patches (setWork_routes _ _) (setWork_patches _ _)
  resets _ p between _ _ := between.teardown p _ _
  unbinds _ l left a between _ := between.revokeLeg l left a
  removes _ l p r between _ _ := between.removeMember p l r
  revokes _ l p _ _ _ between _ _ := (between.removeMember p l _).patches (setWork_routes _ _) (setWork_patches _ _)

theorem PatchLaw.of_shifts (law : PatchLaw s) (shifts : Shifts s t) : PatchLaw t :=
  shifts.keeps (fun _ _ shift law => law.of_shift shift) law

theorem tellsKeep_shifts (law : PatchLaw s) (purges : List Purge) :
    TellsKeep (fun t => Shifts s t ∧ BetweenFrames purges t) purges where
  walks := (walksKeep_shifts s).and (walksKeep_over purges)
  frees u p rest n f := fun ⟨before, between⟩ now =>
    ⟨before.tail (.frees u p ((law.of_shifts before).disbanding p rest n f now) between.frame between.settled), between.freePatch p⟩
  unbinds u l p rest a n := fun ⟨before, between⟩ now =>
    ⟨before.trans (shifts_revokeLeg ((law.of_shifts before).revoking l p rest a n now) _ _), between.revokeLeg l _ _⟩
  resets u p := fun ⟨before, between⟩ named =>
    ⟨before.tail (.frees u p (between.inactive p named) between.frame between.settled), between.freePatch p⟩
  overlay _ := fun ⟨before, between⟩ => ⟨before.trans shifts_overlayEnded, between.overlayEnded⟩

theorem takeFrameDone_of_frame {taken : List Taken} (frame : s.routes.frame = some taken) (beforeTick : Option Nat) :
    takeFrameDone beforeTick s = ((s.deliver taken).frameEnded beforeTick).completePurges := by
  rw [takeFrameDone, frame] <;> rfl

theorem takeFrameDone_of_idle (idle : s.routes.frame = none) (beforeTick : Option Nat) : takeFrameDone beforeTick s = s := by
  rw [takeFrameDone, idle]

theorem betweenFrames_frameOver (law : PatchLaw s) (beforeTick : Option Nat) :
    BetweenFrames (s.frameEnded beforeTick).routes.purges (s.frameOver beforeTick) where
  frame := (freeEntries_frame _).1
  settled := purgesFreed_purges
  inactive p outstanding := by
    have same : ((s.frameOver beforeTick).patch p).fixed = (s.patch p).fixed := purgesFreed_patch p
    rw [state_of_fixed same]
    intro active
    cases active.symm.trans (law.resetting p outstanding)

theorem shifts_frameDone (law : PatchLaw s) (beforeTick : Option Nat) : Shifts s (takeFrameDone beforeTick s) := by
  cases frame : s.routes.frame with
  | none => rw [takeFrameDone_of_idle frame]; exact .refl s
  | some taken =>
    have delivered : Shifts s (s.deliver taken) := (Shift.fares (records_deliver taken).fares).shifts
    have freed : Shifts s ((s.deliver taken).frameOver beforeTick) := delivered.tail (.frameOver _ beforeTick)
    rw [takeFrameDone_of_frame frame]
    exact ((tellsKeep_shifts law _).completePurges
      ⟨freed, betweenFrames_frameOver (law.of_shifts delivered) beforeTick⟩).1

theorem shifts_frameStart (inbound : Vector Block 20) (order : List LegId) :
    Shifts s (takeFrameStart inbound order s) := by
  unfold takeFrameStart
  split
  · exact .refl s
  next idle =>
    have stamped : Elsewhere s s.advanceStamp := elsewhere_of rfl rfl rfl (.inl rfl)
    have ticked : Shifts s s.advanceStamp.tickTimers := (Shift.elsewhere stamped).shifts.fares fares_tickTimers
    have idleThen : s.advanceStamp.tickTimers.routes.frame = none := by
      unfold State.tickTimers
      rw [mapPatches_routes, mapLegs_routes]
      exact idle
    have begun := ticked.tail (.begins _ inbound idleThen)
    have ended : ∀ t, Shifts s t → Shifts s t.endBeforeTick := fun t before => by
      unfold State.endBeforeTick
      split
      · exact before.trans shifts_takeDueEnd
      · exact before
    exact (walksKeep_shifts s).walkOn ((ended _ begun).fares (fares_compareVox inbound order))

end Sys2Proof.Machine

/-! SUPPORT. The request rows as shifts, and the membership law under every step (R52–R54). -/

namespace Sys2Proof.Machine

variable {s t u : State} {h : Header} {k : Kind} {take : State → State} {p : PatchId} {l : LegId}

/-! ## The rows that write patches, routes or bindings -/

theorem shifts_answer (h : Header) (code : Byte) (body : List Byte) : Shifts s (s.answer h code body) :=
  (Shift.elsewhere (elsewhere_answer h code body)).shifts

theorem shifts_refuse (h : Header) (k : Kind) (r : Result) : Shifts s (s.refuse h k r) := shifts_answer _ _ _

theorem Shifts.grants (shifts : Shifts s t) (h : Header) (k : Kind) (results : List Byte) :
    Shifts s (t.grantReply h k results) := shifts.elsewhere (elsewhere_answer _ _ _)

theorem ActsOnly.shifts (acts : ActsOnly s t) : Shifts s t :=
  let ⟨_, fares, untouched⟩ := acts
  (Shift.fares fares).shifts.elsewhere untouched.elsewhere

theorem work_of_idle (idle : s.link.inProgress = none) : s.work = none := by rw [State.work, idle]; rfl

theorem shifts_bind (a : BindArgs) : Shifts s (takeBind h a s) := by
  unfold takeBind
  split
  · split
    · exact shifts_refuse _ _ _
    next member =>
      have alone := Option.not_isSome_iff_eq_none.mp member
      split
      · unfold bindFast
        split
        · exact shifts_refuse _ _ _
        · split
          · exact shifts_refuse _ _ _
          · exact (Shift.binds _ _ _ alone alone).shifts.grants _ _ _
      · unfold bindFull
        split
        · exact shifts_refuse _ _ _
        · exact (shifts_rebind alone alone).grants _ _ _
  · exact shifts_refuse _ _ _

theorem shifts_unbind (leg : Byte) : Shifts s (takeUnbind h leg s) := by
  unfold takeUnbind
  split
  · exact shifts_refuse _ _ _
  next l _ =>
    split
    · exact shifts_refuse _ _ _
    next member =>
      have alone := Option.not_isSome_iff_eq_none.mp member
      have unbound : Shifts s (unbindLeg l s) :=
        shifts_rebind alone ((membership_dropFault { s.leg l with binding := none }).trans alone)
      exact unbound.grants _ _ _

theorem shifts_revoke (agency : Byte) : Shifts s (takeRevoke h agency s) := by
  unfold takeRevoke
  split
  · exact shifts_refuse _ _ _
  next a _ =>
    have withdrawn : Elsewhere s (s.modAgency a fun x => { x with valid := false }.bumped) :=
      elsewhere_of rfl rfl rfl (.inl rfl)
    exact (walksKeep_shifts s).revokeWalk _ _ _ _ _
      ((Shift.elsewhere withdrawn).shifts.elsewhere (elsewhere_begin h .revoke rfl))

theorem shifts_open (idle : s.work = none) (a : OpenArgs) : Shifts s (takeOpen h a s) := by
  unfold takeOpen
  split
  · split
    · exact shifts_refuse _ _ _
    · split
      next free => exact (Shift.opens _ _ a free idle).shifts.grants _ _ _
      next => exact shifts_refuse _ _ _
  · exact shifts_refuse _ _ _

theorem FloorLaw.joinFloor (law : FloorLaw s) (p : PatchId) (l : LegId) {e : EntryId} (live : (s.entry e).live = true) :
    FloorLaw (s.joinFloor p l e) := by
  refine law.of_leaving (calm_joinFloor p l live).sameMembers ?_
  have keyed : ClaimsOnlyLeave s (if isRadio l then s.setDemand l true else s) := by
    split
    · exact claimsOnlyLeave_setDemand l true
    · exact claimsOnlyLeave_of_patches rfl
  unfold State.joinFloor
  dsimp only
  split
  · exact claimsOnlyLeave_of_patches rfl
  split
  · exact keyed.trans (claimsOnlyLeave_of_patches (modEntry_patches _ e _))
  · exact keyed

/-- The floor is told of a member: its claim offered, and it as a destination (R60, R61). -/
theorem fares_handToFloor {e : EntryId} (joined : (s.leg l).membership = some p) (live : (s.entry e).live = true) :
    Fares s (s.handToFloor p l e) where
  acts := (arbitrates_handToFloor p l live).acts
  floors patches law := by
    have claimed : FloorLaw (s.joinClaim p l) := by
      unfold State.joinClaim
      split
      · exact law.claimArrives fun m party => by cases party; exact patches.placed l p joined
      · exact law
    rw [handToFloor_eq]
    refine claimed.joinFloor p l ?_
    rw [live_of_fixed ((arbitrates_joinClaim p l).kept.entries e), live]

theorem admitted_leg (b : Binding) : ((admitted p l b s).leg l).membership = some p := by
  unfold admitted
  rw [reserve_leg, leg_modLeg_same]

/-- A leg admitted to a patch, its binding renewed or not. -/
theorem shifts_joinLeg {b : Binding} {e : EntryId} (free : s.lowestFree = some e) (active : (s.patch p).state = .active)
    (unparked : (s.leg l).park.parked = false) (alone : (s.leg l).membership = none)
    (unmonitored : (s.patch p).monitors.any (·.1 = l) = false) (room : (s.patch p).members.length < 8)
    (bound : (s.leg l).binding.isSome = true) (idle : s.work = none) :
    Shifts s ((admitted p l b s).handToFloor p l e) := by
  have admits := Shift.admits s p l b (by rw [free]; rfl) active unparked alone unmonitored room bound idle
  refine admits.shifts.fares (fares_handToFloor (admitted_leg b) ?_)
  rw [admitted_entry free]
  rfl

theorem binding_mask (f : Leg → Leg) (m : LegId) : ((s.maskedChange l f).leg m).fixed = ((s.modLeg l f).leg m).fixed :=
  (calm_mask l f).legs m

theorem shifts_join (idle : s.work = none) (patch leg options : Byte) : Shifts s (takeJoin h patch leg options s) := by
  unfold takeJoin
  split
  · split
    · exact shifts_refuse _ _ _
    next checked free =>
      obtain ⟨active, unparked, alone, unmonitored, room, c, bound, -⟩ := joinChecks_refresh checked (by simp)
      exact (shifts_joinLeg free active unparked alone unmonitored room (by rw [bound]; rfl) idle).grants _ _ _
    next p l _ _ _ _ b e checked free =>
      obtain ⟨active, unparked, alone, unmonitored, room, c, -, -⟩ := joinChecks_refresh checked (by simp)
      have written : ((s.modLeg l fun x => { x with binding := some b }).leg l) = { s.leg l with binding := some b } :=
        leg_modLeg_same _ _ _
      have fixed : ((s.writeBinding l (some b)).leg l).fixed = { s.leg l with binding := some b }.fixed :=
        (binding_mask _ l).trans (congrArg Leg.fixed written)
      have patches (q : PatchId) : ((s.writeBinding l (some b)).patch q).fixed = (s.patch q).fixed :=
        ((calm_mask (s := s) l fun x => { x with binding := some b }).patches q).1
      have rebound : Shifts s (s.writeBinding l (some b)) :=
        shifts_rebind (f := fun x => { x with binding := some b }) alone alone
      refine (rebound.trans (shifts_joinLeg ((writeBinding_lowestFree l _).trans free) ?_ ?_ ?_ ?_ ?_ ?_ ?_)).grants _ _ _
      · rw [state_of_fixed (patches p), active]
      · rw [park_of_fixed fixed]; exact unparked
      · rw [membership_of_fixed fixed]; exact alone
      · rw [monitors_of_fixed (patches p)]; exact unmonitored
      · rw [members_of_fixed (patches p)]; exact room
      · rw [binding_eq_of_fixed fixed]; rfl
      · exact (calm_mask (s := s) l fun x => { x with binding := some b }).work.trans idle
    · exact shifts_refuse _ _ _
  · exact shifts_refuse _ _ _

/-- Work begun that its purge completes, or that waits for it. -/
theorem shifts_purge {w : State × Bool} (shifts : Shifts s w.1) : Shifts s (if w.2 then w.1.finish .ok [] else w.1) := by
  split
  · exact shifts.elsewhere (elsewhere_finish _ _)
  · exact shifts

theorem shifts_leave (leg : Byte) : Shifts s (takeLeave h leg s) := by
  unfold takeLeave
  split
  · exact shifts_refuse _ _ _
  split
  · exact shifts_refuse _ _ _
  next l _ _ p joined =>
    exact shifts_purge ((Shift.elsewhere (elsewhere_begin h .leave rfl)).shifts.tail
      (.removes (s.begin h .leave .leave) p l .leave joined (.inr nofun)))

theorem shifts_disband (first count options : Byte) : Shifts s (takeDisband h first count options s) := by
  unfold takeDisband
  split
  · exact (walksKeep_shifts s).disbandWalk _ _ _ _ _ (Shift.elsewhere (elsewhere_begin h .disband rfl)).shifts
  · exact shifts_refuse _ _ _

theorem shifts_access (patch : Byte) (list : AccessArgs) : Shifts s (takeAccess h patch list s) := by
  unfold takeAccess
  split
  · split
    · exact (Shift.grants _ _ _).shifts.grants _ _ _
    · exact shifts_refuse _ _ _
  · exact shifts_refuse _ _ _

theorem shifts_monitorOn (leg patch gain : Byte) : Shifts s (takeMonitorOn h leg patch gain s) := by
  unfold takeMonitorOn
  split
  next console _ allowed =>
    have low : gain.toNat ≤ 15 := by simpa using allowed
    split
    · exact shifts_refuse _ _ _
    next active =>
      split
      · exact shifts_refuse _ _ _
      next outside =>
        split
        · exact (Shift.regains _ _ _ _ low).shifts.grants _ _ _
        next fresh =>
          split
          · exact shifts_refuse _ _ _
          next room =>
            split
            · exact shifts_refuse _ _ _
            next free =>
              exact (Shift.monitors _ _ _ _ (by rw [free]; rfl) (consoleOf_eq_some_iff.mp console).2 low (by simpa using active) outside
                (by simpa using fresh) (by simpa [Config.monitorCapacity] using room)).shifts.grants _ _ _
  · exact shifts_refuse _ _ _

theorem shifts_monitorOff (leg patch gain : Byte) : Shifts s (takeMonitorOff h leg patch gain s) := by
  unfold takeMonitorOff
  split
  next l p _ _ _ =>
    split
    · exact shifts_purge ((Shift.elsewhere (elsewhere_begin h .monitor rfl)).shifts.tail
        (.unmonitors (s.begin h .monitor .monitorOff) p l))
    · exact shifts_answer _ _ _
  · exact shifts_refuse _ _ _

theorem elsewhere_starts (n : SlotId) (p : PatchId) (mode : PlayMode) (priority repeats : Byte) :
    Elsewhere s (s.starts n p mode priority repeats) := elsewhere_of rfl rfl rfl (.inl rfl)

theorem fares_claimArrives_clip (p : PatchId) : Fares s (s.claimArrives p .clip) :=
  ⟨(arbitrates_claimArrives p .clip).acts, fun _ law => law.claimArrives nofun⟩

theorem shifts_play (slot patch mode priority repeats : Byte) :
    Shifts s (takePlay h slot patch mode priority repeats s) := by
  unfold takePlay
  split
  next n p _ _ _ =>
    split
    · exact shifts_refuse _ _ _
    next passed =>
      obtain ⟨-, -, active, -⟩ := playChecks_passed passed
      split
      · exact ((Shift.overlays s n p active).shifts.elsewhere (elsewhere_starts n p .overlay priority repeats)).grants _ _ _
      · exact ((Shift.elsewhere (elsewhere_starts n p .take priority repeats)).shifts.fares
          (fares_claimArrives_clip p)).grants _ _ _
  · exact shifts_refuse _ _ _

theorem shifts_halt : Shifts s (takeHalt h s) := by
  have take : Shifts s (s.endTake .halted) := (Shift.fares (fares_endTake _)).shifts
  have begun : Shifts s (s.begin h .halt .halt) := (Shift.elsewhere (elsewhere_begin h .halt rfl)).shifts
  unfold takeHalt
  dsimp only
  split
  · exact shifts_answer _ _ _
  · exact take.grants _ _ _
  · exact take.grants _ _ _
  · exact take.grants _ _ _
  · exact take.grants _ _ _
  · exact begun.trans (shifts_endOverlay _)
  · exact begun.trans (shifts_endOverlay _)
  · exact begun

theorem shifts_resetAll : Shifts s (takeResetAll h s) :=
  (Shifts.grants (.refl s) h .reset []).elsewhere (elsewhere_begin h .reset rfl)

theorem shifts_resetPatches : Shifts s (takeResetPatches h s) := by
  unfold takeResetPatches
  split
  · exact shifts_answer _ _ _
  · refine (walksKeep_shifts s).resetEach _ _ ((List.nodup_finRange 12).filter _) ?_
      (Shift.elsewhere (elsewhere_begin h .reset rfl)).shifts
    intro p named
    rw [List.mem_filter, decide_eq_true_eq] at named
    exact named.2

theorem shifts_of_managing {i : Instr} (row : taking i = some (h, k, take)) (plain : ¬ manages i = false)
    (idle : servedBeside k = false → s.work = none) : Shifts s (take s) := by
  cases i <;> cases row
  case bind => exact shifts_bind _
  case unbind => exact shifts_unbind _
  case revoke => exact shifts_revoke _
  case openPatch => exact shifts_open (idle rfl) _
  case join => exact shifts_join (idle rfl) _ _ _
  case leave => exact shifts_leave _
  case disband => exact shifts_disband _ _ _
  case access => exact shifts_access _ _
  case monitorOn => exact shifts_monitorOn _ _ _
  case monitorOff => exact shifts_monitorOff _ _ _
  case play => exact shifts_play _ _ _ _ _
  case halt => exact shifts_halt
  case resetAll => exact shifts_resetAll
  case resetPatches => exact shifts_resetPatches
  all_goals exact absurd rfl plain

theorem shifts_of_taking {i : Instr} (row : taking i = some (h, k, take))
    (idle : servedBeside k = false → s.work = none) : Shifts s (take s) := by
  by_cases plain : manages i = false
  · exact (actsOnly_of_taking row plain).shifts
  · exact shifts_of_managing row plain idle

/-! ## Every step -/

theorem shifts_replySent : Shifts s (takeReplySent s) := by
  have sent : Elsewhere s { s with link := { s.link with sending := none } } := elsewhere_of rfl rfl rfl (.inl rfl)
  have started (t : State) : Elsewhere t t.startReply :=
    elsewhere_of (startReply_legs t) (startReply_patches t) (startReply_routes t) (.inl (by
      unfold State.startReply State.work
      split <;> rfl))
  unfold takeReplySent
  split
  · exact .refl s
  · have before := (Shift.elsewhere sent).shifts
    dsimp only
    split
    · split
      · exact before.elsewhere (elsewhere_rests rfl)
      · exact (before.elsewhere (elsewhere_rests rfl)).elsewhere (started _)
    · exact before.elsewhere (started _)

theorem shifts_of_happening {i : Instr} {f : State → State} (row : happening i = some f) (own : fromLine i = false)
    (law : PatchLaw s) : Shifts s (f s) := by
  obtain line | ⟨address, rate, rfl⟩ | rfl | ⟨inbound, order, rfl⟩ | ⟨beforeTick, rfl⟩ | fares := fares_of_happening row
  · rw [own] at line; cases line
  · cases row; exact (Shift.resets s address rate s.now).shifts
  · cases row; exact shifts_replySent
  · cases row; exact shifts_frameStart inbound order
  · cases row; exact shifts_frameDone law beforeTick
  · exact (Shift.fares (fares s)).shifts

/-- Where the membership law holds, every command is made of shifts. -/
theorem shifts_of_exec {i : Instr} (law : PatchLaw s) (next : exec i s = .next t) : Shifts s t := by
  refine exec_keeps (P := Shifts s) ?settle ?answer ?receiver ?reset ?taken ?happens (.refl s) next
  case settle =>
    intro u before
    unfold State.settle
    split
    · exact before.tail (.resets u _ _ 0)
    · exact before.trans shifts_takeDueEnd
  case answer => exact fun _ _ _ _ before _ => before.elsewhere (elsewhere_answer _ _ _)
  case receiver => exact fun _ _ before => before.elsewhere (elsewhere_of rfl rfl rfl (.inl rfl))
  case reset => exact fun u address rate stamp before => before.tail (.resets u address rate stamp)
  case taken =>
    intro i h k take row u before admitted
    refine before.trans (shifts_of_taking row fun alone => ?_)
    obtain none | ⟨beside, -⟩ := admitted.1
    · exact work_of_idle none
    · rw [alone] at beside; cases beside
  case happens => exact fun i f row own u before => before.trans (shifts_of_happening row own (law.of_shifts before))

/-- What every shift keeps beside the membership law is kept by every step. -/
theorem kept_of_shifts {P : State → Prop} (queue : ∀ s rest, P s → P { s with pending := rest })
    (shift : ∀ s t, PatchLaw s → Shift s t → P s → P t) (law : PatchLaw s) (holds : P s) (next : step s = .next t) :
    PatchLaw t ∧ P t := by
  refine step_keeps (P := fun s => PatchLaw s ∧ P s) (fun s rest ⟨law, holds⟩ => ⟨?_, queue s rest holds⟩) ?_
    ⟨law, holds⟩ next
  · exact law.of_elsewhere (elsewhere_of rfl rfl rfl (.inl rfl))
  · intro i u v ⟨law, holds⟩ next
    exact (shifts_of_exec law next).keeps (P := fun s => PatchLaw s ∧ P s)
      (fun _ _ shifts ⟨law, holds⟩ => ⟨law.of_shift shifts, shift _ _ law shifts holds⟩) ⟨law, holds⟩

/-- Settles O57: every command is made of shifts, and each keeps the membership law. -/
theorem patchLawIsKept : Obligations.PatchLawIsKept := fun _ _ next law =>
  (kept_of_shifts (P := fun _ => True) (fun _ _ _ => trivial) (fun _ _ _ _ _ => trivial) law trivial next).1

end Sys2Proof.Machine

/-! SUPPORT. The floor law under every shift, and so under every step (R77, R78). -/

namespace Sys2Proof.Machine

variable {s t u : State} {p : PatchId} {l : LegId} {members : List LegId}

theorem FloorOk.more {f : Floor} {more : List LegId} (ok : FloorOk members f) (within : members.Subset more) :
    FloorOk more f where
  owner := ok.owner
  member l owned := within (ok.member l owned)
  waiting := ok.waiting
  apart := ok.apart
  queue := ⟨fun c queued l party => within (ok.queue.member c queued l party), ok.queue.once, ok.queue.ordered⟩

theorem floorOk_blank : FloorOk members {} := floorOk_idle rfl rfl rfl

/-- The floor law where every floor keeps its own. -/
theorem FloorLaw.of_each (law : FloorLaw s) (each : ∀ p, FloorOk (s.patch p).members (s.patch p).floor →
    FloorOk (t.patch p).members (t.patch p).floor) : FloorLaw t :=
  floorLaw_iff.mpr fun p => each p (floorLaw_iff.mp law p)

/-- Floors and member lists as they were. -/
theorem FloorLaw.of_same (law : FloorLaw s) (same : ∀ p, (t.patch p).members = (s.patch p).members ∧
    (t.patch p).floor = (s.patch p).floor) : FloorLaw t :=
  law.of_each fun p ok => by
    rw [(same p).1, (same p).2]
    exact ok

/-- One patch written with a floor that keeps the law. -/
theorem FloorLaw.modPatch (law : FloorLaw s) (p : PatchId) {f : Patch → Patch}
    (ok : FloorOk (s.patch p).members (s.patch p).floor → FloorOk (f (s.patch p)).members (f (s.patch p)).floor) :
    FloorLaw (s.modPatch p f) :=
  law.of_each fun q each => by
    rw [patch_modPatch]
    split
    next same => subst same; exact ok each
    next => exact each

theorem same_of_purge (sel : Selector) (r : Requester) (q : PatchId) :
    ((s.purge sel r).1.patch q).members = (s.patch q).members ∧ ((s.purge sel r).1.patch q).floor = (s.patch q).floor :=
  ⟨members_of_fixed (purge_patch sel r q).1, (purge_patch sel r q).2⟩

theorem FloorLaw.purge (law : FloorLaw s) (sel : Selector) (r : Requester) : FloorLaw (s.purge sel r).1 :=
  law.of_same (same_of_purge sel r)

theorem FloorLaw.reserve (law : FloorLaw s) (kind : EntryKind) (dest : LegId) (gain : Nat) (source : Option Party) :
    FloorLaw (s.reserve p kind dest gain source) :=
  law.of_same fun q => by rw [reserve_patch]; exact ⟨rfl, rfl⟩

/-! ## The removal of a member -/

theorem QueueOk.without {q : List Claim} (ok : QueueOk members q) (l : LegId) (apart : ∀ c ∈ q, c.party ≠ .leg l) :
    QueueOk (members.filter (· != l)) q where
  member c queued m party := by
    refine List.mem_filter.mpr ⟨ok.member c queued m party, bne_iff_ne.mpr ?_⟩
    rintro rfl
    exact apart c queued party
  once := ok.once
  ordered := ok.ordered

/-- The floor of a patch that a leg leaves keeps the law for the members left (R63). -/
theorem FloorLaw.takenOut (law : FloorLaw s) (p : PatchId) (l : LegId) : FloorLaw (s.takenOut p l) := by
  let t := s.modPatch p fun x => { x with members := x.members.filter (· != l) }
  have here : t.patch p = { s.patch p with members := (s.patch p).members.filter (· != l) } := patch_modPatch_same s p _
  have others (q : PatchId) (other : q ≠ p) : t.patch q = s.patch q := patch_modPatch_ne s _ other
  have ok := floorLaw_iff.mp law p
  have left : FloorLaw (t.leaveFloor p l) := by
    unfold State.leaveFloor
    split
    next owned =>
      rw [here] at owned
      have queue : QueueOk (t.patch p).members (t.patch p).floor.queue := by
        rw [here]
        exact ok.queue.without l fun c queued party => ok.apart c queued (party ▸ owned)
      have grantable : Grantable t p := ⟨queue, fun q other => by
        rw [others q other]
        exact floorLaw_iff.mp law q⟩
      exact floorLaw_pass (grantable.modFloor queue)
    next other =>
      rw [here] at other
      refine floorLaw_iff.mpr fun q => ?_
      unfold State.unqueue
      by_cases same : q = p
      · subst same
        rw [patch_modFloor_same, here]
        have fewer := ok.fewer (List.filter_sublist (p := fun c => c.party != Party.leg l))
        refine ⟨fewer.owner, fun m owned => ?_, fewer.waiting, fewer.apart, fewer.queue.without l fun c queued => ?_⟩
        · refine List.mem_filter.mpr ⟨fewer.member m owned, bne_iff_ne.mpr ?_⟩
          rintro rfl
          exact other owned
        · simpa using (List.mem_filter.mp queued).2
      · rw [patch_modFloor_ne _ _ same, others q same]
        exact floorLaw_iff.mp law q
  exact left.of_leaving (calm_setDemand l false).sameMembers (claimsOnlyLeave_setDemand l false)

theorem FloorLaw.removeMember (law : FloorLaw s) (p : PatchId) (l : LegId) (r : Requester) :
    FloorLaw (s.removeMember p l r).1 :=
  ((law.takenOut p l).purge _ _).of_patches (modLeg_patches _ _ _)

/-! ## Teardowns -/

theorem FloorLaw.clearFloor (law : FloorLaw s) (p : PatchId) : FloorLaw (s.clearFloor p) ∧
    ((s.clearFloor p).patch p).floor = {} := by
  have cleared : FloorLaw (s.modFloor p fun _ => {}) := law.of_floor p fun _ => floorOk_blank
  have blank : ((s.modFloor p fun _ => {}).patch p).floor = {} := congrArg Patch.floor (patch_modFloor_same s p _)
  unfold State.clearFloor
  dsimp only
  split
  · exact ⟨cleared, blank⟩
  · exact ⟨cleared.of_patches (offerFloor_patches _ _ _ _), by rw [offerFloor_patch, blank]⟩
  · exact ⟨cleared.of_patches (offerFloor_patches _ _ _ _), by rw [offerFloor_patch, blank]⟩

theorem FloorLaw.vacated (law : FloorLaw s) (p : PatchId) (reason : EndReason) : FloorLaw (s.vacated p reason) := by
  have disbanding : FloorLaw (s.modPatch p fun x => { x with state := .disbanding }) := law.modPatch p id
  have ended := disbanding.of_patches (endInTeardown_patches _ p reason)
  obtain ⟨cleared, blank⟩ := ended.clearFloor p
  have leaves := claimsOnlyLeave_demands (s := (((s.modPatch p fun x => { x with state := .disbanding }).endInTeardown p
    reason).1.clearFloor p)) p fun _ => false
  have silenced : FloorLaw (s.silenced p reason) := cleared.of_leaving (calm_demands p _).sameMembers leaves
  have still : ((s.silenced p reason).patch p).floor = {} := by
    obtain ⟨rest, fewer, floor⟩ := leaves p
    rw [blank] at fewer floor
    rw [State.silenced, floor, List.sublist_nil.mp fewer]
  rw [vacated_eq]
  refine FloorLaw.modPatch (silenced.of_patches ?_) p fun _ => ?_
  · exact releaseAll_keeps _ (fun t => t.patches) (fun _ _ => rfl) _
  · rw [releaseAll_patch, still]
    exact floorOk_blank

theorem FloorLaw.teardown (law : FloorLaw s) (p : PatchId) (reason : EndReason) (r : Requester) :
    FloorLaw (s.teardown p reason r).1 := by
  have untagged : FloorLaw (s.untagged p reason) := (law.vacated p reason).of_same fun q =>
    ⟨members_of_fixed (untagged_patch p reason q).1, (untagged_patch p reason q).2⟩
  rw [teardown_eq]
  exact untagged.purge _ _

theorem FloorLaw.freePatch (law : FloorLaw s) (p : PatchId) : FloorLaw (s.freePatch p) :=
  law.modPatch p fun _ => floorOk_blank

/-! ## Every shift -/

theorem FloorLaw.of_shift (law : FloorLaw s) (patches : PatchLaw s) (shift : Shift s t) : FloorLaw t := by
  cases shift with
  | fares fares => exact fares.floors patches law
  | elsewhere elsewhere => exact law.of_patches elsewhere.patches
  | waits w _ _ => exact law.of_patches (setWork_patches s w)
  | binds l f _ _ => exact law.of_patches (modLeg_patches s l f)
  | opens p a _ _ => exact law.modPatch p fun _ => floorOk_blank
  | grants p access => exact law.modPatch p id
  | admits p l b _ _ _ _ _ _ _ _ =>
    have joined : FloorLaw (s.modPatch p fun x => { x with members := x.members ++ [l] }) :=
      law.modPatch p fun ok => ok.more (List.subset_append_left _ _)
    exact FloorLaw.reserve (joined.of_patches (modLeg_patches _ _ _)) _ _ _ _
  | regains p l gain _ =>
    have gained : FloorLaw (s.modPatch p fun x =>
      { x with monitors := x.monitors.map fun m => if m.1 = l then (l, gain) else m }) := law.modPatch p id
    exact gained.of_patches (mapEntries_patches _ _)
  | monitors p l gain _ _ _ _ _ _ _ =>
    unfold State.addMonitor
    exact (law.reserve _ _ _ _).modPatch p fun ok => ok
  | unmonitors p l => exact FloorLaw.purge (law.modPatch p id) _ _
  | removes p l r _ _ => exact law.removeMember p l r
  | tears p reason r _ _ => exact (law.teardown p reason r).freePatch p
  | disbands p reason r _ _ _ => exact law.teardown p reason r
  | frees p _ _ _ => exact law.freePatch p
  | overlays n p _ => exact law.of_same fun q => by rw [overlaid_patch]; exact ⟨rfl, rfl⟩
  | purges p => exact law.purge _ _
  | begins inbound _ => exact law.of_patches (by simp [beginFrame_eq])
  | frameOver beforeTick =>
    refine law.of_same fun q => ?_
    rw [State.frameOver, State.purgesFreed, freeEntries_patch]
    exact ⟨rfl, rfl⟩
  | resets address rate stamp =>
    refine floorLaw_iff.mpr fun q => ?_
    rw [resetWith, patch_resetBlocks]
    exact floorOk_blank

/-- Settles O58: every command is made of shifts, and each keeps the floor law beside the membership law. -/
theorem floorLawIsKept : Obligations.FloorLawIsKept := fun _ _ next patches law =>
  (kept_of_shifts (P := FloorLaw) (fun _ _ law => law.of_patches rfl) (fun _ _ patches shift law =>
    law.of_shift patches shift) patches law next).2

end Sys2Proof.Machine

/-! SUPPORT. The route law apart: chains and their entries, the purges outstanding, and the entries that feed a leg, under
reservations, purges and frames (R123–R130, R137–R139). -/

namespace Sys2Proof.Machine

variable {s t u : State} {p : PatchId} {l : LegId}

/-! ## The parts of the route law -/

/-- Chains hold the entries tagged with their patch that are not FREE (R123), FREE entries are blank (R121), and ACTIVE ones
have a source that is not their destination (R130). -/
structure Chained (s : State) : Prop where
  tagged : ∀ p e, e ∈ (s.patch p).chain → (s.entry e).tag = some p ∧ (s.entry e).state ≠ .free
  nodup : ∀ p, (s.patch p).chain.Nodup
  placed : ∀ p e, (s.entry e).state ≠ .free → (s.entry e).tag = some p → e ∈ (s.patch p).chain
  blank : ∀ e, (s.entry e).state = .free → s.entry e = {}
  sourced : ∀ e, (s.entry e).state = .active →
    (s.entry e).source.isSome = true ∧ (s.entry e).source ≠ (s.entry e).dest.map Party.leg

/-- The PURGING entries are those that the purges outstanding took, in a frame (R137, R138). -/
structure PurgesTook (s : State) : Prop where
  purging : ∀ e, (s.entry e).state = .purging →
    s.routes.frame.isSome = true ∧ ∃ r ∈ s.routes.purges, e ∈ r.entries
  outstanding : ∀ r ∈ s.routes.purges, ∀ e ∈ r.entries, (s.entry e).state = .purging

/-- Only ACTIVE patches have RESERVED or ACTIVE entries, and a FREE one has none at all (R52). -/
structure Homes (s : State) : Prop where
  active : ∀ p e, (s.entry e).live = true → (s.entry e).tag = some p → (s.patch p).state = .active
  free : ∀ p, (s.patch p).state = .free → (s.patch p).chain = []

/-- One MEMBER entry for each member and one MONITOR entry for each monitoring console, and no other (R126). -/
def Feeds (s : State) : Prop := ∀ p l,
  (s.feeding p .member l).length = (if l ∈ (s.patch p).members then 1 else 0) ∧
    (s.feeding p .monitor l).length = if (s.patch p).monitors.any fun m => m.1 = l then 1 else 0

theorem live_iff {x : Entry} : x.live = true ↔ x.state ≠ .free ∧ x.state ≠ .purging := by
  unfold Entry.live
  cases x.state <;> simp

theorem RouteLaw.chained (law : RouteLaw s) : Chained s := ⟨law.tagged, law.nodup, law.placed, law.blank, law.sourced⟩

theorem RouteLaw.purgesTook (law : RouteLaw s) : PurgesTook s := ⟨law.purging, law.outstanding⟩

theorem RouteLaw.homes (law : RouteLaw s) : Homes s := ⟨fun p e live tag => (law.linked p e live tag).2, law.free⟩

theorem RouteLaw.of_parts (patches : PatchLaw s) (chained : Chained s) (took : PurgesTook s) (homes : Homes s)
    (feeds : Feeds s) : RouteLaw s where
  tagged := chained.tagged
  nodup := chained.nodup
  linked p e live tag := ⟨chained.placed p e (live_iff.mp live).1 tag, homes.active p e live tag⟩
  placed := chained.placed
  free := homes.free
  blank := chained.blank
  feeds := feeds
  purging := took.purging
  outstanding := took.outstanding
  sourced := chained.sourced
  resetting := patches.resetting
  disbanding := patches.disbanding

/-! ## Entries as they were but for their pending sources and gains -/

/-- What of an entry the route law looks at: all but the pending source and the gain. -/
def Entry.core (x : Entry) : Entry := { x with pendingSource := none, gain := 0 }

/-- Chains as they were, and entries but for pending sources and gains of live ones. -/
structure SameRoutes (s t : State) : Prop where
  chains : ∀ p, (t.patch p).chain = (s.patch p).chain
  entries : ∀ e, (t.entry e).core = (s.entry e).core
  idle : ∀ e, (s.entry e).live = false → t.entry e = s.entry e
  frame : t.routes.frame = s.routes.frame
  purges : t.routes.purges = s.routes.purges

theorem SameRoutes.of_routes (routes : t.routes = s.routes) (chains : ∀ p, (t.patch p).chain = (s.patch p).chain) :
    SameRoutes s t := by
  have entry (e : EntryId) : t.entry e = s.entry e := congrArg (fun r : Routes => r.entries.get e) routes
  exact ⟨chains, fun e => by rw [entry], fun e _ => entry e, by rw [routes], by rw [routes]⟩

theorem SameRoutes.trans (first : SameRoutes s t) (second : SameRoutes t u) : SameRoutes s u where
  chains p := (second.chains p).trans (first.chains p)
  entries e := (second.entries e).trans (first.entries e)
  idle e idle := (second.idle e (first.idle e idle ▸ idle)).trans (first.idle e idle)
  frame := second.frame.trans first.frame
  purges := second.purges.trans first.purges

theorem ArbiterKeeps.sameRoutes (keeps : ArbiterKeeps s t) : SameRoutes s t where
  chains p := (keeps.patches p).2
  entries e := show (t.entry e).fixed.core = (s.entry e).fixed.core by rw [keeps.entries]
  idle := keeps.idle
  frame := keeps.frame.1
  purges := keeps.frame.2

theorem Acts.sameRoutes (acts : Acts s t) : SameRoutes s t :=
  acts.keeps (P := SameRoutes s) (fun _ _ written before => before.trans (.of_routes written.routes fun p => by
    rw [patch_of_patches written.patches])) (fun _ _ work before => before.trans work.kept.sameRoutes)
    (.of_routes rfl fun _ => rfl)

section Same

variable (same : SameRoutes s t)
include same

theorem SameRoutes.state (e : EntryId) : (t.entry e).state = (s.entry e).state :=
  show (t.entry e).core.state = (s.entry e).core.state by rw [same.entries]

theorem SameRoutes.tag (e : EntryId) : (t.entry e).tag = (s.entry e).tag :=
  show (t.entry e).core.tag = (s.entry e).core.tag by rw [same.entries]

theorem SameRoutes.kind (e : EntryId) : (t.entry e).kind = (s.entry e).kind :=
  show (t.entry e).core.kind = (s.entry e).core.kind by rw [same.entries]

theorem SameRoutes.dest (e : EntryId) : (t.entry e).dest = (s.entry e).dest :=
  show (t.entry e).core.dest = (s.entry e).core.dest by rw [same.entries]

theorem SameRoutes.source (e : EntryId) : (t.entry e).source = (s.entry e).source :=
  show (t.entry e).core.source = (s.entry e).core.source by rw [same.entries]

theorem SameRoutes.live (e : EntryId) : (t.entry e).live = (s.entry e).live := by
  unfold Entry.live
  rw [same.state]

theorem Chained.of_same (chained : Chained s) : Chained t where
  tagged p e := by rw [same.chains, same.tag, same.state]; exact chained.tagged p e
  nodup p := by rw [same.chains]; exact chained.nodup p
  placed p e := by rw [same.chains, same.tag, same.state]; exact chained.placed p e
  blank e free := by
    rw [same.state] at free
    rw [same.idle e (by simp [Entry.live, free])]
    exact chained.blank e free
  sourced e := by rw [same.state, same.source, same.dest]; exact chained.sourced e

theorem PurgesTook.of_same (took : PurgesTook s) : PurgesTook t where
  purging e := by rw [same.state, same.frame, same.purges]; exact took.purging e
  outstanding r := by
    rw [same.purges]
    exact fun outstanding e taken => (same.state e).trans (took.outstanding r outstanding e taken)

theorem SameRoutes.feeding (p : PatchId) (kind : EntryKind) (l : LegId) : t.feeding p kind l = s.feeding p kind l := by
  unfold State.feeding
  refine List.filter_congr fun e _ => ?_
  rw [same.live, same.tag, same.kind, same.dest]

theorem Homes.of_same (homes : Homes s) (state : ∀ p, (t.patch p).state = (s.patch p).state) : Homes t where
  active p e := by rw [same.live, same.tag, state]; exact homes.active p e
  free p := by rw [state, same.chains]; exact homes.free p

theorem Feeds.of_same (feeds : Feeds s) (members : ∀ p, (t.patch p).members = (s.patch p).members)
    (monitors : ∀ p l, ((t.patch p).monitors.any fun m => decide (m.1 = l)) =
      (s.patch p).monitors.any fun m => decide (m.1 = l)) : Feeds t := fun p l => by
  rw [same.feeding, same.feeding, members, monitors]
  exact feeds p l

end Same

theorem RouteLaw.of_same (law : RouteLaw s) (patches : PatchLaw t) (same : SameRoutes s t)
    (state : ∀ p, (t.patch p).state = (s.patch p).state) (members : ∀ p, (t.patch p).members = (s.patch p).members)
    (monitors : ∀ p l, ((t.patch p).monitors.any fun m => decide (m.1 = l)) =
      (s.patch p).monitors.any fun m => decide (m.1 = l)) : RouteLaw t :=
  .of_parts patches (law.chained.of_same same) (law.purgesTook.of_same same) (law.homes.of_same same state)
    (Feeds.of_same same law.feeds members monitors)

/-! ## Entries freed -/

theorem entry_freeEntries (taken : List EntryId) (e : EntryId) :
    (s.freeEntries taken).entry e = if e ∈ taken then {} else s.entry e := by
  rw [State.freeEntries, mapPatches_entry, entry_mapEntries]
  simp

theorem Chained.freeEntries (chained : Chained s) (taken : List EntryId) : Chained (s.freeEntries taken) where
  tagged p e listed := by
    rw [freeEntries_patch] at listed
    obtain ⟨before, kept⟩ := List.mem_filter.mp listed
    rw [entry_freeEntries, if_neg (by simpa using kept)]
    exact chained.tagged p e before
  nodup p := by rw [freeEntries_patch]; exact (chained.nodup p).filter _
  placed p e used tag := by
    rw [entry_freeEntries] at used tag
    by_cases freed : e ∈ taken
    · rw [if_pos freed] at used
      exact absurd rfl used
    · rw [if_neg freed] at used tag
      rw [freeEntries_patch]
      exact List.mem_filter.mpr ⟨chained.placed p e used tag, by simpa using freed⟩
  blank e free := by
    rw [entry_freeEntries] at free ⊢
    split at free
    next freed => rw [if_pos freed]
    next kept => rw [if_neg kept]; exact chained.blank e free
  sourced e active := by
    rw [entry_freeEntries] at active ⊢
    split at active
    · cases active
    next kept => rw [if_neg kept]; exact chained.sourced e active

/-! ## Purges -/

theorem mem_purged (sel : Selector) (e : EntryId) :
    e ∈ s.purged sel ↔ (s.entry e).live = true ∧ sel.selects (s.entry e) = true := by
  unfold State.purged
  rw [List.mem_filter, Bool.and_eq_true]
  exact ⟨And.right, fun taken => ⟨List.mem_finRange e, taken⟩⟩

theorem purge_done (sel : Selector) (r : Requester) (done : (s.purge sel r).2 = true) :
    (s.purge sel r).1 = s.freeEntries (s.purged sel) ∧
      (s.routes.frame = none ∨ s.purged sel = [] ∧ s.joinsPurge sel = false) := by
  unfold State.purge at done ⊢
  dsimp only at done ⊢
  split at done
  next complete =>
    rw [if_pos complete]
    refine ⟨rfl, ?_⟩
    simpa using complete
  · cases done

/-- Entries marked as taken by a purge that waits. -/
def State.marked (s : State) (taken : List EntryId) : State :=
  s.mapEntries fun e x => if taken.contains e then { x with state := .purging } else x

/-- A purge at the end of those outstanding. -/
def State.asked (s : State) (purge : Purge) : State :=
  { s with routes := { s.routes with purges := s.routes.purges ++ [purge] } }

@[simp] theorem asked_entry (purge : Purge) (e : EntryId) : (s.asked purge).entry e = s.entry e := rfl

@[simp] theorem asked_patch (purge : Purge) (p : PatchId) : (s.asked purge).patch p = s.patch p := rfl

@[simp] theorem asked_frame (purge : Purge) : (s.asked purge).routes.frame = s.routes.frame := rfl

theorem marked_entry (taken : List EntryId) (e : EntryId) :
    (s.marked taken).entry e = if e ∈ taken then { s.entry e with state := .purging } else s.entry e := by
  rw [State.marked, entry_mapEntries]
  simp

theorem marked_frame (taken : List EntryId) : (s.marked taken).routes.frame = s.routes.frame := by
  unfold State.marked State.mapEntries
  rfl

theorem purge_waits (sel : Selector) (r : Requester) (waits : (s.purge sel r).2 = false) :
    (s.purge sel r).1 = (s.marked (s.purged sel)).asked ⟨r, s.purged sel⟩ ∧ s.routes.frame.isSome = true := by
  unfold State.purge at waits ⊢
  dsimp only at waits ⊢
  split at waits
  · cases waits
  next asks =>
    rw [if_neg asks]
    refine ⟨rfl, ?_⟩
    rw [Bool.or_eq_true, not_or] at asks
    simpa [Option.isSome_iff_ne_none] using asks.1

/-- What a purge makes of an entry: one it takes is FREE or PURGING, and no other changes. -/
theorem purge_entry (sel : Selector) (r : Requester) (e : EntryId) : (s.purge sel r).1.entry e =
    if e ∈ s.purged sel then (if (s.purge sel r).2 then {} else { s.entry e with state := .purging }) else s.entry e := by
  cases done : (s.purge sel r).2 with
  | true => rw [(purge_done sel r done).1, entry_freeEntries]; rfl
  | false => rw [(purge_waits sel r done).1, asked_entry, marked_entry]; rfl

theorem purge_frame (sel : Selector) (r : Requester) : (s.purge sel r).1.routes.frame = s.routes.frame := by
  cases done : (s.purge sel r).2 with
  | true => rw [(purge_done sel r done).1, (freeEntries_frame _).1]
  | false => rw [(purge_waits sel r done).1, asked_frame, marked_frame]

theorem purge_live (sel : Selector) (r : Requester) (e : EntryId) : ((s.purge sel r).1.entry e).live = true ↔
    (s.entry e).live = true ∧ sel.selects (s.entry e) = false := by
  rw [purge_entry]
  split
  next taken =>
    have selected := ((mem_purged sel e).mp taken).2
    split <;> simp [Entry.live, selected]
  next kept =>
    rw [mem_purged] at kept
    refine ⟨fun live => ⟨live, ?_⟩, And.left⟩
    simpa [live] using kept

theorem purge_entry_of_live (sel : Selector) (r : Requester) (e : EntryId) (live : ((s.purge sel r).1.entry e).live = true) :
    (s.purge sel r).1.entry e = s.entry e := by
  rw [purge_live] at live
  rw [purge_entry, if_neg]
  rw [mem_purged, live.2]
  exact fun taken => Bool.noConfusion taken.2

theorem Chained.purge (chained : Chained s) (sel : Selector) (r : Requester) : Chained (s.purge sel r).1 := by
  cases done : (s.purge sel r).2 with
  | true =>
    rw [(purge_done sel r done).1]
    exact chained.freeEntries _
  | false =>
    have entry (e : EntryId) : (s.purge sel r).1.entry e =
        if e ∈ s.purged sel then { s.entry e with state := .purging } else s.entry e := by
      rw [(purge_waits sel r done).1, asked_entry, marked_entry]
    have chain (p : PatchId) : ((s.purge sel r).1.patch p).chain = (s.patch p).chain := by
      rw [(purge_waits sel r done).1, asked_patch, State.marked, mapEntries_patch]
    have used {e : EntryId} (taken : e ∈ s.purged sel) : (s.entry e).state ≠ .free :=
      (live_iff.mp ((mem_purged sel e).mp taken).1).1
    constructor
    case tagged =>
      intro p e listed
      rw [chain] at listed
      rw [entry]
      obtain ⟨tag, state⟩ := chained.tagged p e listed
      split
      · exact ⟨tag, nofun⟩
      · exact ⟨tag, state⟩
    case nodup => intro p; rw [chain]; exact chained.nodup p
    case placed =>
      intro p e state tag
      rw [chain]
      rw [entry] at state tag
      split at tag
      next taken => exact chained.placed p e (used taken) tag
      next kept => rw [if_neg kept] at state; exact chained.placed p e state tag
    case blank =>
      intro e free
      rw [entry] at free ⊢
      split at free
      · cases free
      next kept => rw [if_neg kept]; exact chained.blank e free
    case sourced =>
      intro e active
      rw [entry] at active ⊢
      split at active
      · cases active
      next kept => rw [if_neg kept]; exact chained.sourced e active

theorem PurgesTook.purge (took : PurgesTook s) (sel : Selector) (r : Requester) : PurgesTook (s.purge sel r).1 := by
  have kept {e : EntryId} (state : (s.entry e).state = .purging) : e ∉ s.purged sel := fun taken =>
    (live_iff.mp ((mem_purged sel e).mp taken).1).2 state
  have still {e : EntryId} (state : (s.entry e).state = .purging) : ((s.purge sel r).1.entry e).state = .purging := by
    rw [purge_entry, if_neg (kept state), state]
  constructor
  case purging =>
    intro e state
    rw [purge_frame]
    by_cases taken : e ∈ s.purged sel
    · cases done : (s.purge sel r).2 with
      | true =>
        rw [purge_entry, if_pos taken, done] at state
        cases state
      | false =>
        refine ⟨(purge_waits sel r done).2, ⟨r, s.purged sel⟩, ?_, taken⟩
        rw [purge_waiting s sel r done]
        exact List.mem_append_right _ (List.mem_singleton_self _)
    · rw [purge_entry, if_neg taken] at state
      obtain ⟨frame, x, outstanding, listed⟩ := took.purging e state
      refine ⟨frame, x, ?_, listed⟩
      obtain same | ⟨-, added⟩ := purge_purges (s := s) sel r
      · rw [same]; exact outstanding
      · rw [added]; exact List.mem_append_left _ outstanding
  case outstanding =>
    intro x outstanding e listed
    obtain same | ⟨waits, added⟩ := purge_purges (s := s) sel r
    · rw [same] at outstanding
      exact still (took.outstanding x outstanding e listed)
    · rw [added, List.mem_append, List.mem_singleton] at outstanding
      obtain before | rfl := outstanding
      · exact still (took.outstanding x before e listed)
      · rw [purge_entry, if_pos listed, waits]
        rfl

end Sys2Proof.Machine

/-! SUPPORT. The entries that feed a leg under purges and reservations, and the route law of removals and teardowns
(R62, R67, R125, R126, R137). -/

namespace Sys2Proof.Machine

variable {s t u : State} {p : PatchId} {l : LegId} {kind : EntryKind} {dest : LegId} {gain : Nat} {source : Option Party}

/-! ## Feeding entries -/

theorem mem_feeding (e : EntryId) : e ∈ s.feeding p kind l ↔ (s.entry e).live = true ∧ (s.entry e).tag = some p ∧
    (s.entry e).kind = some kind ∧ (s.entry e).dest = some l := by
  unfold State.feeding
  simp [and_assoc]

theorem nodup_feeding : (s.feeding p kind l).Nodup := (List.nodup_finRange 40).filter _

/-- A purge takes the feeding entries that it selects. -/
theorem mem_feeding_purge (sel : Selector) (r : Requester) (e : EntryId) : e ∈ (s.purge sel r).1.feeding p kind l ↔
    e ∈ s.feeding p kind l ∧ sel.selects (s.entry e) = false := by
  rw [mem_feeding, mem_feeding]
  constructor
  · rintro ⟨live, rest⟩
    have same := purge_entry_of_live sel r e live
    rw [purge_live] at live
    rw [same] at rest
    exact ⟨⟨live.1, rest⟩, live.2⟩
  · rintro ⟨⟨live, rest⟩, kept⟩
    have still := (purge_live sel r e).mpr ⟨live, kept⟩
    rw [purge_entry_of_live sel r e still]
    exact ⟨live, rest⟩

/-- A selector by the patch, kind and destination of what it is asked about. -/
def Selector.reaches (p : PatchId) (kind : EntryKind) (l : LegId) : Selector → Bool
  | .tag q => p = q
  | .dest q m => p = q && l = m && (kind = .member || kind = .overlay)
  | .monitor q m => p = q && l = m && kind = .monitor
  | .overlays q => p = q && kind = .overlay

theorem selects_of_feeding {e : EntryId} (fed : e ∈ s.feeding p kind l) (sel : Selector) :
    sel.selects (s.entry e) = sel.reaches p kind l := by
  obtain ⟨-, tag, named, dest⟩ := (mem_feeding e).mp fed
  cases sel <;> simp [Selector.selects, Selector.reaches, tag, named, dest]

/-- The count of feeding entries that a purge leaves. -/
theorem length_feeding_purge (sel : Selector) (r : Requester) : ((s.purge sel r).1.feeding p kind l).length =
    if sel.reaches p kind l then 0 else (s.feeding p kind l).length := by
  split
  next reached =>
    rw [List.length_eq_zero_iff]
    refine List.eq_nil_iff_forall_not_mem.mpr fun e listed => ?_
    obtain ⟨fed, kept⟩ := (mem_feeding_purge sel r e).mp listed
    rw [selects_of_feeding fed, reached] at kept
    cases kept
  next spared =>
    refine List.Perm.length_eq ((List.perm_ext_iff_of_nodup nodup_feeding nodup_feeding).mpr fun e => ?_)
    rw [mem_feeding_purge]
    refine ⟨And.left, fun fed => ⟨fed, ?_⟩⟩
    rw [selects_of_feeding fed]
    simpa using spared

/-! ## Reservations -/

theorem lowestFree_state {e : EntryId} (free : s.lowestFree = some e) : (s.entry e).state = .free := by
  simpa using List.find?_some free

/-- The entry a reservation fills (R125). -/
def reservedEntry (p : PatchId) (kind : EntryKind) (dest : LegId) (gain : Nat) (source : Option Party) : Entry :=
  { state := .reserved, tag := some p, kind := some kind, dest := some dest, pendingSource := source, gain }

theorem reserve_entry {e : EntryId} (free : s.lowestFree = some e) (d : EntryId) :
    (s.reserve p kind dest gain source).entry d =
      if d = e then reservedEntry p kind dest gain source else s.entry d := by
  rw [reserve_eq free, modPatch_entry]
  split
  next same => rw [same]; exact entry_modEntry_same s e _
  next other => exact entry_modEntry_ne s _ other

theorem reserve_chain {e : EntryId} (free : s.lowestFree = some e) (q : PatchId) :
    ((s.reserve p kind dest gain source).patch q).chain =
      if q = p then (s.patch p).chain ++ [e] else (s.patch q).chain := by
  rw [reserve_eq free, patch_modPatch, modEntry_patch, modEntry_patch]
  split <;> rfl

theorem reserve_full (full : s.lowestFree = none) : s.reserve p kind dest gain source = s := by
  rw [State.reserve, full]

theorem reserve_frame : (s.reserve p kind dest gain source).routes.frame = s.routes.frame := by
  unfold State.reserve
  split <;> rfl

theorem reserve_state (q : PatchId) : ((s.reserve p kind dest gain source).patch q).state = (s.patch q).state := by
  rw [reserve_patch]

theorem Chained.reserve (chained : Chained s) : Chained (s.reserve p kind dest gain source) := by
  cases free : s.lowestFree with
  | none => rw [reserve_full free]; exact chained
  | some e =>
    have state := lowestFree_state free
    have fresh (q : PatchId) : e ∉ (s.patch q).chain := fun listed => (chained.tagged q e listed).2 state
    constructor
    case tagged =>
      intro q d listed
      rw [reserve_entry free]
      rw [reserve_chain free] at listed
      by_cases here : d = e
      · subst here
        by_cases same : q = p
        · subst same
          rw [if_pos rfl]
          exact ⟨rfl, nofun⟩
        · rw [if_neg same] at listed
          exact absurd listed (fresh q)
      · rw [if_neg here]
        split at listed
        next same =>
          rw [same]
          exact chained.tagged p d (by simpa [here] using listed)
        next => exact chained.tagged q d listed
    case nodup =>
      intro q
      rw [reserve_chain free]
      split
      · refine List.nodup_append.mpr ⟨chained.nodup p, by simp, fun d listed c new => ?_⟩
        rintro rfl
        exact fresh p (List.mem_singleton.mp new ▸ listed)
      · exact chained.nodup q
    case placed =>
      intro q d used tag
      rw [reserve_entry free] at used tag
      rw [reserve_chain free]
      by_cases here : d = e
      · rw [if_pos here] at tag
        cases tag
        rw [if_pos rfl, here]
        exact List.mem_append_right _ (List.mem_singleton_self _)
      · rw [if_neg here] at used tag
        have listed := chained.placed q d used tag
        split
        next same => exact List.mem_append_left _ (same ▸ listed)
        next => exact listed
    case blank =>
      intro d blank
      rw [reserve_entry free] at blank ⊢
      split at blank
      · cases blank
      next other => rw [if_neg other]; exact chained.blank d blank
    case sourced =>
      intro d active
      rw [reserve_entry free] at active ⊢
      split at active
      · cases active
      next other => rw [if_neg other]; exact chained.sourced d active

theorem PurgesTook.reserve (took : PurgesTook s) : PurgesTook (s.reserve p kind dest gain source) := by
  cases free : s.lowestFree with
  | none => rw [reserve_full free]; exact took
  | some e =>
    constructor
    case purging =>
      intro d purging
      rw [reserve_frame, reserve_purges]
      rw [reserve_entry free] at purging
      split at purging
      · cases purging
      · exact took.purging d purging
    case outstanding =>
      intro r outstanding d taken
      rw [reserve_purges] at outstanding
      have purging := took.outstanding r outstanding d taken
      rw [reserve_entry free, if_neg]
      · exact purging
      · rintro rfl
        cases purging.symm.trans (lowestFree_state free)

theorem Homes.reserve (homes : Homes s) (active : (s.patch p).state = .active) :
    Homes (s.reserve p kind dest gain source) := by
  cases free : s.lowestFree with
  | none => rw [reserve_full free]; exact homes
  | some e =>
    constructor
    case active =>
      intro q d live tag
      rw [reserve_state]
      rw [reserve_entry free] at live tag
      split at tag
      · cases tag; exact active
      next other => rw [if_neg other] at live; exact homes.active q d live tag
    case free =>
      intro q blank
      rw [reserve_state] at blank
      rw [reserve_chain free, if_neg]
      · exact homes.free q blank
      · rintro rfl
        cases active.symm.trans blank

/-- A reservation adds the entry it fills to those that feed its destination, and no other. -/
theorem feeding_reserve {e : EntryId} (free : s.lowestFree = some e) (q : PatchId) (k : EntryKind) (m : LegId) :
    ((s.reserve p kind dest gain source).feeding q k m).length =
      (s.feeding q k m).length + if q = p ∧ k = kind ∧ m = dest then 1 else 0 := by
  have unused : e ∉ s.feeding q k m := fun fed => by
    rw [mem_feeding, Entry.live, lowestFree_state free] at fed
    simp at fed
  have others {d : EntryId} (other : d ≠ e) :
      d ∈ (s.reserve p kind dest gain source).feeding q k m ↔ d ∈ s.feeding q k m := by
    rw [mem_feeding, mem_feeding, reserve_entry free, if_neg other]
  have filled : e ∈ (s.reserve p kind dest gain source).feeding q k m ↔ q = p ∧ k = kind ∧ m = dest := by
    rw [mem_feeding, reserve_entry free, if_pos rfl]
    simp [reservedEntry, Entry.live, eq_comm]
  by_cases same : q = p ∧ k = kind ∧ m = dest
  · rw [if_pos same, ← List.length_cons (a := e)]
    refine List.Perm.length_eq ((List.perm_ext_iff_of_nodup nodup_feeding
      (List.nodup_cons.mpr ⟨unused, nodup_feeding⟩)).mpr fun d => ?_)
    by_cases here : d = e
    · subst here; simp [filled.mpr same]
    · simp [others here, here]
  · rw [if_neg same, Nat.add_zero]
    refine List.Perm.length_eq ((List.perm_ext_iff_of_nodup nodup_feeding nodup_feeding).mpr fun d => ?_)
    by_cases here : d = e
    · subst here; exact ⟨fun fed => absurd (filled.mp fed) same, fun fed => absurd fed unused⟩
    · exact others here

/-! ## The removal of a member -/

theorem takenOut_patch (q : PatchId) : ((s.takenOut p l).patch q).chain = (s.patch q).chain := by
  rw [((arbitrates_takenOut p l).kept.patches q).2, patch_modPatch]
  split
  next same => rw [same]
  next => rfl

theorem sameRoutes_takenOut : SameRoutes s (s.takenOut p l) :=
  (SameRoutes.of_routes (modPatch_routes s p _) fun q => by
    rw [patch_modPatch]
    split
    next same => rw [same]
    next => rfl).trans (arbitrates_takenOut p l).kept.sameRoutes

theorem Homes.purge (homes : Homes s) (sel : Selector) (r : Requester) : Homes (s.purge sel r).1 where
  active q e live tag := by
    rw [state_of_fixed (purge_patch sel r q).1]
    rw [purge_entry_of_live sel r e live] at tag
    exact homes.active q e ((purge_live sel r e).mp live).1 tag
  free q free := by
    rw [state_of_fixed (purge_patch sel r q).1] at free
    have empty := homes.free q free
    cases done : (s.purge sel r).2 with
    | true => rw [(purge_done sel r done).1, freeEntries_patch, empty]; rfl
    | false => rw [(purge_waits sel r done).1, asked_patch, State.marked, mapEntries_patch, empty]

theorem Homes.modPatch (homes : Homes s) (p : PatchId) {f : Patch → Patch}
    (keeps : (f (s.patch p)).state = (s.patch p).state ∧ (f (s.patch p)).chain = (s.patch p).chain) :
    Homes (s.modPatch p f) where
  active q e live tag := by
    have active := homes.active q e live tag
    rw [patch_modPatch]
    split
    next same => rw [keeps.1, ← same]; exact active
    next => exact active
  free q := by
    rw [patch_modPatch]
    split
    next same => rw [keeps.1, keeps.2, ← same]; exact homes.free q
    next => exact homes.free q

theorem SameRoutes.modLeg (f : Leg → Leg) : SameRoutes s (s.modLeg l f) := .of_routes (modLeg_routes s l f) fun _ => rfl

theorem removeMember_members (r : Requester) (q : PatchId) : ((s.removeMember p l r).1.patch q).members =
    if q = p then (s.patch p).members.filter (· != l) else (s.patch q).members := by
  have fixed := removeMember_patch_fixed (s := s) (p := p) (l := l) r q
  split at fixed
  next same =>
    rw [if_pos same, members_of_fixed fixed]
  next other =>
    rw [if_neg other, members_of_fixed fixed]

theorem removeMember_monitors (r : Requester) (q : PatchId) :
    ((s.removeMember p l r).1.patch q).monitors = (s.patch q).monitors ∧
      ((s.removeMember p l r).1.patch q).state = (s.patch q).state := by
  have fixed := removeMember_patch_fixed (s := s) (p := p) (l := l) r q
  split at fixed
  next same =>
    subst same
    have monitors := monitors_of_fixed fixed
    have state := state_of_fixed fixed
    exact ⟨monitors, state⟩
  next => exact ⟨monitors_of_fixed fixed, state_of_fixed fixed⟩

theorem RouteLaw.removeMember (law : RouteLaw s) {r : Requester} (patches : PatchLaw (s.removeMember p l r).1) :
    RouteLaw (s.removeMember p l r).1 := by
  have out := sameRoutes_takenOut (s := s) (p := p) (l := l)
  have released : SameRoutes ((s.takenOut p l).purge (.dest p l) r).1 (s.removeMember p l r).1 := .modLeg _
  have state (q : PatchId) : ((s.takenOut p l).patch q).state = (s.patch q).state := by
    rw [state_of_fixed ((arbitrates_takenOut p l).kept.patches q).1, patch_modPatch]
    split
    next same => rw [same]
    next => rfl
  refine .of_parts patches (((law.chained.of_same out).purge _ _).of_same released)
    (((law.purgesTook.of_same out).purge _ _).of_same released)
    (((law.homes.of_same out state).purge _ _).of_same released fun _ => rfl) fun q m => ?_
  obtain ⟨members, monitors⟩ := law.feeds q m
  rw [removeMember_members, (removeMember_monitors r q).1, released.feeding, released.feeding, length_feeding_purge,
    length_feeding_purge, out.feeding, out.feeding, members, monitors]
  refine ⟨?_, by simp [Selector.reaches]⟩
  by_cases here : q = p
  · subst here
    by_cases gone : m = l <;> simp [Selector.reaches, gone]
  · simp [Selector.reaches, here]

end Sys2Proof.Machine

/-! SUPPORT. The route law under every shift, and so under every step (R121, R123, R126, R130, R137, R138). -/

namespace Sys2Proof.Machine

variable {s t u : State} {p : PatchId} {l : LegId}

/-! ## Patches written -/

/-- A patch with no entry in its chain and no member or monitor, written with none. -/
theorem RouteLaw.rewritten (law : RouteLaw s) (patches : PatchLaw s) {x : Patch} (inactive : (s.patch p).state ≠ .active)
    (empty : (s.patch p).chain = []) (blank : x.chain = [] ∧ x.members = [] ∧ x.monitors = [])
    (after : PatchLaw (s.modPatch p fun _ => x)) : RouteLaw (s.modPatch p fun _ => x) := by
  obtain ⟨chain, members, monitors⟩ := blank
  obtain ⟨noMember, noMonitor⟩ := patches.lists_empty inactive
  have patch (q : PatchId) : (s.modPatch p fun _ => x).patch q = if q = p then x else s.patch q := patch_modPatch _ _ _
  have same : SameRoutes s (s.modPatch p fun _ => x) := .of_routes (modPatch_routes s p _) fun q => by
    rw [patch]
    split
    next here => rw [here, empty, chain]
    next => rfl
  refine .of_parts after (law.chained.of_same same) (law.purgesTook.of_same same) ⟨fun q e live tag => ?_, fun q free => ?_⟩
    (Feeds.of_same same law.feeds (fun q => ?_) fun q m => ?_)
  · have active := law.homes.active q e live tag
    rw [patch, if_neg]
    · exact active
    · rintro rfl
      exact inactive active
  · rw [patch] at free ⊢
    split at free
    next here => rw [if_pos here, chain]
    next other => rw [if_neg other]; exact law.free q free
  · rw [patch]
    split
    next here => rw [here, members, noMember]
    next => rfl
  · rw [patch]
    split
    next here => rw [here, monitors, noMonitor]
    next => rfl

/-! ## Teardowns -/

theorem purge_chain (sel : Selector) (r : Requester) (q : PatchId) :
    ((s.purge sel r).1.patch q).chain.Sublist (s.patch q).chain := by
  cases done : (s.purge sel r).2 with
  | true => rw [(purge_done sel r done).1, freeEntries_patch]; exact List.filter_sublist
  | false => rw [(purge_waits sel r done).1, asked_patch, State.marked, mapEntries_patch]

theorem sameRoutes_vacated (reason : EndReason) : SameRoutes s (s.vacated p reason) := by
  refine .of_routes (vacated_purges reason) fun q => ?_
  have silenced : ((s.silenced p reason).patch q).chain = (s.patch q).chain := by
    rw [State.silenced, ((calm_demands p _).patches q).2, ((calm_clearFloor p).patches q).2,
      patch_of_patches (endInTeardown_patches _ _ _), patch_modPatch]
    split
    next here => rw [here]
    next => rfl
  rw [vacated_eq, patch_modPatch, releaseAll_patch, releaseAll_patch, ← silenced]
  split
  next here => rw [here]
  next => rfl

/-- What the purges of a teardown keep is kept by the state before its last purge. -/
theorem untagged_keeps {P : State → Prop} (reason : EndReason) (vacated : P (s.vacated p reason))
    (purge : ∀ s, P s → P (s.purge (.overlays p) .overlayEnd).1)
    (same : ∀ s t, t.routes = s.routes → t.patches = s.patches → P s → P t) : P (s.untagged p reason) := by
  unfold State.untagged State.purgeOverlays
  dsimp only
  split
  · split
    · exact same _ _ (overlayEnded_routes _) (overlayEnded_patches _) (purge _ vacated)
    · exact purge _ vacated
  · exact vacated

theorem SameRoutes.of_tables (routes : t.routes = s.routes) (patches : t.patches = s.patches) : SameRoutes s t :=
  .of_routes routes fun q => by rw [patch_of_patches patches]

theorem Chained.untagged (chained : Chained s) (reason : EndReason) : Chained (s.untagged p reason) :=
  untagged_keeps (P := Chained) reason (chained.of_same (sameRoutes_vacated reason)) (fun _ chained => chained.purge _ _)
    fun _ _ routes patches chained => chained.of_same (.of_tables routes patches)

theorem PurgesTook.untagged (took : PurgesTook s) (reason : EndReason) : PurgesTook (s.untagged p reason) :=
  untagged_keeps (P := PurgesTook) reason (took.of_same (sameRoutes_vacated reason)) (fun _ took => took.purge _ _)
    fun _ _ routes patches took => took.of_same (.of_tables routes patches)

theorem untagged_live (reason : EndReason) (e : EntryId) (live : ((s.untagged p reason).entry e).live = true) :
    (s.entry e).live = true ∧ ((s.untagged p reason).entry e).tag = (s.entry e).tag := by
  have same := sameRoutes_vacated (s := s) (p := p) reason
  refine untagged_keeps (s := s) (p := p) (P := fun t => (t.entry e).live = true →
    (s.entry e).live = true ∧ (t.entry e).tag = (s.entry e).tag) reason ?_ ?_ ?_ live
  · exact fun live => ⟨same.live e ▸ live, same.tag e⟩
  · intro t kept live
    rw [purge_entry_of_live _ _ e live]
    exact kept ((purge_live _ _ e).mp live).1
  · intro t u routes _ kept
    rw [show u.entry e = t.entry e from congrArg (fun r : Routes => r.entries.get e) routes]
    exact kept

theorem untagged_chain (reason : EndReason) (q : PatchId) :
    ((s.untagged p reason).patch q).chain.Sublist (s.patch q).chain := by
  refine untagged_keeps (s := s) (p := p) (P := fun t => (t.patch q).chain.Sublist (s.patch q).chain) reason ?_ ?_ ?_
  · rw [(sameRoutes_vacated reason).chains]
  · exact fun t kept => (purge_chain _ _ q).trans kept
  · intro t u _ patches kept
    rw [patch_of_patches patches]
    exact kept

theorem untagged_feeding (reason : EndReason) (q : PatchId) {kind : EntryKind} (own : kind ≠ .overlay) (m : LegId) :
    ((s.untagged p reason).feeding q kind m).length = (s.feeding q kind m).length := by
  refine untagged_keeps (s := s) (p := p) (P := fun t => (t.feeding q kind m).length = (s.feeding q kind m).length)
    reason ?_ ?_ ?_
  · rw [(sameRoutes_vacated reason).feeding]
  · intro t kept
    rw [length_feeding_purge, kept]
    simp [Selector.reaches, own]
  · intro t u routes patches kept
    rw [(SameRoutes.of_tables routes patches).feeding, kept]

theorem teardown_others (reason : EndReason) (r : Requester) {q : PatchId} (other : q ≠ p) :
    ((s.teardown p reason r).1.patch q).fixed = (s.patch q).fixed := by
  rw [teardown_patch_fixed, if_neg other]

theorem teardown_lists (reason : EndReason) (r : Requester) :
    ((s.teardown p reason r).1.patch p).members = [] ∧ ((s.teardown p reason r).1.patch p).monitors = [] := by
  have here : ((s.teardown p reason r).1.patch p).fixed =
      { s.patch p with state := .disbanding, members := [], monitors := [] }.fixed := by
    rw [teardown_patch_fixed, if_pos rfl]
    rfl
  exact ⟨members_of_fixed here, monitors_of_fixed here⟩

theorem RouteLaw.teardown (law : RouteLaw s) (reason : EndReason) {r : Requester}
    (patches : PatchLaw (s.teardown p reason r).1) : RouteLaw (s.teardown p reason r).1 := by
  have chained : Chained (s.teardown p reason r).1 := (law.chained.untagged reason).purge _ _
  have took : PurgesTook (s.teardown p reason r).1 := (law.purgesTook.untagged reason).purge _ _
  have tags (e : EntryId) (live : ((s.teardown p reason r).1.entry e).live = true) : (s.entry e).live = true ∧
      ((s.teardown p reason r).1.entry e).tag = (s.entry e).tag ∧ (s.entry e).tag ≠ some p := by
    rw [teardown_eq] at live ⊢
    have same := purge_entry_of_live _ _ e live
    obtain ⟨before, spared⟩ := (purge_live _ _ e).mp live
    obtain ⟨first, tag⟩ := untagged_live reason e before
    rw [same]
    refine ⟨first, tag, fun tagged => ?_⟩
    simp [Selector.selects, tag, tagged] at spared
  refine .of_parts patches chained took ⟨fun q e live tag => ?_, fun q free => ?_⟩ fun q m => ?_
  · obtain ⟨before, same, other⟩ := tags e live
    rw [same] at tag
    have elsewhere : q ≠ p := fun here => other (here ▸ tag)
    rw [state_of_fixed (teardown_others reason r elsewhere)]
    exact law.homes.active q e before tag
  · by_cases here : q = p
    · rw [here, teardown_state] at free
      cases free
    · rw [state_of_fixed (teardown_others reason r here)] at free
      have within : ((s.teardown p reason r).1.patch q).chain.Sublist (s.patch q).chain :=
        (purge_chain _ _ q).trans (untagged_chain reason q)
      rw [law.free q free] at within
      exact List.sublist_nil.mp within
  · have count {kind : EntryKind} (own : kind ≠ .overlay) : ((s.teardown p reason r).1.feeding q kind m).length =
        if q = p then 0 else (s.feeding q kind m).length := by
      rw [teardown_eq, length_feeding_purge, untagged_feeding reason q own]
      simp [Selector.reaches]
    obtain ⟨members, monitors⟩ := law.feeds q m
    rw [count (kind := .member) nofun, count (kind := .monitor) nofun, members, monitors]
    by_cases here : q = p
    · subst here
      obtain ⟨noMember, noMonitor⟩ := teardown_lists (s := s) (p := q) reason r
      simp [noMember, noMonitor]
    · have same := teardown_others (s := s) reason r here
      rw [if_neg here, if_neg here, members_of_fixed same, monitors_of_fixed same]
      exact ⟨rfl, rfl⟩

/-- A purge by patch tag that completes leaves the patch's chain empty: its live entries it took, and it joined the purge
of those that were PURGING (R68, R160; log 32). -/
theorem teardown_chain (law : RouteLaw (s.teardown p reason r).1) (done : (s.teardown p reason r).2 = true) :
    ((s.teardown p reason r).1.patch p).chain = [] := by
  refine List.eq_nil_iff_forall_not_mem.mpr fun e listed => ?_
  obtain ⟨tag, used⟩ := law.tagged p e listed
  by_cases live : ((s.teardown p reason r).1.entry e).live = true
  · cases (teardown_state reason r).symm.trans (law.homes.active p e live tag)
  · have purging : ((s.teardown p reason r).1.entry e).state = .purging := by
      rw [live_iff] at live
      by_contra other
      exact live ⟨used, other⟩
    have frame := (law.purging e purging).1
    rw [teardown_eq] at done purging tag frame
    obtain ⟨freed, idle | ⟨nothing, alone⟩⟩ := purge_done _ _ done
    · rw [purge_frame, idle] at frame
      cases frame
    · rw [freed, nothing, entry_freeEntries, if_neg (List.not_mem_nil)] at purging tag
      unfold State.joinsPurge at alone
      have joins := List.any_eq_false.mp alone e (List.mem_finRange e)
      simp [tag, purging] at joins

end Sys2Proof.Machine

/-! SUPPORT. The route law under reservations, frames and resets (R125, R126, R130, R138). -/

namespace Sys2Proof.Machine

variable {s t u : State} {p : PatchId} {l : LegId}

/-! ## New entries -/

theorem Chained.of_tables (chained : Chained s) (entry : ∀ e, t.entry e = s.entry e)
    (chain : ∀ p, (t.patch p).chain = (s.patch p).chain) : Chained t where
  tagged q e := by rw [chain, entry]; exact chained.tagged q e
  nodup q := by rw [chain]; exact chained.nodup q
  placed q e := by rw [chain, entry]; exact chained.placed q e
  blank e := by rw [entry]; exact chained.blank e
  sourced e := by rw [entry]; exact chained.sourced e

theorem SameRoutes.lowestFree (same : SameRoutes s t) : t.lowestFree = s.lowestFree := by
  unfold State.lowestFree
  congr 1
  funext e
  rw [same.state]

/-- An entry reserved for a destination that joins a list of its patch, before or after. -/
theorem RouteLaw.listed (law : RouteLaw s) {kind : EntryKind} {dest : LegId} {gain : Nat} {source : Option Party}
    (free : s.lowestFree.isSome = true) (active : (s.patch p).state = .active) (patches : PatchLaw t)
    (before : SameRoutes s u) (after : SameRoutes (u.reserve p kind dest gain source) t)
    (state : ∀ q, (u.patch q).state = (s.patch q).state ∧ (t.patch q).state = (s.patch q).state)
    (members : ∀ q m, m ∈ (t.patch q).members ↔
      m ∈ (s.patch q).members ∨ q = p ∧ EntryKind.member = kind ∧ m = dest)
    (monitors : ∀ q m, ((t.patch q).monitors.any fun x => x.1 = m) = true ↔
      ((s.patch q).monitors.any fun x => x.1 = m) = true ∨ q = p ∧ EntryKind.monitor = kind ∧ m = dest)
    (fresh : (kind = .member → dest ∉ (s.patch p).members) ∧
      (kind = .monitor → ((s.patch p).monitors.any fun x => x.1 = dest) = false)) : RouteLaw t := by
  obtain ⟨e, lowest⟩ := Option.isSome_iff_exists.mp (before.lowestFree ▸ free)
  have activeThen : (u.patch p).state = .active := (state p).1.trans active
  refine .of_parts patches ((law.chained.of_same before).reserve.of_same after)
    ((law.purgesTook.of_same before).reserve.of_same after)
    (((law.homes.of_same before fun q => (state q).1).reserve activeThen).of_same after fun q => ?_) fun q m => ?_
  · rw [(state q).2, reserve_state, (state q).1]
  · obtain ⟨fedMember, fedMonitor⟩ := law.feeds q m
    rw [after.feeding, after.feeding, feeding_reserve lowest, feeding_reserve lowest, before.feeding, before.feeding,
      fedMember, fedMonitor, if_congr (members q m) rfl rfl, if_congr (monitors q m) rfl rfl]
    constructor
    · by_cases new : q = p ∧ EntryKind.member = kind ∧ m = dest
      · obtain ⟨rfl, rfl, rfl⟩ := new
        simp [fresh.1 rfl]
      · simp [new]
    · by_cases new : q = p ∧ EntryKind.monitor = kind ∧ m = dest
      · obtain ⟨rfl, rfl, rfl⟩ := new
        rw [fresh.2 rfl]
        simp
      · rw [if_neg new, Nat.add_zero]
        exact if_congr (by simp only [new, or_false]) rfl rfl

/-- A leg in the member list of a patch, before its entry is reserved. -/
def State.enlisted (s : State) (p : PatchId) (l : LegId) : State :=
  (s.modPatch p fun x => { x with members := x.members ++ [l] }).modLeg l fun x => { x with membership := some p }

theorem admitted_eq (b : Binding) :
    admitted p l b s = (s.enlisted p l).reserve p .member l (memberGain l b) none := rfl

theorem enlisted_patch (q : PatchId) : (s.enlisted p l).patch q =
    { s.patch q with members := if q = p then (s.patch q).members ++ [l] else (s.patch q).members } := by
  rw [State.enlisted, modLeg_patch, patch_modPatch]
  split
  next here => rw [here]
  next => rfl

theorem RouteLaw.admits (law : RouteLaw s) (b : Binding) (free : s.lowestFree.isSome = true)
    (active : (s.patch p).state = .active) (fresh : l ∉ (s.patch p).members) (patches : PatchLaw (admitted p l b s)) :
    RouteLaw (admitted p l b s) := by
  have lists (q : PatchId) : ((admitted p l b s).patch q).members = ((s.enlisted p l).patch q).members ∧
      ((admitted p l b s).patch q).monitors = (s.patch q).monitors ∧
      ((admitted p l b s).patch q).state = (s.patch q).state := by
    rw [admitted_eq, reserve_patch, enlisted_patch]
    exact ⟨rfl, rfl, rfl⟩
  refine law.listed (u := s.enlisted p l) free active patches (.of_routes rfl fun q => by rw [enlisted_patch])
    (.of_routes rfl fun _ => rfl : SameRoutes (admitted p l b s) _) (fun q => ⟨by rw [enlisted_patch], (lists q).2.2⟩)
    (fun q m => ?_) (fun q m => ?_) ⟨fun _ => fresh, nofun⟩
  · rw [(lists q).1, enlisted_patch]
    by_cases here : q = p
    · subst here; simp
    · simp [here]
  · rw [(lists q).2.1]
    simp

theorem RouteLaw.monitors (law : RouteLaw s) {gain : Nat} (free : s.lowestFree.isSome = true)
    (active : (s.patch p).state = .active) (fresh : (s.patch p).monitoredBy l = false)
    (patches : PatchLaw (s.addMonitor p l gain)) : RouteLaw (s.addMonitor p l gain) := by
  let source := if (s.patch p).floor.state = .held then (s.patch p).floor.owner else none
  have patch (q : PatchId) : (s.addMonitor p l gain).patch q = { (s.reserve p .monitor l gain source).patch q with
      monitors := if q = p then (s.patch q).monitors ++ [(l, gain)] else (s.patch q).monitors } := by
    unfold State.addMonitor
    dsimp only
    rw [patch_modPatch]
    split
    next here => rw [here, reserve_patch]
    next => rw [reserve_patch]
  have after : SameRoutes (s.reserve p .monitor l gain source) (s.addMonitor p l gain) :=
    .of_routes rfl fun q => by rw [patch]
  refine law.listed (u := s) free active patches (.of_routes rfl fun _ => rfl) after
    (fun q => ⟨rfl, by rw [patch, reserve_patch]⟩) (fun q m => ?_) (fun q m => ?_) ⟨nofun, fun _ => fresh⟩
  · rw [patch, reserve_patch]
    simp
  · rw [patch]
    by_cases here : q = p
    · subst here
      rw [if_pos rfl, List.any_append, Bool.or_eq_true]
      refine or_congr Iff.rfl ?_
      simp [eq_comm (a := l)]
    · simp [here]

/-! ## Overlays -/

/-- The parts of the route law that an overlay's reservations keep. -/
structure OverlayKeeps (p : PatchId) (t : State) : Prop where
  chained : Chained t
  took : PurgesTook t
  homes : Homes t
  feeds : Feeds t
  active : (t.patch p).state = .active

theorem OverlayKeeps.reserve (keeps : OverlayKeeps p s) (dest : LegId) (gain : Nat) (source : Option Party) :
    OverlayKeeps p (s.reserve p .overlay dest gain source) where
  chained := keeps.chained.reserve
  took := keeps.took.reserve
  homes := keeps.homes.reserve keeps.active
  feeds q m := by
    have count {kind : EntryKind} (own : kind ≠ .overlay) :
        ((s.reserve p .overlay dest gain source).feeding q kind m).length = (s.feeding q kind m).length := by
      cases free : s.lowestFree with
      | none => rw [reserve_full free]
      | some e => rw [feeding_reserve free]; simp [own]
    rw [count (kind := .member) nofun, count (kind := .monitor) nofun, reserve_patch]
    exact keeps.feeds q m
  active := by rw [reserve_state]; exact keeps.active

theorem RouteLaw.overlays (law : RouteLaw s) (n : SlotId) (active : (s.patch p).state = .active)
    (patches : PatchLaw (s.overlaid n p)) : RouteLaw (s.overlaid n p) := by
  have kept : OverlayKeeps p (s.overlaid n p) :=
    List.foldlRecOn (motive := OverlayKeeps p) _ _ ⟨law.chained, law.purgesTook, law.homes, law.feeds, active⟩
      fun _ keeps l _ => keeps.reserve l _ _
  exact .of_parts patches kept.chained kept.took kept.homes kept.feeds

theorem RouteLaw.purge (law : RouteLaw s) {sel : Selector} {r : Requester}
    (spares : ∀ q m, sel.reaches q .member m = false ∧ sel.reaches q .monitor m = false)
    (patches : PatchLaw (s.purge sel r).1) : RouteLaw (s.purge sel r).1 := by
  refine .of_parts patches (law.chained.purge _ _) (law.purgesTook.purge _ _) (law.homes.purge _ _) fun q m => ?_
  have same := (purge_patch (s := s) sel r q).1
  rw [length_feeding_purge, length_feeding_purge, (spares q m).1, (spares q m).2, members_of_fixed same,
    monitors_of_fixed same]
  exact law.feeds q m

theorem dropMonitor_lists (q : PatchId) : ((s.dropMonitor p l).1.patch q).members = (s.patch q).members ∧
    ((s.dropMonitor p l).1.patch q).monitors =
      if q = p then (s.patch q).monitors.filter fun m => m.1 != l else (s.patch q).monitors := by
  have same := (purge_patch (s := s.modPatch p fun x => { x with monitors := x.monitors.filter fun m => m.1 != l })
    (.monitor p l) .monitorOff q).1
  rw [State.dropMonitor, members_of_fixed same, monitors_of_fixed same, patch_modPatch]
  split
  next here => subst here; exact ⟨rfl, rfl⟩
  next => exact ⟨rfl, rfl⟩

theorem RouteLaw.dropMonitor (law : RouteLaw s) (patches : PatchLaw (s.dropMonitor p l).1) :
    RouteLaw (s.dropMonitor p l).1 := by
  let u := s.modPatch p fun x => { x with monitors := x.monitors.filter fun m => m.1 != l }
  have patch (q : PatchId) : (u.patch q).state = (s.patch q).state ∧ (u.patch q).chain = (s.patch q).chain := by
    rw [show u.patch q = _ from patch_modPatch p q _]
    split
    next here => subst here; exact ⟨rfl, rfl⟩
    next => exact ⟨rfl, rfl⟩
  have before : SameRoutes s u := .of_routes rfl fun q => (patch q).2
  refine .of_parts patches ((law.chained.of_same before).purge _ _) ((law.purgesTook.of_same before).purge _ _)
    ((law.homes.of_same before fun q => (patch q).1).purge _ _) fun q m => ?_
  obtain ⟨members, monitors⟩ := law.feeds q m
  rw [(dropMonitor_lists q).1, (dropMonitor_lists q).2, State.dropMonitor, length_feeding_purge, length_feeding_purge,
    before.feeding, before.feeding, members, monitors]
  refine ⟨by simp [Selector.reaches], ?_⟩
  by_cases here : q = p
  · subst here
    by_cases gone : m = l
    · subst gone
      simp [Selector.reaches]
    · rw [if_pos rfl, if_neg (by simp [Selector.reaches, gone])]
      refine if_congr ?_ rfl rfl
      simp only [List.any_eq_true, List.mem_filter, decide_eq_true_eq]
      constructor
      · rintro ⟨x, listed, rfl⟩
        exact ⟨x, ⟨listed, bne_iff_ne.mpr gone⟩, rfl⟩
      · rintro ⟨x, ⟨listed, -⟩, rfl⟩
        exact ⟨x, listed, rfl⟩
  · rw [if_neg here, if_neg (by simp [Selector.reaches, here])]

/-! ## Frames -/

theorem applied_live (x : Entry) : x.applied.live = x.live := by
  unfold Entry.applied
  split
  next live =>
    rw [live]
    split
    · rfl
    · split <;> rfl
  next => rfl

theorem applied_of_idle {x : Entry} (idle : x.live = false) : x.applied = x := by
  unfold Entry.applied
  rw [if_neg (by simp [idle])]

/-- What a pending source does not touch of an entry it is applied to. -/
theorem applied_same (x : Entry) : x.applied.tag = x.tag ∧ x.applied.kind = x.kind ∧ x.applied.dest = x.dest := by
  unfold Entry.applied
  split
  · split
    · exact ⟨rfl, rfl, rfl⟩
    · split <;> exact ⟨rfl, rfl, rfl⟩
  · exact ⟨rfl, rfl, rfl⟩

theorem applied_state_iff (x : Entry) {st : EntryState} (idle : st ≠ .reserved ∧ st ≠ .active) :
    x.applied.state = st ↔ x.state = st := by
  by_cases live : x.live = true
  · have still := (applied_live x).trans live
    have neither {y : Entry} (live : y.live = true) : y.state ≠ st := by
      rintro rfl
      rw [Entry.live, Bool.or_eq_true, decide_eq_true_eq, decide_eq_true_eq] at live
      exact live.elim idle.1 idle.2
    exact ⟨fun now => absurd now (neither still), fun before => absurd before (neither live)⟩
  · rw [applied_of_idle (by simpa using live)]

theorem applied_sourced {x : Entry} (active : x.applied.state = .active) :
    x.applied.source.isSome = true ∧ x.applied.source ≠ x.applied.dest.map Party.leg := by
  unfold Entry.applied at active ⊢
  split at active
  next live =>
    rw [if_pos live]
    split at active
    · cases active
    next src pending =>
      split at active
      · cases active
      next other =>
        rw [pending]
        rw [if_neg other]
        exact ⟨rfl, other⟩
  next idle => exact absurd (by simp [Entry.live, active]) idle

theorem beginFrame_entry (inbound : Vector Block 20) (e : EntryId) :
    (s.beginFrame inbound).entry e = (s.entry e).applied := by
  rw [beginFrame_eq]
  exact (entry_mapEntries s _ e)

theorem beginFrame_patch (inbound : Vector Block 20) (q : PatchId) : (s.beginFrame inbound).patch q = s.patch q :=
  patch_of_patches (by simp [beginFrame_eq]) q

theorem beginFrame_frame (inbound : Vector Block 20) : (s.beginFrame inbound).routes.frame.isSome = true := by
  rw [beginFrame_eq] <;> rfl

theorem RouteLaw.begins (law : RouteLaw s) (inbound : Vector Block 20) (patches : PatchLaw (s.beginFrame inbound)) :
    RouteLaw (s.beginFrame inbound) := by
  have live (e : EntryId) : ((s.beginFrame inbound).entry e).live = (s.entry e).live := by
    rw [beginFrame_entry, applied_live]
  have tag (e : EntryId) : ((s.beginFrame inbound).entry e).tag = (s.entry e).tag := by
    rw [beginFrame_entry, (applied_same _).1]
  have free (e : EntryId) : ((s.beginFrame inbound).entry e).state = .free ↔ (s.entry e).state = .free := by
    rw [beginFrame_entry, applied_state_iff (st := .free) _ ⟨nofun, nofun⟩]
  have purging (e : EntryId) : ((s.beginFrame inbound).entry e).state = .purging ↔ (s.entry e).state = .purging := by
    rw [beginFrame_entry, applied_state_iff (st := .purging) _ ⟨nofun, nofun⟩]
  have feeding (q : PatchId) (kind : EntryKind) (m : LegId) :
      (s.beginFrame inbound).feeding q kind m = s.feeding q kind m := by
    unfold State.feeding
    refine List.filter_congr fun e _ => ?_
    rw [live, tag, beginFrame_entry, (applied_same _).2.1, (applied_same _).2.2]
  refine .of_parts patches ⟨fun q e => ?_, fun q => ?_, fun q e => ?_, fun e blank => ?_, fun e active => ?_⟩
    ⟨fun e state => ⟨beginFrame_frame inbound, ?_⟩, fun r outstanding e taken => ?_⟩
    ⟨fun q e => ?_, fun q => ?_⟩ fun q m => ?_
  · rw [beginFrame_patch, tag, Ne, free]; exact law.tagged q e
  · rw [beginFrame_patch]; exact law.nodup q
  · rw [beginFrame_patch, tag, Ne, free]; exact law.placed q e
  · rw [free] at blank
    rw [beginFrame_entry, applied_of_idle (by simp [Entry.live, blank])]
    exact law.blank e blank
  · rw [beginFrame_entry] at active ⊢
    exact applied_sourced active
  · rw [beginFrame_purges]
    exact (law.purging e ((purging e).mp state)).2
  · rw [beginFrame_purges] at outstanding
    exact (purging e).mpr (law.outstanding r outstanding e taken)
  · rw [live, tag, beginFrame_patch]; exact law.homes.active q e
  · rw [beginFrame_patch]; exact law.free q
  · rw [feeding, feeding, beginFrame_patch]; exact law.feeds q m

theorem frameOver_entry (beforeTick : Option Nat) (e : EntryId) : (s.frameOver beforeTick).entry e =
    if e ∈ s.routes.purges.flatMap Purge.entries then {} else s.entry e := entry_freeEntries _ e

theorem frameOver_purged (law : RouteLaw s) {e : EntryId} :
    e ∈ s.routes.purges.flatMap Purge.entries ↔ (s.entry e).state = .purging := by
  rw [List.mem_flatMap]
  exact ⟨fun ⟨r, outstanding, taken⟩ => law.outstanding r outstanding e taken, fun state => (law.purging e state).2⟩

theorem RouteLaw.frameOver (law : RouteLaw s) (beforeTick : Option Nat) (patches : PatchLaw (s.frameOver beforeTick)) :
    RouteLaw (s.frameOver beforeTick) := by
  have fixed (q : PatchId) : ((s.frameOver beforeTick).patch q).fixed = (s.patch q).fixed := purgesFreed_patch q
  have entry (e : EntryId) : (s.frameOver beforeTick).entry e =
      if (s.entry e).state = .purging then {} else s.entry e := by
    rw [frameOver_entry, if_congr (frameOver_purged law) rfl rfl]
  have live {e : EntryId} (live : ((s.frameOver beforeTick).entry e).live = true) :
      (s.frameOver beforeTick).entry e = s.entry e := by
    rw [entry] at live ⊢
    split at live
    · cases live
    next other => rw [if_neg other]
  have feeding (q : PatchId) (kind : EntryKind) (m : LegId) :
      ((s.frameOver beforeTick).feeding q kind m).length = (s.feeding q kind m).length := by
    refine List.Perm.length_eq ((List.perm_ext_iff_of_nodup nodup_feeding nodup_feeding).mpr fun e => ?_)
    rw [mem_feeding, mem_feeding, entry]
    split
    next purging => simp [Entry.live, purging]
    next => rfl
  have chained : Chained { s.frameEnded beforeTick with routes := { (s.frameEnded beforeTick).routes with purges := [] } } :=
    law.chained.of_tables (fun _ => rfl) fun _ => rfl
  refine .of_parts patches (chained.freeEntries _) ⟨fun e state => ?_, fun r outstanding => ?_⟩
    ⟨fun q e alive tag => ?_, fun q free => ?_⟩ fun q m => ?_
  · rw [entry] at state
    split at state
    · cases state
    next other => exact absurd state other
  · rw [State.frameOver, purgesFreed_purges] at outstanding
    cases outstanding
  · rw [state_of_fixed (fixed q)]
    have same := live alive
    rw [same] at alive tag
    exact law.homes.active q e alive tag
  · rw [state_of_fixed (fixed q)] at free
    have within : ((s.frameOver beforeTick).patch q).chain.Sublist (s.patch q).chain := by
      rw [State.frameOver, State.purgesFreed, freeEntries_patch]
      exact List.filter_sublist
    rw [law.free q free] at within
    exact List.sublist_nil.mp within
  · rw [feeding, feeding, members_of_fixed (fixed q), monitors_of_fixed (fixed q)]
    exact law.feeds q m

theorem routeLaw_reset (address : BitVec 6) (rate : BitVec 2) (stamp : Word32)
    (patches : PatchLaw (resetWith s (Link.afterReset address rate stamp))) :
    RouteLaw (resetWith s (Link.afterReset address rate stamp)) := by
  have entry (e : EntryId) : (resetWith s (Link.afterReset address rate stamp)).entry e = {} := entry_resetBlocks _ e
  have patch (q : PatchId) : (resetWith s (Link.afterReset address rate stamp)).patch q = {} := patch_resetBlocks _ q
  refine .of_parts patches ⟨?_, ?_, ?_, ?_, ?_⟩ ⟨?_, nofun⟩ ⟨?_, ?_⟩ fun q m => ?_
  · intro q e; rw [patch]; nofun
  · intro q; rw [patch]; exact List.nodup_nil
  · intro q e; rw [entry]; exact fun used => absurd rfl used
  · exact fun e _ => entry e
  · intro e; rw [entry]; nofun
  · intro e; rw [entry]; nofun
  · intro q e; rw [entry]; nofun
  · intro q; rw [patch]; exact fun _ => rfl
  · simp [State.feeding, entry, patch, Entry.live]

end Sys2Proof.Machine

/-! SUPPORT. The route law under every shift, and so under every step (R121, R123, R126, R130, R137, R138). -/

namespace Sys2Proof.Machine

variable {s t u : State} {p : PatchId} {l : LegId}

theorem Acts.patches (acts : Acts s t) (p : PatchId) : (t.patch p).fixed = (s.patch p).fixed :=
  acts.keeps (P := fun t => (t.patch p).fixed = (s.patch p).fixed)
    (fun _ _ written before => (congrArg Patch.fixed (patch_of_patches written.patches p)).trans before)
    (fun _ _ work before => (work.kept.patches p).1.trans before) rfl

/-- Patches as they were but for floors and chains, and routes but for pending sources and gains. -/
theorem RouteLaw.of_fixed (law : RouteLaw s) (patches : PatchLaw t) (same : SameRoutes s t)
    (fixed : ∀ p, (t.patch p).fixed = (s.patch p).fixed) : RouteLaw t :=
  law.of_same patches same (fun p => state_of_fixed (fixed p)) (fun p => members_of_fixed (fixed p)) fun p l => by
    rw [monitors_of_fixed (fixed p)]

theorem RouteLaw.of_tables (law : RouteLaw s) (patches : PatchLaw t) (routes : t.routes = s.routes)
    (same : t.patches = s.patches) : RouteLaw t :=
  law.of_fixed patches (.of_tables routes same) fun p => by rw [patch_of_patches same]

/-- Between frames a patch that is not ACTIVE has an empty chain (R52, R138). -/
theorem RouteLaw.chain_empty (law : RouteLaw s) (inactive : (s.patch p).state ≠ .active)
    (idle : s.routes.frame = none) : (s.patch p).chain = [] := by
  refine List.eq_nil_iff_forall_not_mem.mpr fun e listed => ?_
  obtain ⟨tag, used⟩ := law.tagged p e listed
  by_cases purging : (s.entry e).state = .purging
  · have frame := (law.purging e purging).1
    rw [idle] at frame
    cases frame
  · exact inactive (law.homes.active p e (live_iff.mpr ⟨used, purging⟩) tag)

theorem RouteLaw.regains (law : RouteLaw s) {gain : Nat} (patches : PatchLaw (s.setMonitorGain p l gain)) :
    RouteLaw (s.setMonitorGain p l gain) := by
  have patch (q : PatchId) : (s.setMonitorGain p l gain).patch q = if q = p then { s.patch p with
      monitors := (s.patch p).monitors.map fun m => if m.1 = l then (l, gain) else m } else s.patch q := by
    unfold State.setMonitorGain
    rw [mapEntries_patch, patch_modPatch]
  have entry (e : EntryId) : (s.setMonitorGain p l gain).entry e =
      if (s.entry e).live && (Selector.monitor p l).selects (s.entry e) then { s.entry e with gain } else s.entry e := by
    unfold State.setMonitorGain
    rw [entry_mapEntries, modPatch_entry]
  have same : SameRoutes s (s.setMonitorGain p l gain) := by
    refine ⟨fun q => ?_, fun e => ?_, fun e idle => ?_, ?_, ?_⟩
    · rw [patch]
      split
      next here => rw [here]
      next => rfl
    · rw [entry]
      split <;> rfl
    · rw [entry, idle, Bool.false_and]
      rfl
    · unfold State.setMonitorGain State.mapEntries
      rfl
    · unfold State.setMonitorGain State.mapEntries
      rfl
  have others (q : PatchId) : ((s.setMonitorGain p l gain).patch q).state = (s.patch q).state ∧
      ((s.setMonitorGain p l gain).patch q).members = (s.patch q).members := by
    rw [patch]
    split
    next here => rw [here]; exact ⟨rfl, rfl⟩
    next => exact ⟨rfl, rfl⟩
  refine law.of_same patches same (fun q => (others q).1) (fun q => (others q).2) fun q m => ?_
  rw [patch]
  split
  next here =>
    rw [here, List.any_map]
    congr 1
    funext x
    dsimp only [Function.comp]
    split
    next named => rw [named]
    next => rfl
  next => rfl

theorem RouteLaw.of_shift (law : RouteLaw s) (patches : PatchLaw s) (shift : Shift s t) : RouteLaw t := by
  have after := patches.of_shift shift
  cases shift with
  | fares fares => exact law.of_fixed after fares.acts.sameRoutes fares.acts.patches
  | elsewhere elsewhere => exact law.of_tables after elsewhere.routes elsewhere.patches
  | waits w _ _ => exact law.of_tables after (setWork_routes s w) (setWork_patches s w)
  | binds l f _ _ => exact law.of_tables after (modLeg_routes s l f) (modLeg_patches s l f)
  | opens p a free _ =>
    exact law.rewritten patches (by rw [free]; nofun) (law.free p free) ⟨rfl, rfl, rfl⟩ after
  | grants p access =>
    have patch (q : PatchId) : ((s.modPatch p fun x => { x with access }).patch q).state = (s.patch q).state ∧
        ((s.modPatch p fun x => { x with access }).patch q).members = (s.patch q).members ∧
        ((s.modPatch p fun x => { x with access }).patch q).monitors = (s.patch q).monitors ∧
        ((s.modPatch p fun x => { x with access }).patch q).chain = (s.patch q).chain := by
      rw [patch_modPatch]
      split
      next here => rw [here]; exact ⟨rfl, rfl, rfl, rfl⟩
      next => exact ⟨rfl, rfl, rfl, rfl⟩
    exact law.of_same after (.of_routes rfl fun q => (patch q).2.2.2) (fun q => (patch q).1) (fun q => (patch q).2.1)
      fun q m => by rw [(patch q).2.2.1]
  | admits p l b free active _ alone _ _ _ _ =>
    refine law.admits b free active (fun listed => ?_) after
    rw [(patches.membership l p).mpr listed] at alone
    cases alone
  | regains p l gain _ => exact law.regains after
  | monitors p l gain free _ _ active _ fresh _ => exact law.monitors free active fresh after
  | unmonitors p l => exact law.dropMonitor after
  | removes p l r _ _ => exact law.removeMember after
  | tears p reason r active done =>
    have torn : PatchLaw (s.teardown p reason r).1 := patches.of_departs (departs_teardown patches reason (.inl done))
    have law := law.teardown reason torn
    exact law.rewritten torn (by rw [teardown_state]; nofun) (teardown_chain law done) ⟨rfl, rfl, rfl⟩ after
  | disbands p reason r _ _ _ => exact law.teardown reason after
  | frees p inactive idle _ => exact law.rewritten patches inactive (law.chain_empty inactive idle) ⟨rfl, rfl, rfl⟩ after
  | overlays n p active => exact law.overlays n active after
  | purges p => exact law.purge (fun q m => by simp [Selector.reaches]) after
  | begins inbound _ => exact law.begins inbound after
  | frameOver beforeTick => exact law.frameOver beforeTick after
  | resets address rate stamp => exact routeLaw_reset address rate stamp after

/-- Settles O59: every command is made of shifts, and each keeps the route law beside the membership law. -/
theorem routeLawIsKept : Obligations.RouteLawIsKept := fun _ _ next patches law =>
  (kept_of_shifts (P := fun s => PatchLaw s ∧ RouteLaw s)
    (fun u rest ⟨patches, law⟩ =>
      have after : PatchLaw { u with pending := rest } := patches.of_elsewhere (elsewhere_of rfl rfl rfl (.inl rfl))
      ⟨after, law.of_tables after rfl rfl⟩)
    (fun _ _ patches shift ⟨_, law⟩ => ⟨patches.of_shift shift, law.of_shift patches shift⟩)
    patches ⟨patches, law⟩ next).2.2

end Sys2Proof.Machine

/-! SUPPORT. What ends keying (R13, R15–R18), and SETLEG (R24, R25). -/

namespace Sys2Proof.Machine

variable {s t u : State}

/-! ## The key released -/

theorem exec_of_settled {i : Instr} {f : State → State} (settled : s.Settled) (row : happening i = some f) :
    exec i s = .next (f s) := by
  rw [exec_of_happening row, event_of_settled settled]

/-- A leg whose key is released: its masking ends with an evaluation of the condition (R10, R13, R15, R17). -/
def Leg.keyReleased (l : LegId) (st : TxState) (timer : Option Nat) (x : Leg) : Leg :=
  let y : Leg := { x with tx := x.tx.released st timer }
  if x.masked l && !x.park.parked then y.follow (y.condition l) else y

@[simp] theorem keyReleased_fixed (l : LegId) (st : TxState) (timer : Option Nat) (x : Leg) :
    (x.keyReleased l st timer).fixed = x.fixed := by
  unfold Leg.keyReleased
  dsimp only
  split
  · rw [follow_fixed]
    rfl
  · rfl

theorem releaseKey_eq {l : LegId} {st : TxState} {timer : Option Nat} (off : st.keyAsserted = false) :
    s.releaseKey l st timer = s.modLeg l (Leg.keyReleased l st timer) := by
  have now : ({ s.leg l with tx := (s.leg l).tx.released st timer } : Leg).masked l = false := by
    simp [Leg.masked, Tx.released, off]
  unfold State.releaseKey
  cases was : (s.leg l).masked l with
  | true =>
    rw [maskedChange_ends was now]
    refine modLeg_congr ?_
    unfold Leg.keyReleased
    dsimp only
    rw [was]
    cases (s.leg l).park.parked <;> rfl
  | false =>
    rw [maskedChange_same (now.trans was.symm)]
    refine modLeg_congr ?_
    unfold Leg.keyReleased
    dsimp only
    rw [was] <;> rfl

/-- A TRANSMIT event behind a change of the leg's record: its flag, and its notice under the mask (R4, R184). -/
theorem transmitEvent_modLeg (l : LegId) (e : TransmitEvent) {f : Leg → Leg} (keeps : ∀ x, (f x).fixed = x.fixed) :
    ((s.modLeg l f).flagTransmit l).offerMasked (.transmit e) l =
      let u := s.modLeg l fun x => { f x with flags := { (f x).flags with transmit := true } }
      if (s.leg l).config.mask.transmit then u.offer (.transmit e) (some l) (s.leg l).membership else u := by
  have config : (f (s.leg l)).config = (s.leg l).config := congrArg (·.config) (keeps (s.leg l))
  have membership : (f (s.leg l)).membership = (s.leg l).membership := congrArg (·.membership) (keeps (s.leg l))
  rw [State.flagTransmit, modLeg_modLeg, offerMasked_transmit, leg_modLeg_same]
  dsimp only
  rw [config, membership]

/-- The record of a leg whose key is released, written out, with the transmit-event flag set or not. -/
theorem modLeg_keyReleased (l : LegId) (st : TxState) (timer : Option Nat) (flag : Bool) :
    (s.modLeg l fun x =>
      { x.keyReleased l st timer with flags := { (x.keyReleased l st timer).flags with
          transmit := (x.keyReleased l st timer).flags.transmit || flag } }) =
    s.modLeg l fun x =>
      let y : Leg := { x with
        tx := { x.tx with
          state := st, leadTimer := none, tailTimer := none, lockoutTimer := timer, keyed := none, confirm := .off,
          line := List.replicate x.tx.line.length 0 } }
      let z := if x.masked l && !x.park.parked then y.follow (y.condition l) else y
      { z with flags := { z.flags with transmit := z.flags.transmit || flag } } := rfl

theorem limitReached_of_keyed {x : Tx} (asserted : x.state.keyAsserted = true) (limited : x.timeLimit ≠ 0)
    (reached : x.keyed = some (1000 * x.timeLimit)) : x.limitReached = true := by
  simp [Tx.limitReached, asserted, limited, reached]

/-- The end of keying by a transmit event: the key released, the flag and the notice. -/
theorem releaseKey_event (l : LegId) (e : TransmitEvent) {st : TxState} {timer : Option Nat}
    (off : st.keyAsserted = false) :
    ((s.releaseKey l st timer).flagTransmit l).offerMasked (.transmit e) l =
      let u := s.modLeg l fun x =>
        { x.keyReleased l st timer with flags := { (x.keyReleased l st timer).flags with
            transmit := (x.keyReleased l st timer).flags.transmit || true } }
      if (s.leg l).config.mask.transmit then u.offer (.transmit e) (some l) (s.leg l).membership else u := by
  rw [releaseKey_eq off, transmitEvent_modLeg l e fun x => keyReleased_fixed l st timer x]
  simp only [Bool.or_true]

theorem isRadio_radioLeg (r : RadioId) : isRadio (radioLeg r) = true := (isRadio_iff _).mpr r.isLt

/-- Settles O23: each expiry is the release of the key, or the entry to TX_ON. -/
theorem keyingOpensAndEnds : Obligations.KeyingOpensAndEnds := by
  refine ⟨fun r s settled lead timer => ?lead, fun r s settled => ⟨fun tail timer => ?tail,
    fun asserted limited reached => ?limit, fun on window inactive => ?failed, fun on window active => ?passed⟩⟩
  case lead =>
    have takes : takeLeadExpiry (radioLeg r) s = s.modLeg (radioLeg r) Leg.enterOn :=
      if_pos ⟨lead, by simp [due, timer]⟩
    refine ⟨_, (exec_of_settled settled rfl).trans (congrArg _ takes), ?_, ?_, rfl⟩
    · rw [leg_modLeg_same] <;> rfl
    · rw [State.keyOutput, leg_modLeg_same, isRadio_radioLeg] <;> rfl
  case tail =>
    have takes : takeTailExpiry (radioLeg r) s = s.releaseKey (radioLeg r) .off none :=
      if_pos ⟨tail, by simp [due, timer]⟩
    rw [exec_of_settled settled rfl, takes, releaseKey_eq rfl]
    dsimp only
    rw [← modLeg_keyReleased]
    simp only [Bool.or_false]
  case limit =>
    have takes : takeTimeLimit (radioLeg r) s = s.timeOut (radioLeg r) :=
      if_pos (limitReached_of_keyed asserted limited reached)
    rw [exec_of_settled settled rfl, takes, State.timeOut]
    dsimp only
    rw [releaseKey_event (radioLeg r) .timeout rfl] <;> rfl
  case failed =>
    have takes : takeConfirmExpiry (radioLeg r) s = s.confirmFailure (radioLeg r) := by
      simp [takeConfirmExpiry, on, window, inactive]
    rw [exec_of_settled settled rfl, takes, State.confirmFailure, releaseKey_event (radioLeg r) .fault rfl] <;> rfl
  case passed =>
    have takes : takeConfirmExpiry (radioLeg r) s =
        s.modLeg (radioLeg r) fun x => { x with tx := { x.tx with confirm := .passed } } := by
      simp [takeConfirmExpiry, on, window, active]
    rw [exec_of_settled settled rfl, takes]

/-! ## The key demanded again -/

/-- A leg that a key demand keys (R10, R12, R13). -/
def Leg.keyed (x : Leg) : Leg :=
  let y : Leg := { x with tx := x.leadTx }
  if y.duplex then y else y.beginMask

theorem enterLead_leg {l : LegId} (radio : l.val < 16) (released : (s.leg l).tx.state.keyAsserted = false) (m : LegId) :
    (s.enterLead l).leg m = if m = l then (s.leg l).keyed else s.leg m := by
  rw [enterLead_eq radio released]
  unfold Leg.keyed
  dsimp only
  have same : ({ s.leg l with tx := (s.leg l).leadTx } : Leg).duplex = (s.leg l).duplex := rfl
  rw [same]
  cases (s.leg l).duplex with
  | true => rw [if_pos rfl, if_pos rfl, leg_modLeg]
  | false =>
    rw [if_neg Bool.false_ne_true, if_neg Bool.false_ne_true, startMasking_leg, leg_modLeg_same, leg_modLeg]
    split
    · rfl
    · rfl

theorem keyed_fields (x : Leg) : x.keyed.tx = x.leadTx ∧ x.keyed.demand = x.demand ∧
    x.keyed.flags.transmit = x.flags.transmit ∧ x.keyed.fixed = x.fixed := by
  unfold Leg.keyed
  dsimp only
  split
  · exact ⟨rfl, rfl, rfl, rfl⟩
  · unfold Leg.beginMask
    dsimp only
    split <;> exact ⟨rfl, rfl, rfl, rfl⟩

/-- A leg that leaves TX_LOCKOUT or TX_FAULT: for TX_LEAD if its key is demanded, else for TX_OFF (R16, R18). -/
def Leg.resumed (x : Leg) : Leg :=
  let y : Leg := { x with tx := x.tx.released .off none }
  if x.demand then y.keyed else y

theorem resume_leg {l : LegId} (radio : l.val < 16) (m : LegId) :
    (if ((s.modLeg l fun x => { x with tx := x.tx.released .off none }).leg l).demand then
      (s.modLeg l fun x => { x with tx := x.tx.released .off none }).enterLead l
    else s.modLeg l fun x => { x with tx := x.tx.released .off none }).leg m =
      if m = l then (s.leg l).resumed else s.leg m := by
  rw [leg_modLeg_same]
  unfold Leg.resumed
  dsimp only
  by_cases on : (s.leg l).demand = true
  · rw [if_pos on, if_pos on, enterLead_leg radio (by rw [leg_modLeg_same]; rfl), leg_modLeg_same, leg_modLeg]
    split
    · rfl
    · rfl
  · rw [if_neg on, if_neg on, leg_modLeg]

theorem endLockout_leg {l : LegId} (radio : l.val < 16) (m : LegId) : (s.endLockout l).leg m =
    if m = l then ({ s.leg l with flags := { (s.leg l).flags with transmit := true } } : Leg).resumed else s.leg m := by
  unfold State.endLockout
  dsimp only
  rw [resume_leg radio, offerMasked_leg, offerMasked_leg, State.flagTransmit, leg_modLeg_same, leg_modLeg]
  split
  · rfl
  · rfl

theorem clearFault_leg {l : LegId} (radio : l.val < 16) (fault : (s.leg l).tx.state = .fault) (m : LegId) :
    (s.clearFault l).leg m = if m = l then (s.leg l).resumed else s.leg m := by
  unfold State.clearFault
  rw [fault]
  exact resume_leg radio m

theorem resumed_off {x : Leg} (off : x.demand = false) : x.resumed = { x with tx := x.tx.released .off none } := by
  rw [Leg.resumed, off] <;> rfl

theorem resumed_on {x : Leg} (on : x.demand = true) :
    x.resumed = ({ x with tx := x.tx.released .off none } : Leg).keyed := by
  rw [Leg.resumed, on] <;> rfl

theorem resumed_fields (x : Leg) : x.resumed.tx = (if x.demand then x.leadTx else x.tx.released .off none) ∧
    x.resumed.demand = x.demand ∧ x.resumed.flags.transmit = x.flags.transmit ∧ x.resumed.fixed = x.fixed := by
  obtain ⟨tx, demand, flags, fixed⟩ := keyed_fields { x with tx := x.tx.released .off none }
  cases key : x.demand with
  | false =>
    rw [resumed_off key]
    exact ⟨rfl, key, rfl, rfl⟩
  | true =>
    rw [resumed_on key]
    exact ⟨tx, demand.trans key, flags, fixed⟩

/-- A notice offered to a queue with room is in it, and what is offered behind it does not take it out. -/
theorem mem_offer (d : Detail) (l : Option LegId) (p : Option PatchId) (room : s.link.notices.length < 32) :
    (⟨d, s.link.stamp, l, p⟩ : Notice) ∈ (s.offer d l p).link.notices := by
  rw [State.offer, if_pos (show s.link.notices.length < Config.noticeCapacity from room)]
  simp [State.now]

theorem endLockout_notices {l : LegId} (masked : (s.leg l).config.mask.transmit = true)
    (room : s.link.notices.length < 32) :
    (⟨.transmit .lockoutEnd, s.link.stamp, some l, (s.leg l).membership⟩ : Notice) ∈ (s.endLockout l).link.notices := by
  have offered : (s.flagTransmit l).offerMasked (.transmit .lockoutEnd) l =
      (s.flagTransmit l).offer (.transmit .lockoutEnd) (some l) (s.leg l).membership := by
    rw [offerMasked_transmit, State.flagTransmit, leg_modLeg_same]
    exact if_pos masked
  have within := mem_offer (s := s.flagTransmit l) (.transmit .lockoutEnd) (some l) (s.leg l).membership room
  have rest : Calm ((s.flagTransmit l).offerMasked (.transmit .lockoutEnd) l) (s.endLockout l) := by
    have released := calm_modLeg (s := (s.flagTransmit l).offerMasked (.transmit .lockoutEnd) l) l
      (f := fun x => { x with tx := x.tx.released .off none }) fun _ => rfl
    unfold State.endLockout
    dsimp only
    split
    · exact released.trans (calm_enterLead l)
    · exact released
  rw [offered] at rest
  exact rest.link.grows.subset within

/-- Settles O24. -/
theorem lockoutEndsByTheDemand : Obligations.LockoutEndsByTheDemand := by
  intro r s settled lockout timer l lead limit
  have runsOut : due (s.leg l).tx.lockoutTimer = true := by
    rw [show (s.leg l).tx.lockoutTimer = some 0 from timer] <;> rfl
  have takes : takeLockoutExpiry l s = s.endLockout l := if_pos ⟨lockout, runsOut⟩
  have calm := calm_endLockout (s := s) l
  have legs := endLockout_leg (s := s) (l := l) r.isLt
  have here := (legs l).trans (if_pos rfl)
  obtain ⟨tx, -, flag, -⟩ :=
    resumed_fields ({ s.leg l with flags := { (s.leg l).flags with transmit := true } } : Leg)
  rw [← here] at tx flag
  refine ⟨_, (exec_of_settled settled rfl).trans (congrArg _ takes), flag, endLockout_notices, fun off => ?off,
    fun on => ?on, calm.legs l, fun m other => (legs m).trans (if_neg other), calm.directory, endLockout_routes s l,
    calm.clips, calm.link.quiet⟩
  case off =>
    have stays : ((s.endLockout l).leg l).tx = (s.leg l).tx.released .off none := tx.trans (if_neg (by simp [off]))
    rw [stays]
    exact ⟨rfl, rfl⟩
  case on =>
    have leads : ((s.endLockout l).leg l).tx = (s.leg l).leadTx := tx.trans (if_pos on)
    rw [leads]
    exact ⟨rfl, rfl, rfl, rfl, rfl, rfl⟩

/-! ## A request granted -/

theorem leg_of_silent (same : t.silent = u.silent) (l : LegId) : t.leg l = u.leg l :=
  show t.silent.leg l = u.silent.leg l by rw [same]

theorem patch_of_silent (same : t.silent = u.silent) (p : PatchId) : t.patch p = u.patch p :=
  show t.silent.patch p = u.silent.patch p by rw [same]

theorem entry_of_silent (same : t.silent = u.silent) (e : EntryId) : t.entry e = u.entry e :=
  show t.silent.entry e = u.silent.entry e by rw [same]

/-- A request row whose taking is a reply on a state in which only notices moved on the link: it runs to that state but
for its reply path, with the reply behind those that wait. -/
theorem granted_run {i : Instr} {h : Header} {k : Kind} {take : State → State} {results : List Byte}
    (ready : s.Ready h) (row : taking i = some (h, k, take)) (takes : take s = u.grantReply h k results)
    (noticed : Noticed s.link u.link) : ∃ t, exec i s = .next t ∧
      t.replies = s.replies ++ replyTo h k.code (Result.ok.code :: results) ∧ t.silent = u.silent := by
  obtain ⟨t, run, same, replies⟩ :=
    row_grants ready row takes ((inProgress_of_noticed noticed).trans (Ready.idle ready))
  have still : u.replies = s.replies :=
    show u.link.quiet.sending.toList ++ u.link.quiet.waiting = _ by rw [noticed.quiet] <;> rfl
  exact ⟨t, run, replies.trans (by rw [still]), same⟩

/-! ## SETLEG -/

theorem evaluate_eq (l : LegId) :
    s.evaluate l = s.modLeg l fun x => if x.park.parked || x.masked l then x else x.follow (x.condition l) := by
  cases held : (s.leg l).park.parked || (s.leg l).masked l with
  | true =>
    rw [evaluate_of_held (by simpa using held)]
    refine (modLeg_eq_self ?_).symm
    exact if_pos held
  | false =>
    obtain ⟨free, unmasked⟩ := Bool.or_eq_false_iff.mp held
    rw [evaluate_of_evaluated free unmasked]
    exact modLeg_congr (if_neg (by simp [held])).symm

theorem evaluateAux_eq (l : LegId) :
    s.evaluateAux l = s.modLeg l fun x => if l.val < 16 ∧ x.park.parked = false then x.followAux else x := by
  unfold State.evaluateAux
  by_cases evaluated : l.val < 16 ∧ (s.leg l).park.parked = false
  · obtain ⟨radio, free⟩ := evaluated
    rw [if_pos (by simp [(isRadio_iff l).mpr radio, free])]
    exact modLeg_congr (if_pos ⟨radio, free⟩).symm
  · rw [if_neg (by simpa [isRadio_iff] using evaluated)]
    exact (modLeg_eq_self (if_neg evaluated)).symm

/-- A leg with a configuration written, its inputs evaluated (R11, R19, R21, R24). -/
def Leg.reconfigured (l : LegId) (c : LegConfig) (x : Leg) : Leg :=
  let y : Leg := { x with config := c }
  let y : Leg := if c.auxFunction = .confirm then y else { y with tx := { y.tx with confirm := .off } }
  let z := if y.park.parked || y.masked l then y else y.follow (y.condition l)
  if l.val < 16 ∧ z.park.parked = false then z.followAux else z

theorem configured_eq (c : LegConfig) (x : Leg) : x.configured c =
    if c.auxFunction = .confirm then { x with config := c }
    else { x with config := c, tx := { x.tx with confirm := .off } } := by
  unfold Leg.configured
  split <;> rfl

theorem writeConfig_eq (l : LegId) (a : SetLegArgs) : writeConfig l a s =
    let u := s.modLeg l (Leg.reconfigured l (configOf l a))
    if hasOption a.options 0 then u.clearFault l else u := by
  have written : ((s.modLeg l (Leg.configured (configOf l a))).evaluate l).evaluateAux l =
      s.modLeg l (Leg.reconfigured l (configOf l a)) := by
    rw [evaluate_eq, evaluateAux_eq, modLeg_modLeg, modLeg_modLeg]
    refine modLeg_congr ?_
    rw [configured_eq] <;> rfl
  unfold writeConfig
  rw [written]

theorem clearFault_of_sound {l : LegId} (sound : (s.leg l).tx.state ≠ .fault) : s.clearFault l = s := by
  unfold State.clearFault
  split
  next fault => exact absurd fault sound
  all_goals rfl

theorem followAux_fields (x : Leg) : x.followAux.tx = x.tx ∧ x.followAux.config = x.config ∧
    x.followAux.binding = x.binding ∧ x.followAux.membership = x.membership ∧ x.followAux.demand = x.demand := by
  unfold Leg.followAux
  dsimp only
  split
  · exact ⟨rfl, rfl, rfl, rfl, rfl⟩
  · split <;> exact ⟨rfl, rfl, rfl, rfl, rfl⟩

theorem reconfigured_fields (l : LegId) (c : LegConfig) (x : Leg) : (x.reconfigured l c).tx.state = x.tx.state ∧
    (x.reconfigured l c).config = c ∧ (x.reconfigured l c).binding = x.binding ∧
    (x.reconfigured l c).membership = x.membership ∧ (x.reconfigured l c).demand = x.demand := by
  unfold Leg.reconfigured
  dsimp only
  repeat' split
  all_goals simp only [followAux_fields, follow_rx, and_self]

/-- SETLEG taken past its checks (R24). -/
theorem takeSetLeg_of_inRange {h : Header} {a : SetLegArgs} {l : LegId} (named : a.leg.toNat = l.val)
    (inRange : ArgumentsInRange (.setLeg h a))
    (mode : (s.leg l).membership = none ∨ inputModeOf a.inputMode = (s.leg l).config.inputMode) :
    takeSetLeg h a s = (writeConfig l a s).grantReply h .setLeg [] := by
  rw [takeSetLeg, legOf_eq_some_iff.mpr named, (fieldsInRange_iff h a inRange.1).mpr inRange]
  refine if_neg ?_
  simp only [Leg.isMember, Bool.and_eq_true, bne_iff_ne, ne_eq, not_and, Decidable.not_not]
  obtain free | same := mode
  · simp [free]
  · exact fun _ => same

theorem takeSetLeg_of_member {h : Header} {a : SetLegArgs} {l : LegId} (named : a.leg.toNat = l.val)
    (inRange : ArgumentsInRange (.setLeg h a)) (member : (s.leg l).membership.isSome = true)
    (other : inputModeOf a.inputMode ≠ (s.leg l).config.inputMode) :
    takeSetLeg h a s = s.refuse h .setLeg .member := by
  rw [takeSetLeg, legOf_eq_some_iff.mpr named, (fieldsInRange_iff h a inRange.1).mpr inRange]
  exact if_pos (by simp [Leg.isMember, member, other])

theorem configOf_eq (l : LegId) (a : SetLegArgs) : configOf l a =
    if l.val < 16 then
      { inputMode := if a.inputMode = 0 then .line else if a.inputMode = 1 then .vox else .both
        carrierLow := a.carrierPolarity = 1, rise := a.rise.toNat, drop := a.drop.toNat, vox := a.vox.toInt
        auxFunction := if a.auxFunction = 0 then .off else if a.auxFunction = 1 then .emergency else .confirm
        auxLow := a.auxPolarity = 1, window := a.window.toNat
        mask := { carrier := a.mask.getLsbD 0, aux := a.mask.getLsbD 1, transmit := a.mask.getLsbD 2 } }
    else
      { inputMode := .line, carrierLow := a.carrierPolarity = 1, rise := a.rise.toNat, drop := a.drop.toNat
        vox := -30, auxFunction := .off, auxLow := false, window := 250
        mask := { carrier := a.mask.getLsbD 0, aux := a.mask.getLsbD 1, transmit := a.mask.getLsbD 2 } } := by
  simp only [configOf, isRadio_iff]
  rfl

/-- Settles O15. -/
theorem setLegWritesTheConfiguration : Obligations.SetLegWritesTheConfiguration := by
  refine ⟨fun h a l s ready named inRange mode sound => ?written, fun h a l s ready named inRange member other =>
    row_refuses ready rfl (takeSetLeg_of_member named inRange member other)⟩
  case written =>
    have writes : writeConfig l a s = s.modLeg l (Leg.reconfigured l (configOf l a)) := by
      rw [writeConfig_eq]
      dsimp only
      obtain sound | kept := sound
      · rw [clearFault_of_sound (by rw [leg_modLeg_same, (reconfigured_fields l _ _).1]; exact sound), ite_self]
      · rw [kept] <;> rfl
    have takes := takeSetLeg_of_inRange named inRange mode (s := s)
    rw [writes, configOf_eq] at takes
    have done := row_grants (i := .setLeg h a) ready rfl takes (Ready.idle ready)
    exact done

/-- Settles O16. -/
theorem clearFaultLeavesTheFault : Obligations.ClearFaultLeavesTheFault := by
  intro h a l s ready named radio inRange mode fault clear
  have takes := takeSetLeg_of_inRange named inRange mode (s := s)
  rw [writeConfig_eq, if_pos clear] at takes
  obtain ⟨state, config, binding, membership, demand⟩ := reconfigured_fields l (configOf l a) (s.leg l)
  have faulty : ((s.modLeg l (Leg.reconfigured l (configOf l a))).leg l).tx.state = .fault := by
    rw [leg_modLeg_same, state, fault]
  have legs := clearFault_leg radio faulty
  have here := (legs l).trans (if_pos rfl)
  rw [leg_modLeg_same] at here
  obtain ⟨tx, kept, -, fixed⟩ := resumed_fields ((s.leg l).reconfigured l (configOf l a))
  rw [← here] at tx kept fixed
  have calm := calm_clearFault (s := s.modLeg l (Leg.reconfigured l (configOf l a))) l
  obtain ⟨t, run, replies, same⟩ := granted_run (i := .setLeg h a) ready rfl takes calm.link
  have leg := leg_of_silent same
  have patch := patch_of_silent same
  have txState : (t.leg l).tx.state = (if (s.leg l).demand = false then .off
      else if (s.leg l).binding.elim 0 Binding.keyLead = 0 then .on else .lead) := by
    rw [leg l, tx, demand, ← binding]
    cases (s.leg l).demand <;> rfl
  refine ⟨t, run, replies, ?_, ?_, ?_, ?_, txState, fun m other => ?_, ?_, ?_, ?_, fun p => ?_⟩
  · exact (congrArg Leg.config (leg l)).trans ((congrArg Leg.config fixed).trans config)
  · exact (congrArg Leg.binding (leg l)).trans ((congrArg Leg.binding fixed).trans binding)
  · exact (congrArg Leg.membership (leg l)).trans ((congrArg Leg.membership fixed).trans membership)
  · exact (congrArg Leg.demand (leg l)).trans (kept.trans demand)
  · exact (leg m).trans ((legs m).trans ((if_neg other).trans (leg_modLeg_ne s _ other)))
  · exact (congrArg State.directory same).trans calm.directory
  · exact (congrArg State.routes same).trans (clearFault_routes _ l)
  · exact (congrArg State.clips same).trans calm.clips
  · exact ⟨(congrArg Patch.fixed (patch p)).trans (calm.patches p).1,
      (congrArg Patch.chain (patch p)).trans (calm.patches p).2⟩

end Sys2Proof.Machine

/-! SUPPORT. PARK and UNPARK (R22, R23), and the aux input (R19, R20). -/

namespace Sys2Proof.Machine

variable {s t u : State} {h : Header}

/-! ## PARK and UNPARK -/

theorem takePark_of_member {leg : Byte} {l : LegId} (named : leg.toNat = l.val)
    (member : (s.leg l).membership.isSome = true) : takePark h leg s = s.refuse h .park .member := by
  rw [takePark, legOf_eq_some_iff.mpr named]
  exact if_pos member

theorem takePark_of_free {leg : Byte} {l : LegId} (named : leg.toNat = l.val) (free : (s.leg l).membership = none) :
    takePark h leg s = if (s.leg l).park.parked then s.grantReply h .park [] else (parkLeg l s).grantReply h .park [] := by
  rw [takePark, legOf_eq_some_iff.mpr named]
  exact if_neg (by simp [Leg.isMember, free])

/-- PARK on a leg that is no member: the record, and LOCKOUT_END for a lockout it ends (R22). -/
theorem parkLeg_eq {l : LegId} (free : (s.leg l).membership = none) : parkLeg l s =
    let u := s.modLeg l fun x =>
      { x.parkedAt with flags := { x.flags with transmit := x.flags.transmit || x.tx.state = .lockout } }
    if (s.leg l).tx.state = .lockout ∧ (s.leg l).config.mask.transmit = true then
      u.offer (.transmit .lockoutEnd) (some l) none
    else u := by
  have quietly (other : (s.leg l).tx.state ≠ .lockout) : s.modLeg l Leg.parkedAt =
      let u := s.modLeg l fun x =>
        { x.parkedAt with flags := { x.flags with transmit := x.flags.transmit || x.tx.state = .lockout } }
      if (s.leg l).tx.state = .lockout ∧ (s.leg l).config.mask.transmit = true then
        u.offer (.transmit .lockoutEnd) (some l) none
      else u := by
    dsimp only
    rw [if_neg fun both => other both.1]
    exact modLeg_congr (by simp only [other, decide_false, Bool.or_false] <;> rfl)
  unfold parkLeg
  dsimp only
  split
  next lockout =>
    rw [State.flagTransmit, modLeg_modLeg, offerMasked_transmit, leg_modLeg_same,
      modLeg_congr (s := s) (f := fun x => { x.parkedAt with flags := { x.parkedAt.flags with transmit := true } })
        (g := fun x =>
          { x.parkedAt with flags := { x.flags with transmit := x.flags.transmit || x.tx.state = .lockout } })
        (by simp only [lockout, decide_true, Bool.or_true] <;> rfl),
      show ({ (s.leg l).parkedAt with flags := { (s.leg l).parkedAt.flags with transmit := true } } : Leg).membership =
        none from free]
    exact if_congr (and_iff_right lockout).symm rfl rfl
  all_goals next other => exact quietly (by rw [other]; nofun)

theorem takeUnpark_of_leg {leg : Byte} {l : LegId} (named : leg.toNat = l.val) : takeUnpark h leg s =
    (if (s.leg l).park.parked then unparkLeg l s else s).grantReply h .unpark [] := by
  rw [takeUnpark, legOf_eq_some_iff.mpr named]

/-- A leg that is parked no more, its inputs compared with the latch (R23). -/
def Leg.unparked (l : LegId) (x : Leg) : Leg :=
  let y : Leg := { x with park := { x.park with parked := false } }
  let z := if y.masked l then y else y.follow (y.condition l)
  if l.val < 16 then z.followAux else z

theorem follow_park (present : Bool) (x : Leg) : (x.follow present).park = x.park := by rw [follow_rx]

theorem unparkLeg_eq (l : LegId) : unparkLeg l s = s.modLeg l (Leg.unparked l) := by
  unfold unparkLeg
  rw [evaluate_eq, evaluateAux_eq, modLeg_modLeg, modLeg_modLeg]
  refine modLeg_congr ?_
  unfold Leg.unparked
  dsimp only
  simp only [Bool.false_or]
  refine if_congr (and_iff_left ?_) rfl rfl
  split
  · rfl
  · rw [follow_park]

/-- The aux qualification of a leg under its live input: only the phases change (R19). -/
theorem followAux_eq (x : Leg) : x.followAux = { x with aux :=
    if x.auxLive = x.aux.active then { active := x.aux.active }
    else if x.aux.active then
      { active := true, riseTimer := none, dropTimer := some (x.aux.dropTimer.getD x.config.drop) }
    else { active := false, riseTimer := some (x.aux.riseTimer.getD x.config.rise), dropTimer := none } } := by
  unfold Leg.followAux
  dsimp only
  cases live : x.auxLive <;> cases active : x.aux.active <;> simp

/-- The receive machine of a leg out of a latch that held it still, under its condition (R23). -/
theorem follow_latched {x : Leg} {st : RxState} (rx : x.rx = { state := st }) (notRising : st ≠ .rising)
    (notFalling : st ≠ .falling) (present : Bool) : x.follow present = { x with
      rx := match (generalizing := false) st, present with
        | .idle, true => { state := .rising, riseTimer := some x.config.rise }
        | .active, false => { state := .falling, dropTimer := some x.config.drop }
        | .barred, false => { state := .barred, barTimer := some x.config.drop }
        | _, _ => { state := st } } := by
  rw [follow_rx, rx]
  cases st with
  | rising => exact absurd rfl notRising
  | falling => exact absurd rfl notFalling
  | idle | active | barred => cases present <;> rfl

/-- The aux state of a leg out of its latch, under the live input (R23). -/
theorem followAux_latched {x : Leg} {a : Bool} (aux : x.aux = { active := a }) : x.followAux = { x with
    aux :=
      if x.auxLive ≠ a then
        if x.auxLive then { active := a, riseTimer := some x.config.rise }
        else { active := a, dropTimer := some x.config.drop }
      else { active := a } } := by
  rw [followAux_eq, aux]
  cases x.auxLive <;> cases a <;> rfl

/-- The record of a leg unparked out of a latch that held its machines still (R23). -/
theorem unparked_eq {l : LegId} {x : Leg} {st : RxState} {a : Bool} (notRising : st ≠ .rising)
    (notFalling : st ≠ .falling) (rx : x.rx = { state := st }) (aux : x.aux = { active := a })
    (released : x.tx.state.keyAsserted = false) : x.unparked l = { x with
      park := { x.park with parked := false }
      rx := match (generalizing := false) st, x.condition l with
        | .idle, true => { state := .rising, riseTimer := some x.config.rise }
        | .active, false => { state := .falling, dropTimer := some x.config.drop }
        | .barred, false => { state := .barred, barTimer := some x.config.drop }
        | _, _ => { state := st }
      aux :=
        if l.val < 16 ∧ x.auxLive ≠ a then
          if x.auxLive then { active := a, riseTimer := some x.config.rise }
          else { active := a, dropTimer := some x.config.drop }
        else { active := a } } := by
  have unmasked : ({ x with park := { x.park with parked := false } } : Leg).masked l = false := by
    simp [Leg.masked, released]
  have still : ({ x with park := { x.park with parked := false } } : Leg).condition l = x.condition l := rfl
  unfold Leg.unparked
  dsimp only
  rw [unmasked, still, if_neg Bool.false_ne_true,
    follow_latched (x := { x with park := { x.park with parked := false } }) rx notRising notFalling]
  by_cases radio : l.val < 16
  · rw [if_pos radio, followAux_latched (a := a)]
    · simp only [radio, true_and]
      rfl
    · exact aux
  · rw [if_neg radio]
    simp only [radio, false_and, if_false]
    rw [← aux]

/-- Settles O17. -/
theorem parkLatchesAndUnparkCompares : Obligations.ParkLatchesAndUnparkCompares := by
  refine ⟨fun h leg l s ready named => ⟨fun member => row_refuses ready rfl (takePark_of_member named member),
    fun free parked => ?again, fun free parked => ?park⟩, fun h leg l s ready named => ⟨fun parked => ?free,
    fun st a parked notRising notFalling rx aux tx => ?unpark⟩⟩
  case again =>
    have takes := takePark_of_free (h := h) named free
    rw [if_pos parked] at takes
    exact row_grants ready rfl takes (Ready.idle ready)
  case park =>
    have takes := takePark_of_free (h := h) named free
    rw [if_neg (by simp [parked]), parkLeg_eq free] at takes
    refine ⟨_, row_grants ready rfl takes ?_, ?_⟩
    · dsimp only
      split
      · exact (inProgress_of_noticed (noticed_offer _ _ _)).trans (Ready.idle ready)
      · exact Ready.idle ready
    · rfl
  case free =>
    have takes := takeUnpark_of_leg (h := h) named (s := s)
    rw [if_neg (by simp [parked])] at takes
    exact row_grants ready rfl takes (Ready.idle ready)
  case unpark =>
    have takes := takeUnpark_of_leg (h := h) named (s := s)
    rw [if_pos parked, unparkLeg_eq] at takes
    have done := row_grants (i := .unpark h leg) ready rfl takes (Ready.idle ready)
    have released : (s.leg l).tx.state.keyAsserted = false := by
      obtain off | fault := tx <;> simp [TxState.keyAsserted, *]
    refine Eq.mp (congrArg (Completes _ s h _ _) (modLeg_congr ?_)) done
    exact unparked_eq notRising notFalling rx aux released

/-! ## The aux input -/

/-- The aux input of a leg qualified: the state, and under EMERGENCY or CONFIRM the flag and the notice (R19). -/
def auxQualified (s : State) (l : LegId) (e : Edge) : State :=
  let u := s.modLeg l fun x =>
    { x with
      aux := { active := e = .rose }
      flags := if x.config.auxFunction = .off then x.flags else { x.flags with aux := true } }
  if (s.leg l).config.auxFunction ≠ .off ∧ (s.leg l).config.mask.aux = true then
    u.offer (.aux e ((s.leg l).inputs.auxHigh != (s.leg l).config.auxLow)) (some l) (s.leg l).membership
  else u

theorem auxEdge_eq (l : LegId) (e : Edge) :
    (s.modLeg l fun x => { x with aux := { active := e = .rose } }).auxEdge l e = auxQualified s l e := by
  unfold State.auxEdge auxQualified
  rw [leg_modLeg_same]
  dsimp only
  have flagged (on : (s.leg l).config.auxFunction ≠ .off) :
      ((s.modLeg l fun x => { x with aux := { active := e = .rose } }).flagAux l) = s.modLeg l fun x =>
        { x with
          aux := { active := e = .rose }
          flags := if x.config.auxFunction = .off then x.flags else { x.flags with aux := true } } := by
    rw [State.flagAux, modLeg_modLeg]
    exact modLeg_congr (by rw [if_neg on])
  split
  next off =>
    rw [if_neg fun both => both.1 off]
    exact modLeg_congr (by rw [if_pos off])
  all_goals
    next on =>
      have working : (s.leg l).config.auxFunction ≠ .off := by rw [on]; nofun
      rw [flagged working, offerMasked_aux, leg_modLeg_same]
      exact if_congr (and_iff_right working).symm rfl rfl

theorem leg_auxQualified (l : LegId) (e : Edge) : (auxQualified s l e).leg l =
    { s.leg l with
      aux := { active := e = .rose }
      flags := if (s.leg l).config.auxFunction = .off then (s.leg l).flags else { (s.leg l).flags with aux := true } } := by
  unfold auxQualified
  dsimp only
  split <;> simp

/-- What a phase begun left in the record is gone once it qualifies. -/
theorem auxQualified_modLeg (l : LegId) (e : Edge) (a : Leg → Aux) :
    auxQualified (s.modLeg l fun x => { x with aux := a x }) l e = auxQualified s l e := by
  unfold auxQualified
  rw [leg_modLeg_same, modLeg_modLeg]

/-- A rise of the aux input, with the emergency it may set (R19, R20). -/
theorem auxRose_eq (l : LegId) : s.auxRose l =
    if (s.leg l).config.auxFunction = .emergency ∧ (s.leg l).emergency = none then
      (((auxQualified s l .rose).modLeg l fun x => { x with emergency := some .aux }).offer (.emergency true .aux)
        (some l) (s.leg l).membership).emergencyChange l
    else auxQualified s l .rose := by
  have rise : (s.modLeg l fun x => { x with aux := { active := true } }).auxEdge l .rose = auxQualified s l .rose :=
    auxEdge_eq l .rose
  unfold State.auxRose State.emergencyRise State.setEmergency State.offerLeg
  rw [rise, leg_auxQualified, leg_modLeg_same, leg_auxQualified]

/-- A fall of the aux input, with the confirm failure of a leg that is watched (R17, R19). -/
theorem auxFell_eq (l : LegId) : s.auxFell l =
    if (s.leg l).tx.state = .on ∧ (s.leg l).tx.confirm = .passed then (auxQualified s l .fell).confirmFailure l
    else auxQualified s l .fell := by
  have fall : (s.modLeg l fun x => { x with aux := { active := false } }).auxEdge l .fell = auxQualified s l .fell :=
    auxEdge_eq l .fell
  unfold State.auxFell Leg.watched
  dsimp only
  rw [fall, leg_auxQualified]
  exact if_congr (by simp) rfl rfl

theorem auxRose_modLeg (l : LegId) (a : Leg → Aux) : (s.modLeg l fun x => { x with aux := a x }).auxRose l = s.auxRose l := by
  rw [auxRose_eq, auxRose_eq, auxQualified_modLeg, leg_modLeg_same]

theorem auxFell_modLeg (l : LegId) (a : Leg → Aux) : (s.modLeg l fun x => { x with aux := a x }).auxFell l = s.auxFell l := by
  rw [auxFell_eq, auxFell_eq, auxQualified_modLeg, leg_modLeg_same]

/-- The aux state of a leg under its live input (R19). -/
def Leg.auxFollowed (x : Leg) : Aux :=
  if x.auxLive = x.aux.active then { active := x.aux.active }
  else if x.aux.active then
    { active := true, riseTimer := none, dropTimer := some (x.aux.dropTimer.getD x.config.drop) }
  else { active := false, riseTimer := some (x.aux.riseTimer.getD x.config.rise), dropTimer := none }

theorem auxRises_iff (x : Leg) : (x.aux.riseTimer = none ∧ x.auxFollowed.riseTimer = some 0) ↔
    x.auxLive = true ∧ x.aux.active = false ∧ x.aux.riseTimer = none ∧ x.config.rise = 0 := by
  unfold Leg.auxFollowed
  cases x.auxLive <;> cases x.aux.active <;> simp
  exact fun still => by simp [still]

theorem auxFalls_iff (x : Leg) : (x.aux.dropTimer = none ∧ x.auxFollowed.dropTimer = some 0) ↔
    x.auxLive = false ∧ x.aux.active = true ∧ x.aux.dropTimer = none ∧ x.config.drop = 0 := by
  unfold Leg.auxFollowed
  cases x.auxLive <;> cases x.aux.active <;> simp
  exact fun still => by simp [still]

/-- The aux event of a leg whose input is evaluated (R6, R7, R19). -/
theorem auxEvent_eq {l : LegId} (radio : l.val < 16) (free : (s.leg l).park.parked = false) : s.auxEvent l =
    if (s.leg l).auxLive = true ∧ (s.leg l).aux.active = false ∧ (s.leg l).aux.riseTimer = none ∧
      (s.leg l).config.rise = 0 then s.auxRose l
    else if (s.leg l).auxLive = false ∧ (s.leg l).aux.active = true ∧ (s.leg l).aux.dropTimer = none ∧
      (s.leg l).config.drop = 0 then s.auxFell l
    else s.modLeg l fun x => { x with aux := x.auxFollowed } := by
  have taken : s.evaluateAux l = s.modLeg l fun x => { x with aux := x.auxFollowed } := by
    rw [evaluateAux_eq]
    exact modLeg_congr ((if_pos ⟨radio, free⟩).trans (followAux_eq _))
  unfold State.auxEvent
  dsimp only
  rw [taken, leg_modLeg_same, auxRose_modLeg, auxFell_modLeg]
  exact if_congr (auxRises_iff _) rfl (if_congr (auxFalls_iff _) rfl rfl)

theorem auxEvent_of_parked {l : LegId} (parked : (s.leg l).park.parked = true) : s.auxEvent l = s := by
  have taken : s.evaluateAux l = s := by
    rw [evaluateAux_eq]
    refine modLeg_eq_self ?_
    exact if_neg (by simp [parked])
  unfold State.auxEvent
  dsimp only
  have still (timer : Option Nat) : ¬ (timer = none ∧ timer = some 0) := fun ⟨stopped, runs⟩ => by
    rw [stopped] at runs
    exact nomatch runs
  rw [taken, if_neg (still _), if_neg (still _)]

/-- Settles O21. -/
theorem auxInputIsQualified : Obligations.AuxInputIsQualified := by
  unfold Obligations.AuxInputIsQualified
  intro edge rose fell
  have rises (s : State) (l : LegId) : s.auxRose l = rose s l := auxRose_eq l
  have falls (s : State) (l : LegId) : s.auxFell l = fell s l := auxFell_eq l
  refine ⟨fun r high s settled free => ?change, fun r high s settled parked => ?parked, fun r s settled timer => ?rise,
    fun r s settled timer => ?drop⟩
  case change =>
    intro l x live u risesAtOnce fallsAtOnce
    have event : exec (.auxInputChange r high) s = .next (u.auxEvent l) :=
      exec_of_settled settled (f := fun s =>
        (s.modLeg l fun x => { x with inputs := { x.inputs with auxHigh := high } }).auxEvent l) rfl
    have record : u.leg l = { s.leg l with inputs := { (s.leg l).inputs with auxHigh := high } } := leg_modLeg_same ..
    have taken := auxEvent_eq (s := u) (l := l) r.isLt (by rw [record]; exact free)
    rw [record] at taken
    refine ⟨fun atOnce => ?_, fun atOnce => ?_, fun notRise notFall => ?_⟩
    · rw [event, taken, ← rises]
      exact congrArg _ (if_pos atOnce)
    · rw [event, taken, ← falls]
      have notRise : ¬ risesAtOnce := fun both => nomatch both.1.symm.trans atOnce.1
      exact congrArg _ ((if_neg notRise).trans (if_pos atOnce))
    · rw [event, taken]
      refine congrArg _ ((if_neg notRise).trans ((if_neg notFall).trans (modLeg_congr ?_)))
      rw [record] <;> rfl
  case parked =>
    have event := exec_of_settled settled (i := .auxInputChange r high) rfl
    rw [event, auxEvent_of_parked (by rw [leg_modLeg_same]; exact parked)]
  case rise =>
    have takes : takeAuxRise (radioLeg r) s = s.auxRose (radioLeg r) := if_pos (by rw [timer]; rfl)
    rw [exec_of_settled settled rfl, takes, rises]
  case drop =>
    have takes : takeAuxDrop (radioLeg r) s = s.auxFell (radioLeg r) := if_pos (by rw [timer]; rfl)
    rw [exec_of_settled settled rfl, takes, falls]

end Sys2Proof.Machine

/-! SUPPORT. Bindings written and cleared (R10, R35, R42): BIND (R39–R41) and UNBIND (R42). -/

namespace Sys2Proof.Machine

variable {s t u : State} {h : Header}

/-! ## A binding written -/

/-- A change of the record of a leg that is no member, with the masking it begins or ends, written out. -/
theorem maskedChange_cases (l : LegId) (f : Leg → Leg) : s.maskedChange l f =
    if (s.leg l).masked l = false ∧ (f (s.leg l)).masked l = true then (s.modLeg l f).startMasking l
    else if (s.leg l).masked l = true ∧ (f (s.leg l)).masked l = false then
      s.modLeg l fun x => if (f x).park.parked then f x else (f x).follow ((f x).condition l)
    else s.modLeg l f := by
  cases was : (s.leg l).masked l <;> cases now : (f (s.leg l)).masked l
  case false.true => rw [maskedChange_begins was now] <;> rfl
  case true.false => rw [maskedChange_ends was now] <;> rfl
  all_goals exact maskedChange_same (now.trans was.symm)

/-- The receive machine and the flags of a leg are all that masking changes in it. -/
def Leg.unheard (x : Leg) : Leg := { x with rx := {}, flags := {} }

theorem beginMask_unheard (x : Leg) : x.beginMask.unheard = x.unheard := by
  unfold Leg.beginMask
  split <;> rfl

theorem follow_unheard (present : Bool) (x : Leg) : (x.follow present).unheard = x.unheard := by
  rw [follow_rx] <;> rfl

theorem maskedChange_unheard (l : LegId) (f : Leg → Leg) :
    ((s.maskedChange l f).leg l).unheard = (f (s.leg l)).unheard := by
  rw [maskedChange_cases]
  split
  · rw [startMasking_leg, if_pos rfl, beginMask_unheard, leg_modLeg_same]
  · split
    · rw [leg_modLeg_same]
      split
      · rfl
      · exact follow_unheard _ _
    · rw [leg_modLeg_same]

theorem maskedChange_leg_ne {l m : LegId} (f : Leg → Leg) (other : m ≠ l) : (s.maskedChange l f).leg m = s.leg m := by
  rw [maskedChange_cases]
  split
  · rw [startMasking_leg, if_neg other, leg_modLeg_ne _ _ other]
  · split
    · exact leg_modLeg_ne _ _ other
    · exact leg_modLeg_ne _ _ other

theorem startMasking_patches {l : LegId} (free : (s.leg l).membership = none) :
    (s.startMasking l).patches = s.patches := by
  cases qualified : (s.leg l).qualified with
  | false => rw [startMasking_of_unqualified qualified] <;> rfl
  | true =>
    rw [startMasking_of_qualified qualified, free]
    simp [carrierEdge]

theorem maskedChange_patches {l : LegId} {f : Leg → Leg} (free : (f (s.leg l)).membership = none) :
    (s.maskedChange l f).patches = s.patches := by
  rw [maskedChange_cases]
  split
  · exact startMasking_patches (by rw [leg_modLeg_same]; exact free)
  · split <;> rfl

theorem calm_writeBinding_link (l : LegId) (f : Leg → Leg) : Noticed s.link (s.maskedChange l f).link := by
  rw [maskedChange_cases]
  split
  · exact (calm_startMasking (s := s.modLeg l f) l).link
  · split <;> exact .refl _

/-- A request row whose reply lies on a masked change of a leg that is no member: what the state it runs to keeps. -/
theorem granted_maskedChange {i : Instr} {k : Kind} {take : State → State} {l : LegId} {f : Leg → Leg}
    (ready : s.Ready h) (row : taking i = some (h, k, take))
    (takes : take s = (s.maskedChange l f).grantReply h k []) (free : (f (s.leg l)).membership = none) :
    ∃ t, exec i s = .next t ∧ t.replies = s.replies ++ replyTo h k.code [Result.ok.code] ∧
      (t.leg l).unheard = (f (s.leg l)).unheard ∧ (∀ m, m ≠ l → t.leg m = s.leg m) ∧ t.directory = s.directory ∧
      t.patches = s.patches ∧ t.routes = s.routes ∧ t.clips = s.clips := by
  obtain ⟨t, run, replies, same⟩ := granted_run ready row takes (calm_writeBinding_link l f)
  refine ⟨t, run, replies, ?_, fun m other => ?_, ?_, ?_, ?_, ?_⟩
  · rw [leg_of_silent same, maskedChange_unheard]
  · rw [leg_of_silent same, maskedChange_leg_ne f other]
  · exact (show t.silent.directory = _ by rw [same] <;> rfl).trans (maskedChange_directory s l f)
  · exact (show t.silent.patches = _ by rw [same] <;> rfl).trans (maskedChange_patches free)
  · exact (show t.silent.routes = _ by rw [same] <;> rfl).trans (maskedChange_routes s l f)
  · exact (show t.silent.clips = _ by rw [same] <;> rfl).trans (maskedChange_clips s l f)

/-! ## BIND -/

section Bind

variable {a : BindArgs} {l : LegId} {n : AgencyId} (named : a.leg.toNat = l.val) (agency : a.agency.toNat = n.val)
  (inRange : ArgumentsInRange (.bind h a))
include named inRange

theorem bindFields_inRange : (decide (a.channel.toNat < 64) && priorityInRange a.priority) = true := by
  obtain ⟨-, -, channel, priority⟩ := inRange
  rw [Bool.and_eq_true, decide_eq_true_eq, priorityInRange_iff]
  exact ⟨by omega, priority⟩

include agency

theorem takeBind_of_member (member : (s.leg l).membership.isSome = true) :
    takeBind h a s = s.refuse h .bind .member := by
  rw [takeBind, legOf_eq_some_iff.mpr named, agencyOf_eq_some_iff.mpr agency, bindFields_inRange named inRange]
  exact if_pos member

theorem takeBind_of_free (free : (s.leg l).membership = none) : takeBind h a s =
    if takesFastPath s l n a.channel.toNat (a.options.getLsbD 0) then bindFast h l (priorityOf a.priority) s
    else bindFull h l n a.channel.toNat (if a.options.getLsbD 1 then none else some a.expected)
      (priorityOf a.priority) s := by
  rw [takeBind, legOf_eq_some_iff.mpr named, agencyOf_eq_some_iff.mpr agency, bindFields_inRange named inRange]
  exact if_neg (by simp [free])

end Bind

theorem takesFastPath_iff (l : LegId) (n : AgencyId) (channel : Nat) (force : Bool) :
    takesFastPath s l n channel force = true ↔ force = false ∧ ∃ b, (s.leg l).binding = some b ∧ b.agency = n ∧
      b.channel = channel ∧ b.generation = (s.agency n).generation := by
  unfold takesFastPath
  cases (s.leg l).binding <;> simp [and_assoc]

theorem priorityOf_getD (b : Byte) (standard : Nat) :
    (priorityOf b).getD standard = if b = 255 then standard else b.toNat := by
  unfold priorityOf
  split <;> rfl

theorem priorityOf_above (b : Byte) (ceiling : Nat) :
    (priorityOf b).any (ceiling < ·) = true ↔ b ≠ 255 ∧ ceiling < b.toNat := by
  unfold priorityOf
  split
  next standard => exact ⟨nofun, fun both => absurd standard both.1⟩
  next given => exact ⟨fun above => ⟨given, of_decide_eq_true above⟩, fun both => decide_eq_true both.2⟩

/-- The fast path's answer (R40). -/
theorem bindFast_eq {l : LegId} {b : Binding} (bound : (s.leg l).binding = some b) (priority : Byte) :
    bindFast h l (priorityOf priority) s =
      if priority ≠ 255 ∧ b.ceiling < priority.toNat then s.refuse h .bind .priority
      else (s.modLeg l fun x => { x with binding := some { b with
        priority := if priority = 255 then b.defaultPriority else priority.toNat } }).grantReply h .bind [] := by
  unfold bindFast
  rw [bound]
  dsimp only
  rw [priorityOf_getD]
  exact if_congr (priorityOf_above ..) rfl rfl

section WriteBinding

variable {l : LegId} {b : Binding}

/-- A leg is masked by its keying and its binding's duplex flag (R10). -/
theorem masked_withBinding (x : Leg) : ({ x with binding := some b } : Leg).masked l =
    (decide (l.val < 16) && x.tx.state.keyAsserted && !b.duplex) := rfl

theorem masked_eq (x : Leg) : x.masked l =
    (decide (l.val < 16) && x.tx.state.keyAsserted && !(x.binding.any Binding.duplex)) := rfl

/-- A binding written that neither begins nor ends masking (R10). -/
theorem writeBinding_same (still : ¬ (l.val < 16 ∧ (s.leg l).tx.state.keyAsserted = true) ∨
    (s.leg l).binding.any Binding.duplex = b.duplex) :
    s.writeBinding l (some b) = s.modLeg l fun x => { x with binding := some b } := by
  refine maskedChange_same ?_
  rw [masked_withBinding, masked_eq]
  obtain released | same := still
  · rw [show (decide (l.val < 16) && (s.leg l).tx.state.keyAsserted) = false by
      rw [← Bool.not_eq_true, Bool.and_eq_true, decide_eq_true_eq]; exact released] <;> rfl
  · rw [same]

variable (key : l.val < 16 ∧ (s.leg l).tx.state.keyAsserted = true)
include key

theorem writeBinding_begins (duplex : (s.leg l).binding.any Binding.duplex = true) (simplex : b.duplex = false) :
    s.writeBinding l (some b) = (s.modLeg l fun x => { x with binding := some b }).startMasking l :=
  maskedChange_begins (by rw [masked_eq, duplex, Bool.not_true, Bool.and_false])
    (by rw [masked_withBinding, simplex, key.2, decide_eq_true key.1] <;> rfl)

theorem writeBinding_ends (simplex : (s.leg l).binding.any Binding.duplex = false) (duplex : b.duplex = true) :
    s.writeBinding l (some b) = (s.modLeg l fun x => { x with binding := some b }).modLeg l fun x =>
      if x.park.parked then x else x.follow (x.condition l) := by
  rw [modLeg_modLeg]
  exact maskedChange_ends (by rw [masked_eq, simplex, key.2, decide_eq_true key.1] <;> rfl)
    (by rw [masked_withBinding, duplex, Bool.not_true, Bool.and_false])

end WriteBinding

/-- Settles O28. -/
theorem bindTakesOneOfTwoPaths : Obligations.BindTakesOneOfTwoPaths := by
  refine ⟨fun h a l s ready named inRange => ⟨fun member => ?member, fun b free bound agency channel current plain => ?fast⟩,
    fun h a l n s ready named agency inRange free away => ?full⟩
  case member =>
    obtain ⟨n, agency⟩ : ∃ n : AgencyId, a.agency.toNat = n.val := ⟨⟨a.agency.toNat, by have := inRange.2.1; omega⟩, rfl⟩
    exact row_refuses ready rfl (takeBind_of_member named agency inRange member)
  case fast =>
    have path : takesFastPath s l b.agency a.channel.toNat (a.options.getLsbD 0) = true :=
      (takesFastPath_iff ..).mpr ⟨plain, b, bound, rfl, channel, current⟩
    have takes := takeBind_of_free named agency.symm inRange free
    rw [if_pos path, bindFast_eq bound] at takes
    refine ⟨fun above => ?_, fun allowed => ?_⟩
    · rw [if_pos above] at takes
      exact row_refuses ready rfl takes
    · have notAbove : ¬ (a.priority ≠ 255 ∧ b.ceiling < a.priority.toNat) := by
        rintro ⟨given, above⟩
        obtain standard | within := allowed
        · exact given standard
        · omega
      rw [if_neg notAbove] at takes
      exact row_grants ready rfl takes (Ready.idle ready)
  case full =>
    have path : ¬ takesFastPath s l n a.channel.toNat (a.options.getLsbD 0) = true := by
      rw [takesFastPath_iff]
      rintro ⟨plain, b, bound, same, channel, current⟩
      obtain forced | other := away
      · exact nomatch plain.symm.trans forced
      · obtain differs | differs | differs := other b bound
        · exact differs same
        · exact differs channel
        · exact differs current
    have takes := takeBind_of_free named agency inRange free
    rw [if_neg path, bindFull] at takes
    intro found
    refine ⟨fun r refused => ?refused, fun e entry => ?found⟩
    case refused =>
      have translates : s.translate n a.channel.toNat (if a.options.getLsbD 1 then none else some a.expected)
        (priorityOf a.priority) = .refused r := refused
      rw [translates] at takes
      exact row_refuses ready rfl takes
    case found =>
      have translates : s.translate n a.channel.toNat (if a.options.getLsbD 1 then none else some a.expected)
        (priorityOf a.priority) = .found e := entry
      rw [translates] at takes
      dsimp only at takes
      rw [priorityOf_getD] at takes
      obtain ⟨t, run, replies, unheard, others, directory, patches, routes, clips⟩ :=
        granted_maskedChange (i := .bind h a) ready rfl takes free
      have binding := congrArg Leg.binding unheard
      have unbound := congrArg (fun x : Leg => { x with binding := none }) unheard
      have tx := congrArg Leg.tx unheard
      refine ⟨t, run, replies, binding, tx, unbound, others, directory, patches, routes, clips, ?_⟩
      rw [show (t.leg l).binding = _ from binding]
      intro u keyed was
      refine ⟨fun still => ?_, fun key duplex simplex => ?_, fun key simplex duplex => ?_⟩
      · rw [writeBinding_same still] at takes
        exact row_grants ready rfl takes (Ready.idle ready)
      · rw [writeBinding_begins key duplex simplex] at takes
        exact row_grants ready rfl takes
          ((inProgress_of_noticed (calm_startMasking (s := u) l).link).trans (Ready.idle ready))
      · rw [writeBinding_ends key simplex duplex] at takes
        exact row_grants ready rfl takes (Ready.idle ready)

/-! ## UNBIND -/

theorem takeUnbind_of_member {leg : Byte} {l : LegId} (named : leg.toNat = l.val)
    (member : (s.leg l).membership.isSome = true) : takeUnbind h leg s = s.refuse h .unbind .member := by
  rw [takeUnbind, legOf_eq_some_iff.mpr named]
  exact if_pos member

theorem takeUnbind_of_free {leg : Byte} {l : LegId} (named : leg.toNat = l.val) (free : (s.leg l).membership = none) :
    takeUnbind h leg s = (unbindLeg l s).grantReply h .unbind [] := by
  rw [takeUnbind, legOf_eq_some_iff.mpr named]
  exact if_neg (by simp [free])

theorem dropFault_eq (x : Leg) :
    x.dropFault = if x.tx.state = .fault then { x with tx := x.tx.released .off none } else x := by
  unfold Leg.dropFault
  split
  next fault => rw [if_pos fault]
  all_goals next other => rw [if_neg (by rw [other]; nofun)]

theorem dropFault_fields (x : Leg) :
    x.dropFault.tx.state = (if x.tx.state = .fault then .off else x.tx.state) ∧
      (x.tx.state ≠ .fault → x.dropFault.tx = x.tx) ∧ x.dropFault.unheard.fixed = x.fixed := by
  rw [dropFault_eq]
  split
  next fault => exact ⟨rfl, fun sound => absurd fault sound, rfl⟩
  next sound => exact ⟨rfl, fun _ => rfl, rfl⟩

/-- The masking that a binding cleared begins (R10; log 35). -/
theorem unbindLeg_eq {l : LegId} (sound : (s.leg l).tx.state ≠ .fault) : unbindLeg l s =
    let u := s.modLeg l fun x => { x with binding := none }
    if l.val < 16 ∧ (s.leg l).tx.state.keyAsserted = true ∧ ((s.leg l).binding.any Binding.duplex) = true then
      u.startMasking l
    else u := by
  have plain : ({ s.leg l with binding := none } : Leg).dropFault = { s.leg l with binding := none } := by
    rw [dropFault_eq]
    exact if_neg sound
  have now : ({ s.leg l with binding := none } : Leg).dropFault.masked l = true ↔
      l.val < 16 ∧ (s.leg l).tx.state.keyAsserted = true := by
    rw [plain, masked_iff]
    simp [Leg.duplex]
  have before := masked_iff l (s.leg l)
  rw [duplex_eq] at before
  have noEnd : ¬ ((s.leg l).masked l = true ∧ ({ s.leg l with binding := none } : Leg).dropFault.masked l = false) := by
    rw [← Bool.not_eq_true, now, before]
    exact fun ⟨⟨radio, keyed, _⟩, stays⟩ => stays ⟨radio, keyed⟩
  have cleared : (s.modLeg l fun x => ({ x with binding := none } : Leg).dropFault) =
      s.modLeg l fun x => { x with binding := none } := modLeg_congr plain
  unfold unbindLeg
  dsimp only
  rw [maskedChange_cases, if_neg noEnd, cleared]
  refine if_congr ?_ rfl rfl
  rw [← Bool.not_eq_true, before, now]
  by_cases was : ((s.leg l).binding.any Binding.duplex) = true <;> simp [was]

/-- Settles O29. -/
theorem unbindClearsTheBinding : Obligations.UnbindClearsTheBinding := by
  refine fun h leg l s ready named => ⟨fun member => row_refuses ready rfl (takeUnbind_of_member named member),
    fun free => ?cleared, fun free sound => ?masking⟩
  case cleared =>
    have free' : ({ s.leg l with binding := none } : Leg).dropFault.membership = none := by
      rw [dropFault_eq]
      split <;> exact free
    obtain ⟨t, run, replies, unheard, others, directory, patches, routes, clips⟩ :=
      granted_maskedChange (i := .unbind h leg) ready rfl (takeUnbind_of_free named free) free'
    obtain ⟨txState, tx, fixed⟩ := dropFault_fields { s.leg l with binding := none }
    have kept := (congrArg Leg.fixed unheard).trans fixed
    have binding := congrArg Leg.binding kept
    have config := congrArg Leg.config kept
    have park := congrArg Leg.park kept
    have aux := congrArg Leg.aux kept
    have emergency := congrArg Leg.emergency kept
    exact ⟨t, run, replies, binding, (congrArg (·.tx.state) unheard).trans txState,
      fun sound => (congrArg Leg.tx unheard).trans (tx sound), config, park, aux, emergency, others, directory, patches,
      routes, clips⟩
  case masking =>
    have takes := takeUnbind_of_free (h := h) named free
    rw [unbindLeg_eq sound] at takes
    intro u keyedDuplex
    refine ⟨fun no => ?_, fun yes => ?_⟩
    · rw [if_neg no] at takes
      exact row_grants ready rfl takes (Ready.idle ready)
    · rw [if_pos yes] at takes
      exact row_grants ready rfl takes
        ((inProgress_of_noticed (calm_startMasking (s := u) l).link).trans (Ready.idle ready))

end Sys2Proof.Machine

/-! SUPPORT. The key demands of a patch's radio members (R86, R93), the grant (R85–R88) and the entry to IDLE (R93). -/

namespace Sys2Proof.Machine

variable {s t u : State}

/-! ## One key demand -/

/-- A radio leg with its key demand written (R12, R13, R16, R18). -/
def Leg.demanded (on : Bool) (x : Leg) : Leg :=
  if x.demand = on then x
  else
    let y : Leg := { x with demand := on }
    match on, x.tx.state with
    | true, .off => y.keyed
    | true, .tail => y.enterOn
    | false, .lead | false, .on => y.enterTail
    | _, _ => y

/-- Whether a key demand turned on withdraws the leg's claim from the queue of its patch, by masking (R10, R12). -/
def Leg.withdrawsBy (on : Bool) (x : Leg) : Bool :=
  on && !x.demand && x.tx.state = .off && !x.duplex && x.qualified

theorem setDemand_leg {l : LegId} (radio : l.val < 16) (on : Bool) (m : LegId) :
    (s.setDemand l on).leg m = if m = l then (s.leg l).demanded on else s.leg m := by
  unfold Leg.demanded
  by_cases same : (s.leg l).demand = on
  · rw [setDemand_same same, if_pos same]
    split
    next here => rw [here]
    next => rfl
  · rw [if_neg same]
    unfold State.setDemand
    dsimp only
    rw [if_neg same]
    cases on with
    | true =>
      cases state : (s.leg l).tx.state with
      | off =>
        dsimp only
        rw [enterLead_leg radio (by rw [leg_modLeg_same]; simp [state, TxState.keyAsserted]), leg_modLeg_same, leg_modLeg]
        split <;> rfl
      | tail =>
        dsimp only
        rw [modLeg_modLeg, leg_modLeg]
      | lead | on | lockout | fault => exact leg_modLeg ..
    | false =>
      cases state : (s.leg l).tx.state with
      | lead | on =>
        dsimp only
        rw [modLeg_modLeg, leg_modLeg]
      | off | tail | lockout | fault => exact leg_modLeg ..

theorem demanded_demand (on : Bool) (x : Leg) : (x.demanded on).demand = on := by
  unfold Leg.demanded
  split
  next same => exact same
  next =>
    dsimp only
    split
    · exact (keyed_fields _).2.1
    all_goals rfl

theorem setDemand_patch {l : LegId} (radio : l.val < 16) (on : Bool) (p : PatchId) :
    (s.setDemand l on).patch p =
      if (s.leg l).withdrawsBy on = true ∧ (s.leg l).membership = some p then
        { s.patch p with floor := { (s.patch p).floor with
          queue := (s.patch p).floor.queue.filter fun c => c.party ≠ .leg l } }
      else s.patch p := by
  unfold Leg.withdrawsBy
  by_cases same : (s.leg l).demand = on
  · rw [setDemand_same same]
    refine (if_neg ?_).symm
    rw [same]
    cases on <;> simp
  · cases on with
    | false =>
      rw [setDemand_off (by simpa using same), if_neg (by simp)]
      cases (s.leg l).tx.state <;> rfl
    | true =>
      have off : (s.leg l).demand = false := by simpa using same
      rw [setDemand_on radio off, off]
      cases state : (s.leg l).tx.state with
      | off =>
        dsimp only
        cases duplex : (s.leg l).duplex with
        | true => rw [if_pos rfl, if_neg (by simp)] <;> rfl
        | false =>
          rw [if_neg Bool.false_ne_true, startMasking_patch, leg_modLeg_same]
          exact if_congr (by simp [Leg.qualified]) rfl rfl
      | tail | lead | on | lockout | fault => exact (if_neg (by simp)).symm

/-! ## What key demands tell -/

/-- Between two states of the link nothing but CARRIER notices of falls was appended to the queue. -/
def FallsOnly (k m : Link) : Prop := ∃ ns, m.notices = k.notices ++ ns ∧ ∀ n ∈ ns, n.detail = .carrier .fell

theorem FallsOnly.refl (k : Link) : FallsOnly k k := ⟨[], by simp, by simp⟩

theorem FallsOnly.trans {k m n : Link} (first : FallsOnly k m) (second : FallsOnly m n) : FallsOnly k n := by
  obtain ⟨xs, grown, falls⟩ := first
  obtain ⟨ys, grows, fall⟩ := second
  refine ⟨xs ++ ys, by rw [grows, grown, List.append_assoc], fun n mem => ?_⟩
  exact (List.mem_append.mp mem).elim (falls n) (fall n)

theorem fallsOnly_offer (l : Option LegId) (p : Option PatchId) :
    FallsOnly s.link (s.offer (.carrier .fell) l p).link := by
  unfold State.offer
  split
  · exact ⟨[_], rfl, by simp⟩
  · exact ⟨[], by simp, by simp⟩

theorem fallsOnly_startMasking (l : LegId) : FallsOnly s.link (s.startMasking l).link := by
  cases qualified : (s.leg l).qualified with
  | false => rw [startMasking_of_unqualified qualified]; exact .refl _
  | true =>
    have edge : FallsOnly s.link (carrierEdge s l .fell).link := by
      rw [carrierEdge_eq]
      dsimp only
      split
      · exact fallsOnly_offer (s := s.modLeg l _) _ _
      · exact .refl _
    rw [startMasking_of_qualified qualified]
    split <;> exact edge

theorem fallsOnly_setDemand {l : LegId} (radio : l.val < 16) (on : Bool) : FallsOnly s.link (s.setDemand l on).link := by
  by_cases same : (s.leg l).demand = on
  · rw [setDemand_same same]
    exact .refl _
  · cases on with
    | false =>
      rw [setDemand_off (by simpa using same)]
      cases (s.leg l).tx.state <;> exact .refl _
    | true =>
      rw [setDemand_on radio (by simpa using same)]
      cases (s.leg l).tx.state with
      | off =>
        dsimp only
        split
        · exact .refl _
        · exact fallsOnly_startMasking (s := s.modLeg l _) l
      | tail | lead | on | lockout | fault => exact .refl _

theorem setDemand_off_link {l : LegId} : (s.setDemand l false).link = s.link := by
  by_cases off : (s.leg l).demand = false
  · rw [setDemand_same off]
  · rw [setDemand_off (by simpa using off)]
    cases (s.leg l).tx.state <;> rfl

/-! ## The key demands of a list of legs -/

/-- The key demands of the radio legs of a list written in turn. -/
def State.demandAll (s : State) (ms : List LegId) (on : LegId → Bool) : State :=
  ms.foldl (fun s l => if isRadio l then s.setDemand l (on l) else s) s

theorem demandAll_cons (l : LegId) (ms : List LegId) (on : LegId → Bool) :
    s.demandAll (l :: ms) on = (if isRadio l then s.setDemand l (on l) else s).demandAll ms on := rfl

theorem demandAll_leg (ms : List LegId) (on : LegId → Bool) (m : LegId) : (s.demandAll ms on).leg m =
    if m ∈ ms ∧ m.val < 16 then (s.leg m).demanded (on m) else s.leg m := by
  induction ms generalizing s with
  | nil => exact (if_neg (by simp)).symm
  | cons l ms ih =>
    rw [demandAll_cons]
    by_cases radio : l.val < 16
    · rw [if_pos ((isRadio_iff l).mpr radio), ih, setDemand_leg radio]
      by_cases here : m = l
      · subst here
        have again : ((s.leg m).demanded (on m)).demanded (on m) = (s.leg m).demanded (on m) :=
          if_pos (demanded_demand _ _)
        simp [radio, again]
      · simp [here]
    · rw [if_neg (by rw [isRadio_iff]; exact radio), ih]
      by_cases here : m = l
      · subst here
        simp [radio]
      · simp [here]

/-- Whether a key demand turned on takes a party's claim out of a patch's queue. -/
def withdrawn (s : State) (ms : List LegId) (on : LegId → Bool) (p : PatchId) : Party → Bool
  | .clip => false
  | .leg l => decide (l ∈ ms) && isRadio l && (s.leg l).withdrawsBy (on l) && (s.leg l).membership = some p

/-- A key demand that was written does not withdraw the leg's claim again. -/
theorem withdrawsBy_demanded (on : Bool) (x : Leg) : (x.demanded on).withdrawsBy on = false := by
  unfold Leg.withdrawsBy
  rw [demanded_demand]
  cases on <;> rfl

theorem withdrawn_setDemand {l : LegId} (radio : l.val < 16) (ms : List LegId) (on : LegId → Bool) (p : PatchId)
    (party : Party) : withdrawn (s.setDemand l (on l)) ms on p party =
      (withdrawn s ms on p party && decide (party ≠ .leg l)) := by
  cases party with
  | clip => rfl
  | leg m =>
    dsimp only [withdrawn]
    rw [setDemand_leg radio]
    by_cases here : m = l
    · subst here
      rw [if_pos rfl, withdrawsBy_demanded]
      simp
    · simp [here]

theorem withdrawn_cons (l : LegId) (ms : List LegId) (on : LegId → Bool) (p : PatchId) (party : Party) :
    withdrawn s (l :: ms) on p party = (withdrawn s ms on p party || decide (party = .leg l) && isRadio l &&
      (s.leg l).withdrawsBy (on l) && decide ((s.leg l).membership = some p)) := by
  cases party with
  | clip => simp [withdrawn]
  | leg m =>
    by_cases here : m = l
    · subst here
      by_cases mem : m ∈ ms <;> simp [withdrawn, mem]
    · simp [withdrawn, here]

theorem demandAll_patch (ms : List LegId) (on : LegId → Bool) (p : PatchId) : (s.demandAll ms on).patch p =
    { s.patch p with floor := { (s.patch p).floor with
      queue := (s.patch p).floor.queue.filter fun c => !withdrawn s ms on p c.party } } := by
  induction ms generalizing s with
  | nil =>
    have all : (s.patch p).floor.queue.filter (fun c => !withdrawn s [] on p c.party) = (s.patch p).floor.queue :=
      List.filter_eq_self.mpr fun c _ => by cases c.party <;> simp [withdrawn]
    rw [all] <;> rfl
  | cons l ms ih =>
    rw [demandAll_cons]
    by_cases radio : l.val < 16
    · have isRadio := (isRadio_iff l).mpr radio
      rw [if_pos isRadio, ih, setDemand_patch radio]
      by_cases withdraws : (s.leg l).withdrawsBy (on l) = true ∧ (s.leg l).membership = some p
      · rw [if_pos withdraws]
        simp only [List.filter_filter, withdrawn_setDemand radio, withdrawn_cons, isRadio, withdraws, decide_true,
          Bool.and_true]
        congr 2
        refine List.filter_congr fun c _ => ?_
        by_cases here : c.party = .leg l <;> simp [here]
      · have stays : ((s.leg l).withdrawsBy (on l) && decide ((s.leg l).membership = some p)) = false := by
          simpa using withdraws
        rw [if_neg withdraws]
        dsimp only
        congr 2
        refine List.filter_congr fun c _ => ?_
        rw [withdrawn_setDemand radio, withdrawn_cons, Bool.and_assoc (_ && _), stays, Bool.and_false, Bool.or_false]
        by_cases here : c.party = .leg l
        · have kept : withdrawn s ms on p (.leg l) = false := by
            dsimp only [withdrawn]
            rw [Bool.and_assoc (_ && _), stays, Bool.and_false]
          rw [here, kept, Bool.false_and]
        · rw [decide_eq_true here, Bool.and_true]
    · have console : isRadio l = false := by rw [← Bool.not_eq_true, isRadio_iff]; exact radio
      rw [console, if_neg Bool.false_ne_true, ih]
      simp only [withdrawn_cons, console, Bool.and_false, Bool.false_and, Bool.or_false]

theorem demandAll_falls (ms : List LegId) (on : LegId → Bool) : FallsOnly s.link (s.demandAll ms on).link := by
  induction ms generalizing s with
  | nil => exact .refl _
  | cons l ms ih =>
    rw [demandAll_cons]
    split
    next radio => exact (fallsOnly_setDemand ((isRadio_iff l).mp radio) _).trans ih
    next => exact ih

theorem demandAll_off_link (ms : List LegId) : (s.demandAll ms fun _ => false).link = s.link := by
  induction ms generalizing s with
  | nil => rfl
  | cons l ms ih =>
    rw [demandAll_cons, ih]
    split
    · exact setDemand_off_link
    · rfl

theorem demands_eq (p : PatchId) (on : LegId → Bool) : s.demands p on = s.demandAll (s.patch p).members on := rfl

/-! ## The grant -/

/-- What the report to the Clip Player leaves of a grant (R88). -/
theorem grant_fields (p : PatchId) (party : Party) (seized : Bool) (time : ClaimTime) :
    (s.grant p party seized time).link = (s.grantFloor p party seized time).link ∧
      (s.grant p party seized time).legs = (s.grantFloor p party seized time).legs ∧
      (s.grant p party seized time).patches = (s.grantFloor p party seized time).patches ∧
      (s.grant p party seized time).routes = (s.grantFloor p party seized time).routes := by
  cases party with
  | leg l => exact ⟨rfl, rfl, rfl, rfl⟩
  | clip => exact ⟨clipGranted_link _, clipGranted_legs _, clipGranted_patches _, clipGranted_routes _⟩

theorem grant_record (p : PatchId) (party : Party) (seized : Bool) (time : ClaimTime) (m : LegId) :
    (s.grant p party seized time).leg m =
      if m ∈ (s.patch p).members ∧ m.val < 16 then (s.leg m).demanded (party != .leg m) else s.leg m := by
  obtain ⟨-, legs, -, -⟩ := grant_fields (s := s) p party seized time
  rw [leg_of_legs legs, State.grantFloor, offerFloor_leg, retarget_leg, demands_eq, demandAll_leg, patch_modPatch_same]
  rfl

theorem grant_floor (p : PatchId) (party : Party) (seized : Bool) (time : ClaimTime) :
    ((s.grant p party seized time).patch p).floor =
      { (s.patch p).grantedFloor party seized s.now time with
        queue := ((s.patch p).floor.queue.filter fun c => c.party != party).filter fun c =>
          !withdrawn s (s.patch p).members (fun l => party != .leg l) p c.party } := by
  obtain ⟨-, -, patches, -⟩ := grant_fields (s := s) p party seized time
  rw [patch_of_patches patches, State.grantFloor, offerFloor_patch, retarget_patch, demands_eq, demandAll_patch,
    patch_modPatch_same]
  rfl

theorem grant_entry (p : PatchId) (party : Party) (seized : Bool) (time : ClaimTime) (e : EntryId) :
    (s.grant p party seized time).entry e =
      if ((s.entry e).state = .reserved ∨ (s.entry e).state = .active) ∧ (s.entry e).tag = some p ∧
          ((s.entry e).kind = some .member ∨ (s.entry e).kind = some .monitor) then
        { s.entry e with pendingSource := some party }
      else s.entry e := by
  obtain ⟨-, -, -, routes⟩ := grant_fields (s := s) p party seized time
  rw [State.entry, routes]
  change (s.grantFloor p party seized time).entry e = _
  rw [State.grantFloor, offerFloor_entry, retarget_entry, demands_entry] <;> rfl

/-- What a party's key demand withdraws at a grant to another, said of the leg's record (R10, R12, R86). -/
theorem withdrawn_grant_iff (p : PatchId) (party : Party) (l : LegId) :
    withdrawn s (s.patch p).members (fun l => party != .leg l) p (.leg l) = true ↔
      l ∈ (s.patch p).members ∧ l.val < 16 ∧ party ≠ .leg l ∧ (s.leg l).demand = false ∧ (s.leg l).tx.state = .off ∧
        (s.leg l).binding.any Binding.duplex = false ∧
        ((s.leg l).rx.state = .active ∨ (s.leg l).rx.state = .falling) ∧ (s.leg l).membership = some p := by
  dsimp only [withdrawn, Leg.withdrawsBy]
  simp only [Bool.and_eq_true, decide_eq_true_eq, Bool.not_eq_true', bne_iff_ne, isRadio_iff, qualified_iff, duplex_eq,
    and_assoc]

/-- The notice of a floor event. -/
def floorNotice (s : State) (p : PatchId) (event : FloorEvent) : Option Party → Notice
  | some (.leg l) => ⟨.floor event false, s.link.stamp, some l, some p⟩
  | some .clip => ⟨.floor event true, s.link.stamp, none, some p⟩
  | none => ⟨.floor event false, s.link.stamp, none, some p⟩

theorem offer_link (d : Detail) (l : Option LegId) (p : Option PatchId) : (s.offer d l p).link =
    if s.link.notices.length < 32 then { s.link with notices := s.link.notices ++ [⟨d, s.link.stamp, l, p⟩] }
    else { s.link with gap := true } := by
  rw [State.offer, apply_ite State.link] <;> rfl

theorem offerFloor_link (p : PatchId) (event : FloorEvent) (party : Option Party) : (s.offerFloor p event party).link =
    if (s.patch p).floorNotices then
      if s.link.notices.length < 32 then
        { s.link with notices := s.link.notices ++ [floorNotice s p event party] }
      else { s.link with gap := true }
    else s.link := by
  unfold State.offerFloor
  split
  · obtain _ | _ | _ := party <;> exact offer_link ..
  · rfl

/-- The notices of a grant: those of the members its key demands mask, and behind them GRANTED, if the patch's floor
notices are on and the queue has room (R86, R88, R184, R185). -/
theorem grant_notices (p : PatchId) (party : Party) (seized : Bool) (time : ClaimTime) :
    ∃ falls, (∀ n ∈ falls, n.detail = .carrier .fell) ∧
      ((s.grant p party seized time).link.notices = s.link.notices ++ falls ∧
          ((s.patch p).floorNotices = true → (s.grant p party seized time).link.gap = true) ∨
        (s.patch p).floorNotices = true ∧ (s.grant p party seized time).link.notices =
          s.link.notices ++ falls ++ [floorNotice s p .granted (some party)]) := by
  obtain ⟨link, -⟩ := grant_fields (s := s) p party seized time
  rw [link, State.grantFloor]
  generalize written : (((s.modPatch p fun x => { x with floor := x.grantedFloor party seized s.now time }).demands p
    fun l => party != .leg l).retarget p (some party)) = u
  have calm : Calm s u := by
    rw [← written]
    exact (calm_retarget p _).after <| (calm_demands p _).after (calm_modPatch p fun _ => ⟨rfl, rfl⟩)
  have falls : FallsOnly s.link u.link := by
    rw [← written, retarget_link, demands_eq]
    exact demandAll_falls (s := s.modPatch p _) _ _
  have on : (u.patch p).floorNotices = (s.patch p).floorNotices :=
    show (u.patch p).fixed.floorNotices = (s.patch p).fixed.floorNotices by rw [(calm.patches p).1]
  have stamp : u.link.stamp = s.link.stamp :=
    show u.link.quiet.stamp = s.link.quiet.stamp by rw [calm.link.quiet]
  have notice : floorNotice u p .granted (some party) = floorNotice s p .granted (some party) := by
    unfold floorNotice
    rw [stamp]
  obtain ⟨ns, grown, fell⟩ := falls
  refine ⟨ns, fell, ?_⟩
  rw [offerFloor_link, on, notice]
  by_cases tells : (s.patch p).floorNotices = true
  · rw [if_pos tells]
    split
    · exact .inr ⟨tells, by rw [← grown]⟩
    · exact .inl ⟨grown, fun _ => rfl⟩
  · rw [if_neg tells]
    exact .inl ⟨grown, fun yes => absurd yes tells⟩

/-- Settles O39. -/
theorem grantMovesTheFloor : Obligations.GrantMovesTheFloor := by
  refine ⟨fun p party seized time s => ?floor, fun p party seized time s l _ => ?demands,
    fun p party seized time s => ?notices, fun p party seized time s e => grant_entry p party seized time e⟩
  case floor =>
    intro f masks
    have floor : f = _ := grant_floor (s := s) p party seized time
    rw [floor]
    refine ⟨rfl, rfl, rfl, rfl, rfl, rfl, ?timer, ?queue⟩
    case timer => cases party <;> cases seized <;> simp [Patch.grantedFloor, Patch.talkTimer]
    case queue =>
      have same (c : Claim) : (!withdrawn s (s.patch p).members (fun l => party != .leg l) p c.party) =
          decide (masks c.party = false) := by
        cases who : c.party with
        | clip => rfl
        | leg l =>
          rw [Bool.eq_iff_iff, Bool.not_eq_true', decide_eq_true_eq, ← Bool.not_eq_true, withdrawn_grant_iff]
          exact decide_eq_false_iff_not.symm
      dsimp only
      rw [List.filter_filter]
      refine List.filter_congr fun c _ => ?_
      rw [same, bne_eq_decide_ne, Bool.decide_and, Bool.and_comm]
  case demands =>
    have record := grant_record (s := s) p party seized time l
    rw [record]
    refine ⟨?_, ?_⟩
    · split
      · rw [demanded_demand, bne_eq_decide_ne]
      · rfl
    · split
      next member => rw [setDemand_leg member.2, if_pos rfl, bne_eq_decide_ne]
      next => rfl
  case notices =>
    intro t granted
    have named : floorNotice s p .granted (some party) = granted := by cases party <;> rfl
    obtain ⟨falls, fell, ⟨notices, gap⟩ | ⟨on, notices⟩⟩ := grant_notices (s := s) p party seized time
    · rw [show t.link.notices = _ from notices, List.drop_left]
      exact ⟨List.prefix_append _ _, fun on => .inl (gap on), fun n mem => .inl (fell n mem)⟩
    · rw [show t.link.notices = _ from notices, named]
      refine ⟨(List.prefix_append _ _).trans (List.prefix_append _ _), fun _ => .inr List.getLast?_concat,
        fun n mem => ?_⟩
      rw [List.append_assoc, List.drop_left] at mem
      obtain fall | own := List.mem_append.mp mem
      · exact .inl (fell n fall)
      · exact .inr ⟨on, List.mem_singleton.mp own⟩

end Sys2Proof.Machine

/-! SUPPORT. The Floor Arbiter: preemption (R82, R89, R90), claims on a held floor (R80–R83), TALK (R104), SEIZE (R105,
R107), the floor's timers (R96, R98), emergencies (R100, R101, R112, R113). -/

namespace Sys2Proof.Machine

variable {s t u : State} {h : Header}

/-! ## Preemption -/

theorem inEmergency_iff (party : Party) : s.inEmergency party = true ↔
    ∃ l, party = .leg l ∧ (s.leg l).emergency.isSome = true := by
  cases party with
  | clip => exact ⟨nofun, nofun⟩
  | leg l =>
    refine ⟨fun emergency => ⟨l, rfl, emergency⟩, ?_⟩
    rintro ⟨m, named, emergency⟩
    cases named
    exact emergency

theorem preempts_iff {p : PatchId} {owner : Party} (owned : (s.patch p).floor.owner = some owner) (party : Party)
    (priority : Nat) : s.preempts p party priority = true ↔
      ((∃ l, party = .leg l ∧ (s.leg l).emergency.isSome = true) ∧
          ¬ ∃ l, owner = .leg l ∧ (s.leg l).emergency.isSome = true) ∨
        ((s.patch p).floor.seized = false ∧ (s.patch p).margin ≠ 0 ∧
          s.priorityOf owner + (s.patch p).margin ≤ priority) := by
  rw [← inEmergency_iff, ← inEmergency_iff]
  unfold State.preempts
  dsimp only
  rw [owned]
  simp [and_assoc]

/-- A grant keeps what of the playback's context its CLIP notice names. -/
theorem grant_context (p : PatchId) (party : Party) (seized : Bool) (time : ClaimTime) :
    (s.grant p party seized time).context.slot = s.context.slot ∧
      (s.grant p party seized time).context.played = s.context.played ∧
      (s.grant p party seized time).context.patch = s.context.patch := by
  have floor := context_of_clips (calm_grantFloor (s := s) p party seized time).clips
  cases party with
  | leg l => rw [grant_leg, floor]; exact ⟨rfl, rfl, rfl⟩
  | clip =>
    rw [grant_clip, ← floor]
    unfold State.clipGranted
    split <;> exact ⟨rfl, rfl, rfl⟩

theorem putBack_eq (p : PatchId) (o : LegId) : s.putBack p o = s.nextEvent.modFloor p fun f =>
    { f with
      seized := false
      queue :=
        if (s.leg o).stands o then
          insertClaim ⟨.leg o, if (s.leg o).emergency.isSome then 15 else (s.leg o).binding.elim 0 Binding.priority,
            (s.patch p).floor.ownerClaim, some ⟨s.link.stamp, s.order⟩⟩ (f.queue.filter fun c => c.party ≠ .leg o)
        else f.queue } := by
  unfold State.putBack
  dsimp only
  cases stands : (s.leg o).stands o with
  | false => exact if_neg (by simp [stands])
  | true =>
    rw [if_pos (by simpa using stands)]
    unfold State.enqueue State.modFloor
    rw [modPatch_modPatch]
    simp only [bne_eq_decide_ne, if_true]
    rfl

/-- The floor taken from its owner is what `Displaced` says (R89, R90, R105). -/
theorem displaced_preempt (p : PatchId) (party : Party) (seized : Bool) (time : ClaimTime) :
    Displaced s p party seized time (s.preempt p party seized time) := by
  unfold Displaced State.preempt
  cases (s.patch p).floor.owner with
  | none => rfl
  | some owner =>
    cases owner with
    | leg o =>
      dsimp only
      rw [putBack_eq]
      refine congrArg (State.grant · p party seized time) ?_
      unfold State.offerFloor
      refine if_congr ?_ rfl rfl
      rw [State.modFloor, patch_modPatch_same] <;> rfl
    | clip =>
      dsimp only
      obtain ⟨slot, played, patch⟩ :=
        grant_context (s := s.offerFloor p .preempted (some .clip)) p party seized time
      unfold State.endUnreported State.offerClip
      rw [slot, played, patch, offerFloor_context] <;> rfl

/-- A grant after calm work: but for its queue the floor is that of a grant at once. -/
theorem grant_floor_of_calm (calm : Calm s u) (p : PatchId) (party : Party) (seized : Bool) (time : ClaimTime) :
    ∃ q, ((u.grant p party seized time).patch p).floor =
      { (s.patch p).grantedFloor party seized s.now time with queue := q } := by
  have limit : (u.patch p).talkLimit = (s.patch p).talkLimit :=
    show (u.patch p).fixed.talkLimit = (s.patch p).fixed.talkLimit by rw [(calm.patches p).1]
  have now : u.now = s.now := show u.link.quiet.stamp = s.link.quiet.stamp by rw [calm.link.quiet]
  refine ⟨((u.grant p party seized time).patch p).floor.queue, ?_⟩
  rw [grant_floor, now]
  unfold Patch.grantedFloor Patch.talkTimer
  rw [limit]

/-- The floor after it was taken for a party: but for its queue that of a grant. -/
theorem preempt_floor (p : PatchId) (party : Party) (seized : Bool) (time : ClaimTime) :
    ∃ q, ((s.preempt p party seized time).patch p).floor =
      { (s.patch p).grantedFloor party seized s.now time with queue := q } := by
  unfold State.preempt
  split
  · exact grant_floor_of_calm ((calm_offerFloor p _ _).after (calm_putBack p _)) p party seized time
  · rw [endUnreported_patch]
    exact grant_floor_of_calm (calm_offerFloor p _ _) p party seized time
  · exact grant_floor_of_calm (.refl s) p party seized time

/-! ## A claim on a held floor -/

theorem enqueue_eq (p : PatchId) (c : Claim) : s.enqueue p c = s.modPatch p fun x => { x with floor := { x.floor with
    queue := insertClaim c (x.floor.queue.filter fun d => d.party ≠ c.party) } } := by
  simp only [State.enqueue, State.modFloor, bne_eq_decide_ne]

theorem claimArrives_of_held {p : PatchId} {party : Party} (held : (s.patch p).floor.state = .held) :
    s.claimArrives p party =
      if (s.patch p).floor.owner = some party then s.nextEvent.modFloor p fun f => { f with ownerClaim := s.eventTime }
      else if s.preempts p party (s.priorityOf party) then s.nextEvent.preempt p party false s.eventTime
      else (s.nextEvent.enqueue p ⟨party, s.priorityOf party, s.eventTime, none⟩).offerFloor p .queued (some party) := by
  unfold State.claimArrives
  dsimp only
  rw [nextEvent_patch, held]
  rfl

/-- Settles O40. -/
theorem claimOnAHeldFloorIsJudged : Obligations.ClaimOnAHeldFloorIsJudged := by
  refine ⟨fun p party s held owned => (claimArrives_of_held held).trans (if_pos owned), fun p party owner s held owned other => ?_⟩
  have notOwner : (s.patch p).floor.owner ≠ some party := by
    rw [owned]
    exact fun same => other (Option.some.inj same).symm
  intro emergency priority preempts t
  have priorities (q : Party) : s.priorityOf q = priority q := by cases q <;> rfl
  have judged : s.preempts p party (s.priorityOf party) = true ↔ preempts := by
    rw [preempts_iff owned, priorities, priorities]
  have arrives : t = _ := claimArrives_of_held held
  rw [if_neg notOwner] at arrives
  refine ⟨fun wins => ?_, fun waits => ?_⟩
  · rw [if_pos (judged.mpr wins)] at arrives
    obtain ⟨q, floor⟩ := preempt_floor (s := s.nextEvent) p party false s.eventTime
    have displaced := displaced_preempt (s := s.nextEvent) p party false s.eventTime
    rw [arrives, floor]
    exact ⟨rfl, rfl, rfl, displaced⟩
  · rw [if_neg fun yes => waits (judged.mp yes), enqueue_eq, priorities] at arrives
    intro u
    rw [arrives]
    have on : (u.patch p).floorNotices = (s.patch p).floorNotices := by
      rw [show u.patch p = _ from patch_modPatch_same ..]
      rfl
    have offered : u.offerFloor p .queued (some party) =
        if (s.patch p).floorNotices then
          (match (generalizing := false) party with
            | .leg l => u.offer (.floor .queued false) (some l) (some p)
            | .clip => u.offer (.floor .queued true) none (some p))
        else u := by
      unfold State.offerFloor
      rw [on]
      cases party <;> rfl
    exact offered

/-! ## The floor's timers -/

theorem enterIdle_eq (p : PatchId) : s.enterIdle p =
    ((((s.modFloor p fun f => { queue := f.queue }).demandAll (s.patch p).members fun _ => false).retarget p
      none).offerFloor p .idle none) := by
  unfold State.enterIdle
  dsimp only
  rw [demands_eq, State.modFloor, patch_modPatch_same]

theorem enterIdle_leg (p : PatchId) (l : LegId) : (s.enterIdle p).leg l =
    if l ∈ (s.patch p).members ∧ l.val < 16 then (s.leg l).demanded false else s.leg l := by
  rw [enterIdle_eq, offerFloor_leg, retarget_leg, demandAll_leg] <;> rfl

theorem enterIdle_entry (p : PatchId) (e : EntryId) : (s.enterIdle p).entry e =
    if ((s.entry e).state = .reserved ∨ (s.entry e).state = .active) ∧ (s.entry e).tag = some p ∧
        ((s.entry e).kind = some .member ∨ (s.entry e).kind = some .monitor) then
      { s.entry e with pendingSource := none }
    else s.entry e := by
  unfold State.enterIdle
  rw [offerFloor_entry, retarget_entry, demands_entry] <;> rfl

theorem enterIdle_link (p : PatchId) : (s.enterIdle p).link =
    (if (s.patch p).floorNotices then s.offer (.floor .idle false) none (some p) else s).link := by
  have on : ((((s.modFloor p fun f => { queue := f.queue }).demandAll (s.patch p).members fun _ => false).retarget p
      none).patch p).floorNotices = (s.patch p).floorNotices := by
    rw [retarget_patch, demandAll_patch, State.modFloor, patch_modPatch_same]
  rw [enterIdle_eq, State.offerFloor, on]
  split
  · rw [offer_link, offer_link, retarget_link, demandAll_off_link] <;> rfl
  · rw [retarget_link, demandAll_off_link] <;> rfl

/-- The owner barred (R9, R98). -/
theorem bar_eq (o : LegId) : s.bar o =
    if 16 ≤ o.val ∨ (s.leg o).rx.state = .active ∨ (s.leg o).rx.state = .falling then
      s.modLeg o fun x =>
        { x with
          rx :=
            { state := .barred, riseTimer := none, dropTimer := none
              barTimer := if x.condition o ∨ x.masked o ∨ x.park.parked then none else some x.config.drop
              barDropDone := false } }
    else s := by
  unfold State.bar
  dsimp only
  refine if_congr ?_ ?_ rfl
  · simp only [Bool.or_eq_true, Bool.not_eq_true', isRadio_eq_false_iff, decide_eq_true_eq, or_assoc]
  · rw [evaluate_eq, modLeg_modLeg]
    refine modLeg_congr ?_
    have masked : ((s.leg o).rxTo .barred).masked o = (s.leg o).masked o := rfl
    have condition : ((s.leg o).rxTo .barred).condition o = (s.leg o).condition o := rfl
    have parked : ((s.leg o).rxTo .barred).park = (s.leg o).park := rfl
    rw [masked, condition, parked, follow_rx]
    cases (s.leg o).park.parked <;> cases (s.leg o).masked o <;> cases (s.leg o).condition o <;> rfl

/-- Settles O45. -/
theorem floorTimersExpire : Obligations.FloorTimersExpire := by
  refine ⟨fun p s settled hang timer => ?hang, fun p s _ empty => ?idle, fun p o s settled held owner timer => ?limit⟩
  case hang =>
    have takes : takeHangExpiry p s = s.enterIdle p := if_pos ⟨hang, by rw [timer]; rfl⟩
    rw [exec_of_settled settled rfl, takes]
  case idle =>
    intro t
    obtain ⟨rest, fewer, floor⟩ := enterIdle_floor (s := s) p
    rw [empty] at fewer
    obtain rfl := List.sublist_nil.mp fewer
    rw [show (t.patch p).floor = _ from floor]
    refine ⟨rfl, rfl, rfl, rfl, rfl, rfl, rfl, rfl, fun l => ?_, enterIdle_entry p, enterIdle_link p⟩
    rw [show t.leg l = _ from enterIdle_leg p l]
    refine ⟨?_, ?_⟩
    · split
      · exact demanded_demand _ _
      · rfl
    · split
      next member => rw [setDemand_leg member.2, if_pos rfl]
      next => rfl
  case limit =>
    intro u barred
    have takes : takeTalkLimit p s = ((s.offerFloor p .talkLimit (some (.leg o))).bar o).pass p := by
      unfold takeTalkLimit
      dsimp only
      rw [held, owner]
      exact if_pos (by rw [timer]; rfl)
    have bars : (s.offerFloor p .talkLimit (some (.leg o))).bar o = barred := by
      rw [bar_eq, offerFloor_leg] <;> rfl
    have queue : ((s.offerFloor p .talkLimit (some (.leg o))).bar o).patch p = s.patch p := by
      rw [bar_patch, offerFloor_patch]
    rw [exec_of_settled settled rfl, takes, State.pass, queue, bars] <;> rfl

end Sys2Proof.Machine

/-! SUPPORT. The requests of the Floor Arbiter: DECLARE (R112, R113), TALK (R104), SEIZE (R105, R107); and a change of an
emergency flag on the floor (R100, R101, R115). -/

namespace Sys2Proof.Machine

variable {s t u : State} {h : Header}

/-! ## Emergency flags -/

/-- Only the machines, demands and flags of a leg move with an emergency's effect on its floor. -/
theorem emergencyChange_emergency (l m : LegId) : ((s.emergencyChange l).leg m).emergency = (s.leg m).emergency :=
  show ((s.emergencyChange l).leg m).fixed.emergency = (s.leg m).fixed.emergency by
    rw [(arbitrates_emergencyChange l).kept.legs m]

theorem arbitrates_inProgress (work : Arbitrates s t) : t.link.inProgress = s.link.inProgress :=
  inProgress_of_noticed work.kept.link

theorem takeDeclare_of_leg {leg : Byte} {l : LegId} (named : leg.toNat = l.val) (effect : LegId → State → State)
    (results : Leg → List Byte) : takeDeclare h leg effect results s =
      (effect l s).grantReply h .declare (results ((effect l s).leg l)) := by
  rw [takeDeclare, legOf_eq_some_iff.mpr named]

/-- A leg's emergency flag written, with the notice of the change. -/
def State.declared (s : State) (l : LegId) (flag : Option EmergencySource) (d : Detail) : State :=
  (s.modLeg l fun x => { x with emergency := flag }).offer d (some l) (s.leg l).membership

theorem offerLeg_declared (l : LegId) (flag : Option EmergencySource) (d : Detail) :
    (s.modLeg l fun x => { x with emergency := flag }).offerLeg d l = s.declared l flag d := by
  rw [State.offerLeg, leg_modLeg_same] <;> rfl

theorem declared_emergency (l : LegId) (flag : Option EmergencySource) (d : Detail) :
    (((s.declared l flag d).emergencyChange l).leg l).emergency = flag := by
  rw [emergencyChange_emergency, State.declared, offer_leg, leg_modLeg_same]

theorem declared_inProgress (l : LegId) (flag : Option EmergencySource) (d : Detail) :
    ((s.declared l flag d).emergencyChange l).link.inProgress = s.link.inProgress :=
  (arbitrates_inProgress (arbitrates_emergencyChange l)).trans
    (inProgress_of_noticed (noticed_offer (s := s.modLeg l _) _ _ _))

theorem declareSet_of_set {l : LegId} {source : EmergencySource} (set : (s.leg l).emergency = some source) :
    declareSet l s = s := if_pos (by simp [set])

theorem declareSet_of_clear {l : LegId} (clear : (s.leg l).emergency = none) :
    declareSet l s = (s.declared l (some .declare) (.emergency true .declare)).emergencyChange l := by
  rw [declareSet, if_neg (by simp [clear]), State.setEmergency, offerLeg_declared]

theorem declareClear_of_set {l : LegId} {source : EmergencySource} (set : (s.leg l).emergency = some source) :
    declareClear l s = (s.declared l none (.emergency false source)).emergencyChange l := by
  unfold declareClear
  rw [set]
  exact congrArg (State.emergencyChange · l) (offerLeg_declared ..)

theorem declareClear_of_clear {l : LegId} (clear : (s.leg l).emergency = none) : declareClear l s = s := by
  unfold declareClear
  rw [clear]

/-- Settles O46. -/
theorem declareSetsAndClearsTheFlag : Obligations.DeclareSetsAndClearsTheFlag := by
  refine ⟨fun h leg s ready beyond => ⟨row_refuses ready rfl (takeDeclare_of_outOfRange (by omega)),
      row_refuses ready rfl (takeDeclare_of_outOfRange (by omega))⟩,
    fun h leg l s ready named => ⟨fun source set => ?stays, fun clear => ?sets⟩,
    fun h leg l s ready named => ⟨fun clear => ?idle, fun source set => ?clears⟩⟩
  case stays =>
    have takes := takeDeclare_of_leg (h := h) (s := s) named declareSet declareOnResults
    rw [declareSet_of_set set, declareOnResults, set] at takes
    have done := row_grants (i := .declareOn h leg) ready rfl takes (Ready.idle ready)
    cases source <;> exact done
  case sets =>
    have takes := takeDeclare_of_leg (h := h) (s := s) named declareSet declareOnResults
    rw [declareSet_of_clear clear, declareOnResults, declared_emergency] at takes
    exact row_grants (i := .declareOn h leg) ready rfl takes ((declared_inProgress ..).trans (Ready.idle ready))
  case idle =>
    have takes := takeDeclare_of_leg (h := h) (s := s) named declareClear declareOffResults
    rw [declareClear_of_clear clear, declareOffResults, clear] at takes
    exact row_grants (i := .declareOff h leg) ready rfl takes (Ready.idle ready)
  case clears =>
    have takes := takeDeclare_of_leg (h := h) (s := s) named declareClear declareOffResults
    rw [declareClear_of_set set, declareOffResults, declared_emergency] at takes
    exact row_grants (i := .declareOff h leg) ready rfl takes ((declared_inProgress ..).trans (Ready.idle ready))

/-! ## A change of an emergency flag on the floor -/

theorem emergencyChange_of_absent {l : LegId} {p : PatchId} (joined : (s.leg l).membership = some p)
    (absent : ∀ c ∈ (s.patch p).floor.queue, c.party ≠ .leg l) : s.emergencyChange l = s := by
  have finds : ((s.patch p).floor.queue.find? fun c => c.party = .leg l) = none := by simpa using absent
  unfold State.emergencyChange
  rw [joined]
  dsimp only
  rw [finds]

/-- The queue's claim of a party that has one claim there. -/
theorem find?_party {q : List Claim} {c : Claim} (nodup : (q.map Claim.party).Nodup) (mem : c ∈ q) :
    (q.find? fun d => d.party = c.party) = some c := by
  induction q with
  | nil => exact absurd mem (by simp)
  | cons d q ih =>
    obtain ⟨fresh, rest⟩ := List.nodup_cons.mp nodup
    obtain rfl | behind := List.mem_cons.mp mem
    · simp
    · have other : d.party ≠ c.party := fun same => fresh (by rw [same]; exact List.mem_map_of_mem behind)
      rw [List.find?_cons_of_neg (by simpa using other)]
      exact ih rest behind

theorem emergencyChange_of_queued {l : LegId} {p : PatchId} {c : Claim} (joined : (s.leg l).membership = some p)
    (queued : c ∈ (s.patch p).floor.queue) (own : c.party = .leg l)
    (nodup : ((s.patch p).floor.queue.map Claim.party).Nodup) : s.emergencyChange l =
      let u := s.enqueue p { c with priority := s.priorityOf (.leg l) }
      if (s.leg l).emergency.isSome = true ∧ u.preempts p (.leg l) (s.priorityOf (.leg l)) = true then
        u.preempt p (.leg l) false c.time
      else u := by
  have finds : ((s.patch p).floor.queue.find? fun c => c.party = .leg l) = some c := own ▸ find?_party nodup queued
  unfold State.emergencyChange
  rw [joined]
  dsimp only
  rw [finds]
  dsimp only
  exact if_congr (by rw [Bool.and_eq_true]; rfl) rfl rfl

/-- Whether an emergency preempts an owner, after its claim was re-placed (R82, R101): only an owner that is not itself in
emergency, whose priority would be 15. -/
theorem preempts_emergency_iff {l : LegId} {p : PatchId} {o : Party} {c : Claim} (owned : (s.patch p).floor.owner = some o)
    (emergency : (s.leg l).emergency.isSome = true) :
    (s.enqueue p c).preempts p (.leg l) (s.priorityOf (.leg l)) = true ↔
      ¬ ∃ m, o = .leg m ∧ (s.leg m).emergency.isSome = true := by
  have record : (s.enqueue p c).patch p = { s.patch p with floor := { (s.patch p).floor with
      queue := insertClaim c ((s.patch p).floor.queue.filter fun d => d.party ≠ c.party) } } := by
    rw [enqueue_eq, patch_modPatch_same]
  have owned' : ((s.enqueue p c).patch p).floor.owner = some o := (enqueue_owner p c).trans owned
  have top : s.priorityOf (.leg l) = 15 := if_pos emergency
  rw [preempts_iff owned', record, top]
  refine ⟨fun either => either.elim And.right ?_, fun none => .inl ⟨⟨l, rfl, emergency⟩, none⟩⟩
  rintro ⟨-, margin, above⟩ ⟨m, rfl, own⟩
  have full : (s.enqueue p c).priorityOf (.leg m) = 15 := if_pos own
  rw [full] at above
  dsimp only at margin above
  omega

/-- Settles O47. -/
theorem emergencyChangeReplacesAQueuedClaim : Obligations.EmergencyChangeReplacesAQueuedClaim := by
  refine fun l s => ⟨fun free => ?free, fun p joined => ⟨emergencyChange_of_absent joined,
    fun c o queued own nodup owned => ?queued⟩⟩
  case free =>
    unfold State.emergencyChange
    rw [free]
  case queued =>
    intro emergency
    have change := emergencyChange_of_queued joined queued own nodup
    have replaced (priority : Nat) : s.enqueue p { c with priority } = s.modPatch p fun x => { x with floor := { x.floor with
        queue := insertClaim { c with priority } (x.floor.queue.filter fun d => d.party ≠ .leg l) } } := by
      rw [enqueue_eq]
      simp only [own]
    refine ⟨fun clear => ?_, fun set unopposed => ?_, fun set opposed => ?_⟩
    · have plain : s.priorityOf (.leg l) = (s.leg l).boundPriority := if_neg (by simp [clear])
      rw [change, plain, replaced]
      exact if_neg fun both => by simp [clear] at both
    · have top : s.priorityOf (.leg l) = 15 := if_pos set
      have wins := (preempts_emergency_iff (c := { c with priority := s.priorityOf (.leg l) }) owned set).mpr unopposed
      have taken := change.trans (if_pos ⟨set, wins⟩)
      rw [top, replaced] at taken
      obtain ⟨q, floor⟩ := preempt_floor (s := s.modPatch p fun x => { x with floor := { x.floor with
        queue := insertClaim { c with priority := 15 } (x.floor.queue.filter fun d => d.party ≠ .leg l) } })
        p (.leg l) false c.time
      rw [taken, floor]
      exact ⟨rfl, displaced_preempt p (.leg l) false c.time⟩
    · have top : s.priorityOf (.leg l) = 15 := if_pos set
      have waits : ¬ (s.enqueue p { c with priority := s.priorityOf (.leg l) }).preempts p (.leg l)
          (s.priorityOf (.leg l)) = true := fun wins => (preempts_emergency_iff owned set).mp wins opposed
      rw [change, ← replaced, ← top]
      exact if_neg fun both => waits both.2

/-! ## TALK -/

theorem takeTalk_of_console {leg : Byte} {l : LegId} (named : leg.toNat = l.val) (console : 16 ≤ l.val)
    (effect : LegId → State → State) : takeTalk h leg effect s =
      if (s.leg l).membership.isNone then s.refuse h .talk .notMember else (effect l s).grantReply h .talk [] := by
  rw [takeTalk, consoleOf_eq_some_iff.mpr ⟨named, console⟩]

/-- Whether the switch or carrier of a leg has qualified, so that its claim stands without a TALK latch (R8). -/
theorem stands_cases (l : LegId) (x : Leg) : x.stands l =
    (x.qualified || !(x.rx.state = .barred) && !isRadio l && x.talk) := by
  unfold Leg.stands Leg.qualified
  cases x.rx.state <;> simp

section Talk

variable {l : LegId} (console : 16 ≤ l.val)

include console in
theorem stands_console (x : Leg) : x.stands l = (x.qualified || !(x.rx.state = .barred) && x.talk) := by
  rw [stands_cases, (isRadio_eq_false_iff l).mpr console, Bool.not_false, Bool.and_true]

theorem claimChange_same {f : State → State} (same : ((f s).leg l).stands l = (s.leg l).stands l) :
    s.claimChange l f = f s := by
  unfold State.claimChange
  dsimp only
  rw [same]
  cases (s.leg l).stands l <;> rfl

theorem claimChange_begins {f : State → State} {p : PatchId} (before : (s.leg l).stands l = false)
    (after : ((f s).leg l).stands l = true) (joined : ((f s).leg l).membership = some p) :
    s.claimChange l f = (f s).claimArrives p (.leg l) := by
  unfold State.claimChange
  dsimp only
  rw [before, after]
  dsimp only
  rw [State.offerClaim, joined]

theorem claimChange_ends {f : State → State} {p : PatchId} (before : (s.leg l).stands l = true)
    (after : ((f s).leg l).stands l = false) (joined : ((f s).leg l).membership = some p) :
    s.claimChange l f = (f s).withdraws p (.leg l) := by
  unfold State.claimChange
  dsimp only
  rw [before, after]
  dsimp only
  rw [State.offerWithdrawal, joined]

/-- What TALK does to the latch of a leg. -/
def State.latched (s : State) (l : LegId) (b : Bool) : State := s.modLeg l fun x => { x with talk := b }

theorem latched_stands (b : Bool) (console : 16 ≤ l.val) : ((s.latched l b).leg l).stands l =
    ((s.leg l).qualified || !((s.leg l).rx.state = .barred) && b) := by
  rw [State.latched, leg_modLeg_same, stands_console console] <;> rfl

include console

theorem pressTalk_still (still : (s.leg l).talk = true ∨ (s.leg l).qualified = true ∨ (s.leg l).rx.state = .barred) :
    pressTalk l s = s.latched l true := by
  refine claimChange_same ((latched_stands true console).trans ?_)
  rw [stands_console console]
  obtain talk | qualified | barred := still
  · rw [talk]
  · rw [qualified] <;> rfl
  · simp [barred]

theorem pressTalk_claims {p : PatchId} (joined : (s.leg l).membership = some p) (off : (s.leg l).talk = false)
    (quiet : (s.leg l).qualified = false) (free : (s.leg l).rx.state ≠ .barred) :
    pressTalk l s = (s.latched l true).claimArrives p (.leg l) := by
  refine claimChange_begins ?_ ((latched_stands true console).trans ?_) ?_
  · rw [stands_console console, quiet, off, Bool.and_false, Bool.or_false]
  · simp [free]
  · rw [leg_modLeg_same]
    exact joined

end Talk

/-- The release of the latch, before the floor is told (R104; log 11). -/
def State.unlatched (s : State) (l : LegId) : State :=
  match (s.leg l).rx.state with
  | .barred => if (s.leg l).talk && (s.leg l).rx.barDropDone then (s.latched l false).endBar l else s.latched l false
  | .idle | .rising | .active | .falling => s.latched l false

theorem releaseTalk_eq (l : LegId) : releaseTalk l s = s.claimChange l fun s => s.unlatched l := rfl

theorem unlatched_of_kept {l : LegId}
    (kept : ¬ ((s.leg l).rx.state = .barred ∧ (s.leg l).talk = true ∧ (s.leg l).rx.barDropDone = true)) :
    s.unlatched l = s.latched l false := by
  unfold State.unlatched
  split
  next barred => exact if_neg fun both => kept ⟨barred, by simpa using both⟩
  all_goals rfl

section Talk

variable {l : LegId} (console : 16 ≤ l.val)
include console

theorem releaseTalk_still (still : (s.leg l).talk = false ∨ (s.leg l).qualified = true ∨
    ((s.leg l).rx.state = .barred ∧ (s.leg l).rx.barDropDone = false)) : releaseTalk l s = s.latched l false := by
  have kept : s.unlatched l = s.latched l false := by
    refine unlatched_of_kept ?_
    rintro ⟨barred, talk, done⟩
    obtain off | qualified | ⟨-, undone⟩ := still
    · exact nomatch off.symm.trans talk
    · unfold Leg.qualified at qualified
      rw [barred] at qualified
      exact nomatch qualified
    · exact nomatch undone.symm.trans done
  rw [releaseTalk_eq, ← kept]
  refine claimChange_same ?_
  rw [kept, latched_stands false console, stands_console console]
  obtain off | qualified | ⟨barred, -⟩ := still
  · rw [off]
  · rw [qualified] <;> rfl
  · simp [barred]

theorem releaseTalk_ends {p : PatchId} (joined : (s.leg l).membership = some p) (on : (s.leg l).talk = true)
    (quiet : (s.leg l).qualified = false) (free : (s.leg l).rx.state ≠ .barred) :
    releaseTalk l s = (s.latched l false).withdraws p (.leg l) := by
  have kept : s.unlatched l = s.latched l false := unlatched_of_kept fun both => free both.1
  rw [releaseTalk_eq, ← kept]
  refine claimChange_ends ?_ ?_ ?_
  · rw [stands_console console, on]
    simp [free]
  · rw [kept, latched_stands false console, quiet, Bool.and_false, Bool.or_false]
  · rw [kept, State.latched, leg_modLeg_same]
    exact joined

/-- The release of the latch of a barred console whose switch's drop has qualified (R9; log 11). -/
theorem releaseTalk_endsBar (on : (s.leg l).talk = true) (barred : (s.leg l).rx.state = .barred)
    (done : (s.leg l).rx.barDropDone = true) : releaseTalk l s = carrierEdge (s.latched l false) l .fell := by
  have ended : s.unlatched l = carrierEdge (s.latched l false) l .fell := by
    unfold State.unlatched
    rw [barred, on, done]
    exact endBar_eq ..
  rw [releaseTalk_eq, ← ended]
  refine claimChange_same ?_
  rw [ended, stands_console console, stands_console console, leg_carrierEdge, State.latched, leg_modLeg_same]
  unfold Leg.qualified
  simp [barred]

end Talk

/-- Settles O43. -/
theorem talkPressesAndReleases : Obligations.TalkPressesAndReleases := by
  intro h leg l s ready named console latched qualified
  have quiet (no : ¬ qualified) : (s.leg l).qualified = false := by
    rw [← Bool.not_eq_true, qualified_iff]
    exact no
  have press := takeTalk_of_console (h := h) (s := s) named console pressTalk
  have release := takeTalk_of_console (h := h) (s := s) named console releaseTalk
  refine ⟨fun free => ?free, fun p joined => ?member⟩
  case free =>
    rw [if_pos (by rw [free]; rfl)] at press release
    exact ⟨row_refuses ready rfl press, row_refuses ready rfl release⟩
  case member =>
    rw [if_neg (by rw [joined]; exact Bool.false_ne_true)] at press release
    refine ⟨fun still => ?_, fun off no free => ?_, fun still => ?_, fun on barred done => ?_, fun on no free => ?_⟩
    · rw [pressTalk_still console (still.imp_right (Or.imp_left (qualified_iff _).mpr))] at press
      exact row_grants ready rfl press (Ready.idle ready)
    · rw [pressTalk_claims console joined off (quiet no) free] at press
      exact row_grants ready rfl press ((arbitrates_inProgress (arbitrates_claimArrives p _)).trans (Ready.idle ready))
    · rw [releaseTalk_still console (still.imp_right (Or.imp_left (qualified_iff _).mpr))] at release
      exact row_grants ready rfl release (Ready.idle ready)
    · rw [releaseTalk_endsBar console on barred done, carrierEdge_eq, State.latched, leg_modLeg_same,
        modLeg_modLeg] at release
      intro u
      rw [← joined]
      refine row_grants ready rfl release ?_
      dsimp only
      split
      · exact (inProgress_of_noticed (noticed_offer (s := u) _ _ _)).trans (Ready.idle ready)
      · exact Ready.idle ready
    · rw [releaseTalk_ends console joined on (quiet no) free] at release
      exact row_grants ready rfl release ((arbitrates_inProgress (arbitrates_withdraws p _)).trans (Ready.idle ready))

end Sys2Proof.Machine

/-! SUPPORT. SEIZE and SEIZE CLEAR (R105, R107). -/

namespace Sys2Proof.Machine

variable {s t u : State} {h : Header}

section Seize

variable {patch leg : Byte} {p : PatchId} {l : LegId} (onPatch : patch.toNat = p.val + 1)
include onPatch

theorem takeSeize_eq (named : leg.toNat = l.val) : takeSeize h patch leg s =
    if (s.patch p).state ≠ .active then s.refuse h .seize .patchState
    else if (s.leg l).membership ≠ some p then s.refuse h .seize .notMember
    else (seizeLeg p l s).grantReply h .seize [] := by
  rw [takeSeize, patchOf_eq_some_iff.mpr onPatch, legOf_eq_some_iff.mpr named]

theorem takeSeizeClear_of_active (active : (s.patch p).state = .active) :
    takeSeizeClear h patch s = (clearSeize p s).grantReply h .seize [] := by
  rw [takeSeizeClear, patchOf_eq_some_iff.mpr onPatch]
  exact if_neg (by simp [active])

end Seize

theorem arbitrates_seize (p : PatchId) (party : Party) (time : ClaimTime) :
    Arbitrates s (s.nextEvent.preempt p party true time) :=
  (Arbitrates.calm calm_nextEvent).trans (arbitrates_preempt p party true time)

/-- SEIZE by a leg that does not own the floor (R105). -/
theorem seizeLeg_other {p : PatchId} {l : LegId} (other : (s.patch p).floor.owner ≠ some (.leg l)) :
    seizeLeg p l s = s.nextEvent.preempt p (.leg l) true (((s.patch p).floor.queue.find? fun c => c.party = .leg l).elim
      ⟨s.link.stamp, s.order⟩ Claim.time) := if_neg other

/-- SEIZE CLEAR on a floor that a leg owns by seizure (R107). -/
theorem clearSeize_of_seized {p : PatchId} {l : LegId} (seized : (s.patch p).floor.seized = true)
    (owner : (s.patch p).floor.owner = some (.leg l)) : clearSeize p s =
      if (s.leg l).stands l = true then s.modPatch p fun x =>
        { x with floor := { x.floor with seized := false, talkTimer := x.talkTimer } }
      else (s.modFloor p fun f => { f with seized := false }).withdraws p (.leg l) := by
  have free := withdraws_of_owner (s := s.modFloor p fun f => { f with seized := false }) (p := p) (party := .leg l)
    (by rw [State.modFloor, patch_modPatch_same]; exact owner) (by rw [State.modFloor, patch_modPatch_same])
  unfold clearSeize
  dsimp only
  rw [seized, owner, free]
  refine (if_pos rfl).trans (if_congr Iff.rfl ?_ rfl)
  rw [State.modFloor, modPatch_modPatch]
  rfl

/-- Settles O44. -/
theorem seizeTakesTheFloor : Obligations.SeizeTakesTheFloor := by
  refine ⟨fun h patch leg p l s ready onPatch named => ?seize, fun h patch p l s ready onPatch active => ?clear⟩
  case seize =>
    have takes := takeSeize_eq (s := s) (h := h) onPatch named
    intro i
    refine ⟨fun inactive => ?_, fun active other => ?_, fun active joined => ?_⟩
    · rw [if_pos inactive] at takes
      exact row_refuses ready rfl takes
    · rw [if_neg (not_not_intro active), if_pos other] at takes
      exact row_refuses ready rfl takes
    · rw [if_neg (not_not_intro active), if_neg (not_not_intro joined)] at takes
      refine ⟨fun owner => ?_, fun other => ?_⟩
      · rw [seizeLeg, if_pos owner] at takes
        exact row_grants ready rfl takes (Ready.idle ready)
      · rw [seizeLeg_other other] at takes
        have work := arbitrates_seize (s := s) p (.leg l) (((s.patch p).floor.queue.find? fun c => c.party = .leg l).elim
          ⟨s.link.stamp, s.order⟩ Claim.time)
        have fate := clipFate_preempt (s := s) (t := s.nextEvent) p (.leg l) true
          (((s.patch p).floor.queue.find? fun c => c.party = .leg l).elim ⟨s.link.stamp, s.order⟩ Claim.time) rfl rfl other
        obtain ⟨q, floor⟩ := preempt_floor (s := s.nextEvent) p (.leg l) true
          (((s.patch p).floor.queue.find? fun c => c.party = .leg l).elim ⟨s.link.stamp, s.order⟩ Claim.time)
        refine ⟨_, row_grants ready rfl takes ((arbitrates_inProgress work).trans (Ready.idle ready)),
          work.floorWork fate, ?_⟩
        rw [floor]
        exact ⟨rfl, rfl, rfl, rfl, rfl, displaced_preempt ..⟩
  case clear =>
    have takes := takeSeizeClear_of_active (s := s) (h := h) onPatch active
    intro i
    refine ⟨fun unseized => ?_, fun seized owner => ⟨fun stands => ?_, fun fallen => ?_⟩⟩
    · rw [clearSeize, if_neg (by simp [unseized])] at takes
      exact row_grants ready rfl takes (Ready.idle ready)
    · rw [clearSeize_of_seized seized owner, if_pos stands] at takes
      exact row_grants ready rfl takes (Ready.idle ready)
    · rw [clearSeize_of_seized seized owner, if_neg (by simp [fallen])] at takes
      exact row_grants ready rfl takes ((arbitrates_inProgress (arbitrates_withdraws p _)).trans (Ready.idle ready))

end Sys2Proof.Machine

/-! SUPPORT. The link's encodings: fields and bodies read as they are written (R190, R191, R195), and frames (R168–R170). -/

namespace Sys2Proof.Machine

variable {s t u : State} {h : Header}

/-! ## Fields -/

/-- Two adjoining fields of a word are one. -/
theorem extract_append {w : Nat} (x : BitVec w) (low m n : Nat) :
    x.extractLsb' (low + n) m ++ x.extractLsb' low n = x.extractLsb' low (m + n) :=
  BitVec.extractLsb'_append_extractLsb'_eq_extractLsb' rfl

theorem word16_bytes (w : Word16) : word16 (w.extractLsb' 8 8) (w.extractLsb' 0 8) = w :=
  (extract_append w 0 8 8).trans BitVec.extractLsb'_eq_self

theorem word32_bytes (w : Word32) :
    word32 (w.extractLsb' 24 8) (w.extractLsb' 16 8) (w.extractLsb' 8 8) (w.extractLsb' 0 8) = w := by
  have upper : w.extractLsb' 24 8 ++ w.extractLsb' 16 8 = w.extractLsb' 16 16 := extract_append w 16 8 8
  have three : w.extractLsb' 16 16 ++ w.extractLsb' 8 8 = w.extractLsb' 8 24 := extract_append w 8 16 8
  unfold word32
  rw [upper, three]
  exact (extract_append w 0 24 8).trans BitVec.extractLsb'_eq_self

theorem bytes64_eq (w : BitVec 64) : bytes64 w = [w.extractLsb' 0 8, w.extractLsb' 8 8, w.extractLsb' 16 8,
    w.extractLsb' 24 8, w.extractLsb' 32 8, w.extractLsb' 40 8, w.extractLsb' 48 8, w.extractLsb' 56 8] := rfl

theorem word64_bytes (w : BitVec 64) : word64 (w.extractLsb' 0 8) (w.extractLsb' 8 8) (w.extractLsb' 16 8)
    (w.extractLsb' 24 8) (w.extractLsb' 32 8) (w.extractLsb' 40 8) (w.extractLsb' 48 8) (w.extractLsb' 56 8) = w := by
  have two : w.extractLsb' 56 8 ++ w.extractLsb' 48 8 = w.extractLsb' 48 16 := extract_append w 48 8 8
  have three : w.extractLsb' 48 16 ++ w.extractLsb' 40 8 = w.extractLsb' 40 24 := extract_append w 40 16 8
  have four : w.extractLsb' 40 24 ++ w.extractLsb' 32 8 = w.extractLsb' 32 32 := extract_append w 32 24 8
  have five : w.extractLsb' 32 32 ++ w.extractLsb' 24 8 = w.extractLsb' 24 40 := extract_append w 24 32 8
  have six : w.extractLsb' 24 40 ++ w.extractLsb' 16 8 = w.extractLsb' 16 48 := extract_append w 16 40 8
  have seven : w.extractLsb' 16 48 ++ w.extractLsb' 8 8 = w.extractLsb' 8 56 := extract_append w 8 48 8
  unfold word64
  rw [two, three, four, five, six, seven]
  exact (extract_append w 0 56 8).trans BitVec.extractLsb'_eq_self

theorem sampleWords_bytes (samples : List Sample) : sampleWords (samples.flatMap bytes16) = samples := by
  induction samples with
  | nil => rfl
  | cons w ws ih =>
    rw [List.flatMap_cons]
    change word16 _ _ :: sampleWords (ws.flatMap bytes16) = _
    rw [word16_bytes, ih]

theorem planEntries_bytes (entries : List PlanArgs) : planEntries (entries.flatMap PlanArgs.bytes) = entries := by
  induction entries with
  | nil => rfl
  | cons e es ih =>
    rw [List.flatMap_cons]
    change { e with keyLead := word16 _ _, timeLimit := word16 _ _ } :: planEntries (es.flatMap PlanArgs.bytes) = _
    rw [word16_bytes, word16_bytes, ih]

theorem length_flatMap_const {α β : Type} {f : α → List β} {n : Nat} (each : ∀ x, (f x).length = n) (xs : List α) :
    (xs.flatMap f).length = n * xs.length := by
  simp [List.length_flatMap, each, Nat.mul_comm]

theorem toNat_ofNat_byte {n : Nat} (small : n < 256) : (BitVec.ofNat 8 n).toNat = n := by
  rw [BitVec.toNat_ofNat]
  exact Nat.mod_eq_of_lt small

/-! ## Bodies -/

theorem ofCode_code (k : Kind) : Kind.ofCode k.code = some k := by cases k <;> rfl

theorem vector4_eq {α : Type} (v : Vector α 4) : ∃ a b c d, v = #v[a, b, c, d] := by
  obtain ⟨⟨xs⟩, size⟩ := v
  match xs, size with
  | [a, b, c, d], _ => exact ⟨a, b, c, d, rfl⟩

theorem vector8_eq {α : Type} (v : Vector α 8) : ∃ a b c d e f g i, v = #v[a, b, c, d, e, f, g, i] := by
  obtain ⟨⟨xs⟩, size⟩ := v
  match xs, size with
  | [a, b, c, d, e, f, g, i], _ => exact ⟨a, b, c, d, e, f, g, i, rfl⟩

theorem readBody_agency (a : AgencyArgs) :
    readBody h .agency ([a.agency, a.valid] ++ a.code.toList ++ [a.base, a.count]) = .request (.agency h a) := by
  obtain ⟨agency, valid, code, base, count⟩ := a
  obtain ⟨c, d, e, f, rfl⟩ := vector4_eq code
  rfl

theorem readBody_setLeg (a : SetLegArgs) : readBody h .setLeg ([a.leg, a.inputMode, a.carrierPolarity] ++
    bytes16 a.rise ++ bytes16 a.drop ++ [a.vox, a.auxFunction, a.auxPolarity] ++ bytes16 a.window ++
    [a.mask, a.options]) = .request (.setLeg h a) := by
  change Reading.request (.setLeg h { a with rise := word16 _ _, drop := word16 _ _, window := word16 _ _ }) = _
  rw [word16_bytes, word16_bytes, word16_bytes]

theorem readBody_access (patch : Byte) (list : AccessArgs) :
    readBody h .access (patch :: list.bytes) = .request (.access h patch list) := by
  change Reading.request (.access h patch ⟨list.all, word64 _ _ _ _ _ _ _ _⟩) = _
  rw [word64_bytes]

theorem readBody_openPatch (a : OpenArgs) : readBody h .openPatch (a.patch :: a.label.toList ++ a.access.bytes ++
    [a.margin] ++ bytes16 a.hang ++ bytes16 a.talkLimit ++ [a.floorNotices]) = .request (.openPatch h a) := by
  obtain ⟨patch, label, access, margin, hang, talkLimit, floorNotices⟩ := a
  obtain ⟨l0, l1, l2, l3, l4, l5, l6, l7, rfl⟩ := vector8_eq label
  change Reading.request (.openPatch h ⟨patch, _, ⟨access.all, word64 _ _ _ _ _ _ _ _⟩, margin, word16 _ _, word16 _ _,
    floorNotices⟩) = _
  rw [word64_bytes, word16_bytes, word16_bytes]

theorem readBody_plan (first : Byte) {entries : List PlanArgs} (few : entries.length ≤ 20) :
    readBody h .plan (first :: BitVec.ofNat 8 entries.length :: entries.flatMap PlanArgs.bytes) =
      .request (.plan h first entries) := by
  have length : (entries.flatMap PlanArgs.bytes).length = 12 * (BitVec.ofNat 8 entries.length).toNat := by
    rw [length_flatMap_const (n := 12) (fun _ => rfl), toNat_ofNat_byte (by omega)]
  refine (if_pos length).trans ?_
  rw [planEntries_bytes]

theorem readBody_loadDefine (slot level : Byte) (length : Word32) :
    readBody h .load ([0, slot] ++ bytes32 length ++ [level]) = .request (.loadDefine h slot length level) := by
  change Reading.request (.loadDefine h slot (word32 _ _ _ _) level) = _
  rw [word32_bytes]

theorem readBody_streamDefine (slot level : Byte) (length : Word32) :
    readBody h .stream ([0, slot] ++ bytes32 length ++ [level]) = .request (.streamDefine h slot length level) := by
  change Reading.request (.streamDefine h slot (word32 _ _ _ _) level) = _
  rw [word32_bytes]

theorem length_samples {samples : List Sample} (few : samples.length ≤ 124) :
    (samples.flatMap bytes16).length = 2 * (BitVec.ofNat 8 samples.length).toNat := by
  rw [length_flatMap_const (n := 2) (fun _ => rfl), toNat_ofNat_byte (by omega)]

theorem readBody_loadWrite (slot : Byte) (offset : Word32) {samples : List Sample} (few : samples.length ≤ 122) :
    readBody h .load ([1, slot] ++ bytes32 offset ++ [BitVec.ofNat 8 samples.length] ++ samples.flatMap bytes16) =
      .request (.loadWrite h slot offset samples) := by
  refine (if_pos (length_samples (by omega))).trans ?_
  change Reading.request (.loadWrite h slot (word32 _ _ _ _) (sampleWords (samples.flatMap bytes16))) = _
  rw [sampleWords_bytes, word32_bytes]

theorem readBody_streamData (slot : Byte) {samples : List Sample} (few : samples.length ≤ 124) :
    readBody h .stream ([1, slot, BitVec.ofNat 8 samples.length] ++ samples.flatMap bytes16) =
      .request (.streamData h slot samples) := by
  refine (if_pos (length_samples few)).trans ?_
  change Reading.request (.streamData h slot (sampleWords (samples.flatMap bytes16))) = _
  rw [sampleWords_bytes]

/-- A body reads as the request that writes it (R191, R195–R198). -/
theorem readBody_asRequest {i : Instr} {k : Kind} {body : List Byte} (formed : i.wellFormed = true)
    (row : i.asRequest = some (h, k, body)) : readBody h k body = .request i := by
  cases i <;> cases row
  case setLeg a => exact readBody_setLeg a
  case agency a => exact readBody_agency a
  case plan first entries => exact readBody_plan first (of_decide_eq_true formed)
  case openPatch a => exact readBody_openPatch a
  case access patch list => exact readBody_access patch list
  case seize patch leg =>
    have leg : leg ≠ 255 := by simpa [Instr.wellFormed] using formed
    exact congrArg Reading.request (if_neg leg)
  case loadDefine slot length level => exact readBody_loadDefine slot level length
  case loadWrite slot offset samples => exact readBody_loadWrite slot offset (of_decide_eq_true formed)
  case streamDefine slot length level => exact readBody_streamDefine slot level length
  case streamData slot samples => exact readBody_streamData slot (of_decide_eq_true formed)
  all_goals rfl

/-! ## Frames -/

/-- The receiver reads escaped content back (R168, R170). -/
theorem take_escaped (b : Byte) (content : List Byte) (room : content.length < 257) :
    (escaped b).foldl Receiver.take (.inFrame content false) = .inFrame (content ++ [b]) false := by
  unfold escaped
  split
  next special =>
    have marked : Receiver.take (.inFrame content false) escapeByte = .inFrame content true := rfl
    have code : b ^^^ 0x10 = 0xF7 ∨ b ^^^ 0x10 = 0xF6 := by
      obtain rfl | rfl := special <;> decide
    have back : b ^^^ 0x10 ^^^ 0x10 = b := by rw [BitVec.xor_assoc, BitVec.xor_self, BitVec.xor_zero]
    rw [List.foldl_cons, List.foldl_cons, List.foldl_nil, marked]
    refine (if_pos code).trans ((if_pos room).trans ?_)
    rw [back]
  next plain =>
    rw [List.foldl_cons, List.foldl_nil]
    exact (if_neg fun escape => plain (.inr escape)).trans (if_pos room)

theorem take_content (bytes content : List Byte) (room : (content ++ bytes).length ≤ 257) :
    (bytes.flatMap escaped).foldl Receiver.take (.inFrame content false) = .inFrame (content ++ bytes) false := by
  induction bytes generalizing content with
  | nil => simp
  | cons b bytes ih =>
    rw [List.length_append, List.length_cons] at room
    rw [List.flatMap_cons, List.foldl_append, take_escaped b content (by omega),
      ih (content ++ [b]) (by simp only [List.length_append, List.length_cons, List.length_nil]; omega)]
    simp

/-- Settles O14. -/
theorem framesReadAsTheyAreWritten : Obligations.FramesReadAsTheyAreWritten := by
  refine ⟨fun i h k body formed row => ⟨ofCode_code k, readBody_asRequest formed row⟩, fun content room => ⟨?_, ?_⟩⟩
  · have opened : Receiver.take .hunt delimiter = .inFrame [] false := rfl
    have shape : (frameBytes content).dropLast = delimiter :: (withCheckWord content).flatMap escaped := by
      rw [frameBytes, ← List.cons_append, List.dropLast_concat]
    rw [shape, List.foldl_cons, opened]
    exact take_content (withCheckWord content) [] room
  · rw [frameBytes, ← List.cons_append, List.getLast?_concat]

end Sys2Proof.Machine

/-! SUPPORT. The receiver and request handling (R170–R173). -/

namespace Sys2Proof.Machine

variable {s t u : State} {h : Header}

/-! ## The receiver -/

theorem takeByte_of_hunt (hunting : s.link.receiver = .hunt) (b : Byte) :
    s.takeByte b = s.setReceiver (if b = 0xE7 then .inFrame [] false else .hunt) := by
  unfold State.takeByte
  rw [hunting] <;> rfl

theorem takeByte_of_escape {content : List Byte} (pending : s.link.receiver = .inFrame content true) (b : Byte) :
    s.takeByte b = s.setReceiver
      (if (b = 0xF7 ∨ b = 0xF6) ∧ content.length < 257 then
        .inFrame (content ++ [if b = 0xF7 then 0xE7 else 0xE6]) false
      else .hunt) := by
  unfold State.takeByte
  rw [pending]
  refine congrArg s.setReceiver ?_
  change (if b = 0xF7 ∨ b = 0xF6 then
    if content.length < 257 then Receiver.inFrame (content ++ [b ^^^ 0x10]) false else .hunt else .hunt) = _
  by_cases code : b = 0xF7 ∨ b = 0xF6
  · have plain : b ^^^ 0x10 = if b = 0xF7 then 0xE7 else 0xE6 := by obtain rfl | rfl := code <;> decide
    rw [if_pos code, plain]
    exact if_congr (and_iff_right code).symm rfl rfl
  · rw [if_neg code, if_neg fun both => code both.1]

theorem takeByte_of_content {content : List Byte} (within : s.link.receiver = .inFrame content false) {b : Byte}
    (other : b ≠ 0xE7) : s.takeByte b = s.setReceiver
      (if b = 0xE6 then .inFrame content true
      else if content.length < 257 then .inFrame (content ++ [b]) false else .hunt) := by
  unfold State.takeByte
  rw [within]
  exact if_neg other

theorem takeByte_delimiter {content : List Byte} (within : s.link.receiver = .inFrame content false) :
    s.takeByte 0xE7 = (s.setReceiver (.inFrame [] false)).examine content := by
  unfold State.takeByte
  rw [within] <;> rfl

/-- The two rows that a delimiter comes by take the frame that it closes (R170). -/
theorem exec_closes {content : List Byte} (settled : s.Settled) (within : s.link.receiver = .inFrame content false) :
    exec .frameReceived s = .next ((s.setReceiver (.inFrame [] false)).examine content) ∧
      exec (.byteReceived (.byte 0xE7)) s = .next ((s.setReceiver (.inFrame [] false)).examine content) := by
  have closes := takeByte_delimiter within
  refine ⟨?_, ?_⟩
  · rw [exec_of_settled settled rfl]
    exact congrArg _ closes
  · rw [exec_of_settled settled rfl]
    exact congrArg _ closes

/-! ## Frames -/

theorem addressee_eq_none_iff (address : Byte) : s.addressee address = none ↔
    address ≠ 63 ∧ (s.hasStation = true → address.toNat ≠ s.link.address.toNat) := by
  have same : address = s.link.address.setWidth 8 ↔ address.toNat = s.link.address.toNat := by
    rw [← BitVec.toNat_inj, BitVec.toNat_setWidth, Nat.mod_eq_of_lt (by omega)]
  unfold State.addressee
  by_cases broadcast : address = 63
  · rw [if_pos broadcast]
    exact ⟨nofun, fun both => absurd broadcast both.1⟩
  · rw [if_neg broadcast]
    by_cases mine : (s.hasStation && decide (address = s.link.address.setWidth 8)) = true
    · rw [if_pos mine]
      rw [Bool.and_eq_true, decide_eq_true_eq, same] at mine
      exact ⟨nofun, fun both => absurd mine.2 (both.2 mine.1)⟩
    · rw [if_neg mine]
      rw [Bool.and_eq_true, decide_eq_true_eq, same] at mine
      exact ⟨fun _ => ⟨broadcast, fun station own => mine ⟨station, own⟩⟩, fun _ => rfl⟩

theorem addressee_broadcast : s.addressee 63 = some true := if_pos rfl

theorem addressee_own {address : Byte} (station : s.hasStation = true)
    (own : address.toNat = s.link.address.toNat) : s.addressee address = some false := by
  have narrow : address = s.link.address.setWidth 8 := by
    rw [← BitVec.toNat_inj, BitVec.toNat_setWidth, Nat.mod_eq_of_lt (by omega)]
    exact own
  have notBroadcast : address ≠ 63 := by
    intro all
    have reserved : s.link.address = 63 := by
      rw [← BitVec.toNat_inj, ← own, all] <;> rfl
    simp [State.hasStation, reserved] at station
  unfold State.addressee
  rw [if_neg notBroadcast, station]
  exact if_pos (by simpa using narrow)

/-- A frame that fails a check of length, check word or address is dropped (R171). -/
theorem examine_of_dropped {content : List Byte} (dropped : content.length < 5 ∨
    content.drop (content.length - 2) ≠ bytes16 (checkWord (content.take (content.length - 2))) ∨
    ∀ address, content.head? = some address → s.addressee address = none) : s.examine content = s := by
  unfold State.examine
  dsimp only
  by_cases short : content.length < 5
  · rw [if_pos short]
  · rw [if_neg short]
    by_cases broken : content.drop (content.length - 2) ≠ bytes16 (checkWord (content.take (content.length - 2)))
    · rw [if_pos broken]
    · rw [if_neg broken]
      have away : ∀ address, content.head? = some address → s.addressee address = none := by
        obtain less | wrong | away := dropped
        · exact absurd less short
        · exact absurd wrong broken
        · exact away
      split
      next address code tag body taken =>
        have head : content.head? = some address := by
          have prefixed := List.take_prefix (content.length - 2) content
          rw [taken] at prefixed
          obtain ⟨rest, rfl⟩ := prefixed
          rfl
        rw [away address head]
      next => rfl

/-- A frame closed by its check word reaches request handling if it is for this part (R171). -/
theorem examine_withCheckWord {address code tag : Byte} {body : List Byte} {broadcast : Bool}
    (taken : s.addressee address = some broadcast) :
    s.examine (withCheckWord ([address, code, tag] ++ body)) = s.handleRequest ⟨tag, broadcast⟩ code body := by
  generalize plain : [address, code, tag] ++ body = content
  have length : (withCheckWord content).length - 2 = content.length := by simp [withCheckWord]
  have long : ¬ (withCheckWord content).length < 5 := by
    rw [← plain]
    simp [withCheckWord]
  unfold State.examine
  dsimp only
  rw [if_neg long, length, withCheckWord, List.drop_left, List.take_left, if_neg (not_not_intro rfl), ← plain]
  change (match s.addressee address with
    | some broadcast => s.handleRequest ⟨tag, broadcast⟩ code body
    | none => s) = _
  rw [taken]

/-! ## Request handling -/

theorem handleRequest_unknown {code : Byte} (unknown : Kind.ofCode code = none) (body : List Byte) :
    s.handleRequest h code body = s.turnAway h code .unknown := by
  unfold State.handleRequest
  rw [unknown]

theorem handleRequest_wrongLength {code : Byte} {k : Kind} {body : List Byte} (known : Kind.ofCode code = some k)
    (reads : readBody h k body = .wrongLength) : s.handleRequest h code body = s.turnAway h code .length := by
  unfold State.handleRequest
  rw [known]
  dsimp only
  rw [reads]

theorem handleRequest_outOfRange {k : Kind} {body : List Byte} (reads : readBody h k body = .outOfRange) :
    s.handleRequest h k.code body = s.request h k fun s => s.refuse h k .range := by
  unfold State.handleRequest
  rw [ofCode_code]
  dsimp only
  rw [reads]

theorem handleRequest_request {k : Kind} {body : List Byte} {i : Instr} (reads : readBody h k body = .request i) :
    s.handleRequest h k.code body = handOver i s := by
  unfold State.handleRequest
  rw [ofCode_code]
  dsimp only
  rw [reads]

theorem turnAway_broadcast {tag code : Byte} {r : Result} : s.turnAway ⟨tag, true⟩ code r = s := if_pos rfl

theorem turnAway_addressed {tag code : Byte} {r : Result} (room : s.link.waiting.length < 4) :
    s.turnAway ⟨tag, false⟩ code r = s.answer ⟨tag, false⟩ code [r.code] :=
  if_neg (by simpa using (show ¬ Config.replyLimit ≤ s.link.waiting.length from Nat.not_le.mpr room))

/-- A frame for this part, of a kind or length that is not known, is turned away (R172). -/
theorem completes_turnedAway {tag code : Byte} {body : List Byte} {r : Result} (settled : s.Settled) (admits : s.Admits)
    (replies : s.discardsReplies = false)
    (within : s.link.receiver = .inFrame (withCheckWord ([s.link.address.setWidth 8, code, tag] ++ body)) false)
    (handles : (s.setReceiver (.inFrame [] false)).handleRequest ⟨tag, false⟩ code body =
      (s.setReceiver (.inFrame [] false)).turnAway ⟨tag, false⟩ code r) :
    Completes .frameReceived s ⟨tag, false⟩ code [r.code] (s.setReceiver (.inFrame [] false)) := by
  obtain ⟨station, room⟩ := admits
  have own : (s.link.address.setWidth 8).toNat = s.link.address.toNat := by
    rw [BitVec.toNat_setWidth, Nat.mod_eq_of_lt (by omega)]
  have mine : (s.setReceiver (.inFrame [] false)).addressee (s.link.address.setWidth 8) = some false :=
    addressee_own station own
  refine ⟨_, (exec_closes settled within).1, ?_⟩
  rw [examine_withCheckWord mine, handles, turnAway_addressed (s := s.setReceiver (.inFrame [] false)) room]
  exact answer_replied (s := s.setReceiver (.inFrame [] false)) code [r.code] replies

/-- A form or choice byte that names no row (R190, R191). -/
theorem readBody_outOfRange {k : Kind} {body : List Byte}
    (form : (∃ form, 1 < form.toNat ∧ ((k = .reset ∧ body = [form]) ∨
        ((k = .talk ∨ k = .declare) ∧ ∃ leg, body = [leg, form]) ∨
        (k = .monitor ∧ ∃ leg patch gain, body = [leg, patch, form, gain]) ∨
        (k = .stream ∧ ∃ rest, body = form :: rest))) ∨
      (k = .load ∧ ∃ form rest, body = form :: rest ∧ 2 < form.toNat)) :
    readBody h k body = .outOfRange ∧ servedBeside k = false := by
  have choose_out {form : Byte} (above : 1 < form.toNat) (zero one : Instr) : choose form zero one = .outOfRange := by
    have notZero : form ≠ 0 := by rintro rfl; simp at above
    have notOne : form ≠ 1 := by rintro rfl; simp at above
    rw [choose, if_neg notZero, if_neg notOne]
  obtain ⟨form, above, ⟨rfl, rfl⟩ | ⟨rfl | rfl, leg, rfl⟩ | ⟨rfl, leg, patch, gain, rfl⟩ | ⟨rfl, rest, rfl⟩⟩ |
    ⟨rfl, form, rest, rfl, above⟩ := form
  · exact ⟨choose_out above _ _, rfl⟩
  · exact ⟨choose_out above _ _, rfl⟩
  · exact ⟨choose_out above _ _, rfl⟩
  · exact ⟨choose_out above _ _, rfl⟩
  · refine ⟨?_, rfl⟩
    have notZero : form ≠ 0 := by rintro rfl; simp at above
    have notOne : form ≠ 1 := by rintro rfl; simp at above
    exact (if_neg notZero).trans (if_neg notOne)
  · refine ⟨?_, rfl⟩
    have notZero : form ≠ 0 := by rintro rfl; simp at above
    have notOne : form ≠ 1 := by rintro rfl; simp at above
    have notTwo : form ≠ 2 := by rintro rfl; simp at above
    exact (if_neg notZero).trans ((if_neg notOne).trans (if_neg notTwo))

/-- A request for this part that its taking refuses, in a state with nothing due: BUSY beside another (R172). -/
theorem request_refused {tag : Byte} {k : Kind} {r : Result} (settled : s.Settled) (admits : s.Admits)
    (alone : servedBeside k = false) : s.request ⟨tag, false⟩ k (fun s => s.refuse ⟨tag, false⟩ k r) =
      s.answer ⟨tag, false⟩ k.code [if s.link.inProgress.isSome then Result.busy.code else r.code] := by
  obtain ⟨station, room⟩ := admits
  have open' : (!s.hasStation || decide (Config.replyLimit ≤ s.link.waiting.length)) = false := by
    rw [station, decide_eq_false (show ¬ Config.replyLimit ≤ s.link.waiting.length from Nat.not_le.mpr room)] <;> rfl
  unfold State.request
  rw [settle_of_settled settled]
  dsimp only
  rw [if_neg Bool.false_ne_true, open', if_neg Bool.false_ne_true, alone]
  cases s.link.inProgress <;> rfl

/-- Settles O12. -/
theorem receiverTakesEachByte : Obligations.ReceiverTakesEachByte := by
  refine ⟨fun s b content settled => ⟨fun hunting => ?hunt, fun within other => ?content, fun pending => ?escape, ?error⟩,
    fun s content settled within dropped => ?dropped, fun s code tag body settled admits replies within => ?turnedAway,
    fun s k tag body settled admits replies within form => ?range, fun s code tag body settled within odd => ?broadcast⟩
  case hunt =>
    rw [exec_of_settled settled rfl]
    exact congrArg _ (takeByte_of_hunt hunting b)
  case content =>
    rw [exec_of_settled settled rfl]
    exact congrArg _ (takeByte_of_content within other)
  case escape =>
    rw [exec_of_settled settled rfl]
    exact congrArg _ (takeByte_of_escape pending b)
  case error => exact exec_of_settled (f := State.takeLineError) settled rfl
  case dropped =>
    have stays : (s.setReceiver (.inFrame [] false)).examine content = s.setReceiver (.inFrame [] false) :=
      examine_of_dropped (dropped.imp_right (Or.imp_right fun away address head =>
        (addressee_eq_none_iff address).mpr (away address head)))
    rw [(exec_closes settled within).1, (exec_closes settled within).2, stays]
    exact ⟨rfl, rfl⟩
  case turnedAway =>
    exact ⟨fun unknown => completes_turnedAway settled admits replies within (handleRequest_unknown unknown body),
      fun k known reads => completes_turnedAway settled admits replies within (handleRequest_wrongLength known reads)⟩
  case range =>
    obtain ⟨reads, alone⟩ := readBody_outOfRange (h := ⟨tag, false⟩) form
    have own : (s.link.address.setWidth 8).toNat = s.link.address.toNat := by
      rw [BitVec.toNat_setWidth, Nat.mod_eq_of_lt (by omega)]
    have mine : (s.setReceiver (.inFrame [] false)).addressee (s.link.address.setWidth 8) = some false :=
      addressee_own admits.1 own
    refine ⟨_, (exec_closes settled within).1, ?_⟩
    rw [examine_withCheckWord mine, handleRequest_outOfRange reads,
      request_refused (s := s.setReceiver (.inFrame [] false)) settled admits alone]
    exact answer_replied (s := s.setReceiver (.inFrame [] false)) k.code _ replies
  case broadcast =>
    rw [(exec_closes settled within).1, examine_withCheckWord addressee_broadcast]
    obtain unknown | ⟨k, known, reads⟩ := odd
    · rw [handleRequest_unknown unknown, turnAway_broadcast]
    · rw [handleRequest_wrongLength known reads, turnAway_broadcast]

/-- Settles O13. -/
theorem goodFrameIsItsRequest : Obligations.GoodFrameIsItsRequest := by
  intro s i h k body address settled formed row addressed within
  obtain ⟨take, taken⟩ := exists_taking row
  have mine : (s.setReceiver (.inFrame [] false)).addressee address = some h.broadcast := by
    obtain ⟨broadcast, rfl⟩ | ⟨single, station, own⟩ := addressed
    · rw [broadcast, addressee_broadcast]
    · rw [single]
      exact addressee_own station own
  have closes := exec_closes settled within
  rw [examine_withCheckWord mine, handleRequest_request (readBody_asRequest formed row),
    handOver_of_taking taken] at closes
  exact ⟨_, exec_of_taking taken _, closes.1, closes.2⟩

end Sys2Proof.Machine

/-! SUPPORT. Resets of the whole part, and the sending of replies (R174, R176, R178, R180). -/

namespace Sys2Proof.Machine

variable {s t u : State} {h : Header}

/-! ## The time stamp -/

theorem stamp_of_noticed {k m : Link} (noticed : Noticed k m) : m.stamp = k.stamp :=
  show m.quiet.stamp = k.quiet.stamp by rw [noticed.quiet]

theorem stamp_of_silent (same : t.silent = u.silent) : t.link.stamp = u.link.stamp :=
  show t.silent.link.stamp = u.silent.link.stamp by rw [same]

theorem answer_stamp (h : Header) (code : Byte) (body : List Byte) : (s.answer h code body).link.stamp = s.link.stamp := by
  unfold State.answer
  split
  · rfl
  · exact stamp_of_silent (formReply_silent _)

theorem finish_stamp (r : Result) (results : List Byte) : (s.finish r results).link.stamp = s.link.stamp := by
  unfold State.finish
  split
  · rfl
  · exact answer_stamp ..

theorem overlayEnded_stamp : s.overlayEnded.link.stamp = s.link.stamp := by
  have cleared : s.clearPlayback.link.stamp = s.link.stamp := by rw [clearPlayback_link]
  have told (r : EndReason) : (s.clearPlayback.offerClip s.context r).link.stamp = s.link.stamp :=
    (stamp_of_noticed (noticed_offer (s := s.clearPlayback) _ _ _)).trans cleared
  unfold State.overlayEnded
  dsimp only
  cases s.context.reason with
  | none =>
    dsimp only
    split
    · exact (finish_stamp ..).trans cleared
    · exact cleared
  | some r =>
    dsimp only
    split
    · exact (finish_stamp ..).trans (told r)
    · exact told r

theorem takeDueEnd_stamp : s.takeDueEnd.link.stamp = s.link.stamp := by
  unfold State.takeDueEnd
  cases s.context.endDue with
  | none => rfl
  | some r =>
    dsimp only
    unfold State.endPlayback
    cases s.context.mode with
    | take => exact stamp_of_noticed (arbitrates_endTake r).kept.link
    | overlay =>
      dsimp only
      unfold State.endOverlay
      split
      · unfold State.purgeOverlays
        dsimp only
        split
        · rw [overlayEnded_stamp, purge_link] <;> rfl
        · rw [purge_link] <;> rfl
      · rfl

theorem settle_stamp : s.settle.link.stamp = if s.resetIsDue then 0 else s.link.stamp := by
  unfold State.settle
  split
  · rfl
  · exact takeDueEnd_stamp

/-! ## The sending of replies -/

theorem startReply_of_idle (idle : s.link.sending = none) : s.startReply = { s with link := { s.link with
    sending := s.link.waiting.head?, waiting := s.link.waiting.tail } } := by
  have same : { s with link := { s.link with sending := none } } = s := by rw [← idle]
  unfold State.startReply
  rw [idle]
  cases waiting : s.link.waiting with
  | nil =>
    dsimp only [List.head?_nil, List.tail_nil]
    rw [← waiting]
    exact same.symm
  | cons r rest => rfl

/-- The state but for the reply path, put together again. -/
theorem eq_of_silent (same : t.silent = s.silent) :
    t = { s with link := { s.link with sending := t.link.sending, waiting := t.link.waiting } } := by
  have joined : t = { t.silent with link := { t.silent.link with
      sending := t.link.sending, waiting := t.link.waiting } } := rfl
  rw [same] at joined
  exact joined

/-- RESET ALL taken: its reply, and the replies that it waits for counted (R178; log 16). -/
theorem resetAll_taken (ready : s.Ready h) : ∃ t, exec (.resetAll h) s = .next t ∧
    t.replies = s.replies ++ replyTo h 0x03 [0x00] ∧
    t.link.inProgress = some ⟨.reset, h, .resetAll t.replies.length⟩ ∧
    t = { s with link := { s.link with
      inProgress := t.link.inProgress, sending := t.link.sending, waiting := t.link.waiting } } := by
  obtain ⟨same, replies⟩ := grantReply_replied (h := h) (k := .reset) (s := s) [] (discardsReplies_of_idle (Ready.idle ready))
  have run := exec_of_taking (i := .resetAll h) rfl s
  rw [request_of_ready ready] at run
  have count : (s.grantReply h .reset []).unsent = (s.grantReply h .reset []).replies.length := by
    unfold State.unsent State.replies
    cases (s.grantReply h .reset []).link.sending <;> simp [Nat.add_comm]
  refine ⟨_, run, replies, ?_, ?_⟩
  · exact congrArg (fun n => some (⟨.reset, h, .resetAll n⟩ : InProgress)) count
  · exact congrArg (fun u : State => u.begin h .reset (.resetAll (s.grantReply h .reset []).unsent)) (eq_of_silent same)

/-- The next reply begun, with the request in progress as it goes on. -/
def State.sendsNext (s : State) (p : Option InProgress) : State :=
  { s with link := { s.link with
      inProgress := p, sending := s.link.waiting.head?, waiting := s.link.waiting.tail } }

theorem sendsNext_replies (p : Option InProgress) : (s.sendsNext p).replies = s.link.waiting := by
  unfold State.sendsNext State.replies
  cases s.link.waiting <;> rfl

/-- The reply being sent leaves the path, and the next begins (R174). -/
theorem takeReplySent_of_other {r : Reply} (sending : s.link.sending = some r)
    (other : ∀ n, s.work ≠ some (.resetAll n)) : takeReplySent s = s.sendsNext s.link.inProgress := by
  unfold takeReplySent
  rw [sending]
  dsimp only
  split
  next n waits => exact absurd waits (other _)
  next => exact startReply_of_idle rfl

/-- A RESET ALL that waits for more replies goes on waiting (R178). -/
theorem takeReplySent_of_waits {r : Reply} {n : Nat} (sending : s.link.sending = some r)
    (waits : s.work = some (.resetAll (n + 2))) : takeReplySent s =
      s.sendsNext (s.link.inProgress.map fun r => { r with work := .resetAll (n + 1) }) := by
  unfold takeReplySent
  rw [sending, waits]
  exact (if_neg (Nat.succ_ne_zero n)).trans (startReply_of_idle rfl)

/-- A RESET ALL whose last reply is sent is due (R178). -/
theorem takeReplySent_of_last {r : Reply} (sending : s.link.sending = some r) (last : s.work = some (.resetAll 1)) :
    takeReplySent s = { s with link := { s.link with
      inProgress := s.link.inProgress.map fun r => { r with work := .resetAll 0 }, sending := none } } := by
  unfold takeReplySent
  rw [sending, last]
  rfl

/-- Settles O5. -/
theorem resetAllWaitsForItsReply : Obligations.ResetAllWaitsForItsReply := by
  refine ⟨fun address rate s => ⟨⟨_, rfl, rfl, rfl⟩, ?line⟩, ⟨fun h s ready => resetAll_taken ready, fun s due => ?takesPlace⟩,
    fun s r settled sending => ?sent⟩
  case line =>
    refine ⟨_, exec_of_happening rfl s, rfl, ?_⟩
    have stamp := settle_stamp (s := s)
    rw [← stamp] <;> rfl
  case takesPlace =>
    have settles : s.settle = s.takeReset := if_pos due
    refine ⟨_, exec_of_happening rfl s, ?_⟩
    rw [State.event, settles] <;> rfl
  case sent =>
    have run := exec_of_settled (i := .replySent) settled rfl
    by_cases other : ∀ n, s.work ≠ some (.resetAll n)
    · rw [takeReplySent_of_other sending other] at run
      exact ⟨_, run, sendsNext_replies _, rfl, fun _ => ⟨rfl, rfl⟩, fun n waits => absurd waits (other _),
        fun last => absurd last (other _)⟩
    · obtain ⟨n, waits⟩ := not_forall_not.mp other
      obtain ⟨p, progress, work⟩ := Option.map_eq_some_iff.mp waits
      match n with
      | 0 => exact absurd (decide_eq_true waits) (by rw [show decide _ = false from settled.1]; exact Bool.false_ne_true)
      | 1 =>
        rw [takeReplySent_of_last sending waits, progress] at run
        exact ⟨_, run, rfl, rfl, fun none => absurd waits (none _), fun m more => (nomatch waits.symm.trans more),
          fun _ => ⟨rfl, rfl⟩⟩
      | n + 2 =>
        rw [takeReplySent_of_waits sending waits, progress] at run
        refine ⟨_, run, sendsNext_replies _, rfl, fun none => absurd waits (none _), fun m more => ?_,
          fun last => (nomatch waits.symm.trans last)⟩
        obtain rfl : n = m := by simpa using waits.symm.trans more
        exact ⟨rfl, rfl⟩

end Sys2Proof.Machine

/-! SUPPORT. LOAD: the blocks a slot takes, the samples it holds (R144, R148–R150). -/

namespace Sys2Proof.Machine

variable {s t u : State} {h : Header}

/-- A request row whose taking is a refusal on u completes with u. -/
theorem row_refuses_changed {i : Instr} {k : Kind} {take : State → State} {r : Result} (ready : s.Ready h)
    (row : taking i = some (h, k, take)) (takes : take s = u.refuse h k r) (progress : u.link.inProgress = none) :
    Completes i s h k.code [r.code] u := by
  have run := exec_of_taking row s
  rw [request_of_ready ready, takes] at run
  exact ⟨_, run, refuse_replied r (discardsReplies_of_idle progress)⟩

/-! ## The free blocks -/

theorem blockHeld_iff {b : BlockId} : s.blockHeld b = true ↔ ∃ m, b ∈ (s.slot m).blocks := by
  rw [State.blockHeld, List.contains_iff_mem, List.mem_flatMap]
  exact exists_congr fun m => and_iff_right (List.mem_finRange m)

/-- With slot n emptied, a block is free when no other slot holds it. -/
theorem freeBlocks_emptied (n : SlotId) : (s.modSlot n fun _ => {}).freeBlocks =
    (List.finRange 256).filter fun b => decide (∀ m, m ≠ n → b ∉ (s.slot m).blocks) := by
  refine List.filter_congr fun b _ => Bool.eq_iff_iff.mpr ?_
  rw [Bool.not_eq_true', ← Bool.not_eq_true, decide_eq_true_iff, blockHeld_iff]
  constructor
  · intro unheld m other held
    exact unheld ⟨m, by rwa [slot_modSlot_ne _ _ other]⟩
  · rintro unheld ⟨m, held⟩
    rw [slot_modSlot] at held
    split at held
    next => exact List.not_mem_nil held
    next other => exact unheld m other held

theorem length_filter_not_mem_take {blocks : List BlockId} (once : blocks.Nodup) (k : Nat) :
    (blocks.filter fun b => decide (b ∉ blocks.take k)).length = blocks.length - k := by
  rw [← List.length_drop]
  refine congrArg List.length ?_
  conv_lhs => rw [← List.take_append_drop k blocks]
  rw [List.filter_append, List.take_append_drop, List.filter_eq_nil_iff.mpr fun b taken => by simp [taken],
    List.nil_append, List.filter_eq_self]
  intro b dropped
  rw [← List.take_append_drop k blocks] at once
  exact decide_eq_true fun taken => (List.disjoint_of_nodup_append once) taken dropped

/-- Blocks given to an empty slot are no longer free. -/
theorem freeBlocks_fillSlot {n : SlotId} {length level : Nat} {blocks : List BlockId} (empty : (s.slot n).blocks = []) :
    (fillSlot n length level blocks s).freeBlocks = s.freeBlocks.filter fun b => decide (b ∉ blocks) := by
  unfold State.freeBlocks
  rw [List.filter_filter]
  refine List.filter_congr fun b _ => ?_
  have held : (fillSlot n length level blocks s).blockHeld b = (s.blockHeld b || decide (b ∈ blocks)) := by
    rw [Bool.eq_iff_iff, Bool.or_eq_true, decide_eq_true_iff, blockHeld_iff, blockHeld_iff]
    constructor
    · rintro ⟨m, held⟩
      rw [fillSlot_slot] at held
      split at held
      next => exact .inr held
      next => exact .inl ⟨m, held⟩
    · rintro (⟨m, held⟩ | held)
      · refine ⟨m, ?_⟩
        rw [fillSlot_slot, if_neg (fun same => by rw [same, empty] at held; exact List.not_mem_nil held)]
        exact held
      · exact ⟨n, by rw [fillSlot_slot, if_pos rfl]; exact held⟩
  rw [held]
  cases s.blockHeld b <;> simp

/-! ## The samples of a clip -/

theorem address_eq {x : Slot} {k : Nat} (within : k / 512 < x.blocks.length) :
    x.address k = x.blocks[k / 512].val * 512 + k % 512 := by
  unfold Slot.address Config.blockSamples
  rw [List.getElem?_eq_getElem within]
  rfl

/-- Two positions of a clip are kept at two addresses: its blocks are distinct (R144). -/
theorem address_inj {x : Slot} {j k : Nat} (once : x.blocks.Nodup) (first : j / 512 < x.blocks.length)
    (second : k / 512 < x.blocks.length) (same : x.address j = x.address k) : j = k := by
  rw [address_eq first, address_eq second] at same
  have block : x.blocks[j / 512] = x.blocks[k / 512] := Fin.ext (by omega)
  have index : j / 512 = k / 512 := (List.Nodup.getElem_inj_iff once).mp block
  omega

/-- Samples written at consecutive positions: each is read back where it was written, and no other address changes. -/
theorem read_writeClip {address : Nat → Nat} (samples : List Sample) (m : Memory) (offset : Nat) (wf : m.wf)
    (apart : ∀ j k, j < samples.length → k < samples.length →
      address (offset + j) = address (offset + k) → j = k) :
    (∀ k, k < samples.length →
      (m.writeClip address offset samples).read (address (offset + k)) = samples.getD k 0) ∧
    ∀ a, (∀ k, k < samples.length → a ≠ address (offset + k)) →
      (m.writeClip address offset samples).read a = m.read a := by
  induction samples generalizing m offset with
  | nil => exact ⟨nofun, fun _ _ => rfl⟩
  | cons v vs ih =>
    have shift (k : Nat) : offset + 1 + k = offset + (k + 1) := by omega
    obtain ⟨written, untouched⟩ := ih (m.write (address offset) v) (offset + 1) (m.wf_write _ _ wf)
      fun j k first second same => by
        rw [shift, shift] at same
        exact Nat.succ.inj (apart (j + 1) (k + 1) (Nat.succ_lt_succ first) (Nat.succ_lt_succ second) same)
    refine ⟨fun k within => ?_, fun a elsewhere => ?_⟩
    · cases k with
      | zero =>
        refine (untouched _ fun k within same => ?_).trans ((m.read_write _ _ wf _).trans (if_pos rfl))
        rw [shift] at same
        exact absurd (apart 0 (k + 1) (Nat.succ_pos _) (Nat.succ_lt_succ within) same) (by omega)
      | succ k => exact shift k ▸ written k (Nat.lt_of_succ_lt_succ within)
    · refine (untouched a fun k within => ?_).trans ((m.read_write _ _ wf _).trans (if_neg ?_))
      · rw [shift]
        exact elsewhere (k + 1) (Nat.succ_lt_succ within)
      · exact elsewhere 0 (Nat.succ_pos _)

/-- A sample of a zeroed block reads 0, by the block and the place in it. -/
theorem read_zeroBlocks_at (m : Memory) (blocks : List BlockId) (b : Nat) {k : Nat} (place : k < 512) :
    (m.zeroBlocks blocks).read (512 * b + k) = if (blocks.any fun x => x.val = b) then 0 else m.read (512 * b + k) := by
  rw [Memory.read_zeroBlocks, show (512 * b + k) / Config.blockSamples = b by unfold Config.blockSamples; omega]

/-! ## The three forms -/

section
variable {slot level : Byte} {n : SlotId} {length offset : Word32} {samples : List Sample}

theorem takeLoadDefine_of_inRange (named : slot.toNat = n.val) (low : 1 ≤ length.toNat)
    (high : length.toNat ≤ 131072)
    (levels : level.toNat ≤ 15) : takeLoadDefine h slot length level s =
      if (s.slot n).state = .empty ∨ (s.slot n).state = .ready then
        if (s.modSlot n fun _ => {}).freeBlocks.length < blocksFor length.toNat then
          (s.modSlot n fun _ => {}).refuse h .load .memoryFull
        else
          let t := fillSlot n length.toNat level.toNat
            ((s.modSlot n fun _ => {}).freeBlocks.take (blocksFor length.toNat)) (s.modSlot n fun _ => {})
          t.grantReply h .load (num16 t.freeBlocks.length)
      else s.refuse h .load .slotState := by
  unfold takeLoadDefine
  rw [slotOf_eq_some_iff.mpr named]
  simp only [low, high, levels, decide_true, Bool.and_self]
  cases (s.slot n).state <;> rfl

theorem takeLoadWrite_of_inRange (named : slot.toNat = n.val) (offsets : offset.toNat ≤ 131071)
    (low : 1 ≤ samples.length) (high : samples.length ≤ 120) : takeLoadWrite h slot offset samples s =
      if (s.slot n).state ≠ .ready then s.refuse h .load .slotState
      else if (s.slot n).length < offset.toNat + samples.length then s.refuse h .load .range
      else (writeSlot n offset.toNat samples s).grantReply h .load [] := by
  unfold takeLoadWrite
  rw [slotOf_eq_some_iff.mpr named]
  simp only [low, high, offsets, decide_true, Bool.and_self]

theorem takeLoadRelease_of_slot (named : slot.toNat = n.val) : takeLoadRelease h slot s =
    if (s.slot n).state.inUse then s.refuse h .load .slotState else (releaseSlot n s).grantReply h .load [] := by
  rw [takeLoadRelease, slotOf_eq_some_iff.mpr named]

/-- LOAD DEFINE in an EMPTY or READY slot with room for the clip (R148). -/
theorem define_fills (ready : s.Ready h) (named : slot.toNat = n.val) (low : 1 ≤ length.toNat)
    (high : length.toNat ≤ 131072) (levels : level.toNat ≤ 15)
    (state : (s.slot n).state = .empty ∨ (s.slot n).state = .ready) :
    let free := (s.modSlot n fun _ => {}).freeBlocks
    let need := blocksFor length.toNat
    need ≤ free.length → ∃ u : State,
      Completes (.loadDefine h slot length level) s h 0x50
        (0x00 :: bytes16 (BitVec.ofNat 16 (free.length - need))) u ∧
      u = { s with clips := { s.clips with slots := u.clips.slots, memory := u.clips.memory } } ∧
      u.slot n = { state := .ready, mode := some .stored, length := length.toNat, blocks := free.take need,
                   level := level.toNat } ∧
      (∀ m, m ≠ n → u.slot m = s.slot m) ∧
      ∀ b k : Nat, k < 512 → u.clips.memory.read (512 * b + k) =
        if ((free.take need).any fun x => x.val = b) then 0 else s.clips.memory.read (512 * b + k) := by
  intro free need room
  have empty : ((s.modSlot n fun _ => {}).slot n).blocks = [] := by rw [slot_modSlot_same]
  have left : (fillSlot n length.toNat level.toNat (free.take need) (s.modSlot n fun _ => {})).freeBlocks.length =
      free.length - need := by
    rw [freeBlocks_fillSlot empty]
    exact length_filter_not_mem_take ((List.nodup_finRange 256).filter _) need
  refine ⟨fillSlot n length.toNat level.toNat (free.take need) (s.modSlot n fun _ => {}), ?_, rfl, ?_,
    fun m other => ?_, fun b k place => ?_⟩
  · rw [← left]
    refine row_grants (i := .loadDefine h slot length level) (k := .load) ready rfl ?_ (Ready.idle ready)
    rw [takeLoadDefine_of_inRange named low high levels, if_pos state, if_neg (Nat.not_lt.mpr room)] <;> rfl
  · rw [fillSlot_slot, if_pos rfl]
  · rw [fillSlot_slot, if_neg other, slot_modSlot_ne _ _ other]
  · exact read_zeroBlocks_at _ _ _ place

/-- LOAD WRITE inside the length of a READY slot (R149). -/
theorem write_writes (ready : s.Ready h) (named : slot.toNat = n.val) (offsets : offset.toNat ≤ 131071)
    (low : 1 ≤ samples.length) (high : samples.length ≤ 120) (state : (s.slot n).state = .ready)
    (within : offset.toNat + samples.length ≤ (s.slot n).length)
    (room : (s.slot n).length ≤ 512 * (s.slot n).blocks.length) (once : (s.slot n).blocks.Nodup)
    (wf : s.clips.memory.wf) : ∃ u : State, Completes (.loadWrite h slot offset samples) s h 0x50 [0x00] u ∧
      u = { s with clips := { s.clips with memory := u.clips.memory } } ∧
      (∀ k, k < samples.length →
        u.clips.memory.read ((s.slot n).address (offset.toNat + k)) = samples.getD k 0) ∧
      ∀ a, (∀ k, k < samples.length → a ≠ (s.slot n).address (offset.toNat + k)) →
        u.clips.memory.read a = s.clips.memory.read a := by
  have holds (k : Nat) (written : k < samples.length) : (offset.toNat + k) / 512 < (s.slot n).blocks.length := by omega
  obtain ⟨written, untouched⟩ :=
    read_writeClip (address := (s.slot n).address) samples s.clips.memory offset.toNat wf
    fun j k first second same => by
      have := address_inj once (holds j first) (holds k second) same
      omega
  refine ⟨writeSlot n offset.toNat samples s,
    row_grants (i := .loadWrite h slot offset samples) (k := .load) ready rfl ?_ (Ready.idle ready), rfl,
    written, untouched⟩
  rw [takeLoadWrite_of_inRange named offsets low high, if_neg (not_not_intro state), if_neg (Nat.not_lt.mpr within)]

end

/-- Settles O51: each form of LOAD by the state of its slot. -/
theorem loadWritesTheSlots : Obligations.LoadWritesTheSlots := by
  refine ⟨fun h slot length offset level samples s ready => ⟨fun outOfRange => ?_, fun outOfRange => ?_,
    fun outOfRange => ?_⟩, fun h slot n s ready named => ⟨fun length level low high levels => ?_,
    fun offset samples offsets low high => ?_, ?_⟩⟩
  · exact row_refuses ready rfl (takeLoadDefine_of_outOfRange outOfRange)
  · exact row_refuses ready rfl (takeLoadWrite_of_outOfRange outOfRange)
  · exact row_refuses ready rfl (takeLoadRelease_of_outOfRange outOfRange)
  · have takes := takeLoadDefine_of_inRange (h := h) (s := s) named low high levels
    intro i free need
    have same : (s.modSlot n fun _ => {}).freeBlocks = free := freeBlocks_emptied n
    refine ⟨fun used unready => ?_, fun state => ⟨fun few => ?_, fun room => ?_⟩⟩
    · exact row_refuses ready rfl (takes.trans (if_neg (not_or.mpr ⟨used, unready⟩)))
    · refine row_refuses_changed (i := .loadDefine h slot length level) (k := .load) (u := s.modSlot n fun _ => {})
        (r := .memoryFull) ready
        rfl ?_ (Ready.idle ready)
      rw [takes, if_pos state, if_pos (by rw [same]; exact few)] <;> rfl
    · have fills := define_fills ready named low high levels state
      rw [same] at fills
      exact fills room
  · have takes := takeLoadWrite_of_inRange (h := h) (s := s) named offsets low high
    refine ⟨fun unready => ?_, fun state beyond => ?_, fun state within room once wf => ?_⟩
    · exact row_refuses ready rfl (takes.trans (if_pos unready))
    · exact row_refuses ready rfl (takes.trans ((if_neg (not_not_intro state)).trans (if_pos beyond)))
    · exact write_writes ready named offsets low high state within room once wf
  · have takes := takeLoadRelease_of_slot (h := h) (s := s) named
    have grants {u : State} (release : releaseSlot n s = u) (unused : (s.slot n).state.inUse = false)
        (idle : u.link.inProgress = none) : Completes (.loadRelease h slot) s h 0x50 [0x00] u :=
      row_grants (k := .load) ready rfl (takes.trans ((if_neg (by rw [unused]; nofun)).trans (by rw [release]))) idle
    refine ⟨fun state => ?_, fun state => ?_, fun state => ?_, fun state => ?_⟩
    · exact grants (by rw [releaseSlot, state]) (by rw [state] <;> rfl) (Ready.idle ready)
    · exact grants (by rw [releaseSlot, state]) (by rw [state] <;> rfl) (Ready.idle ready)
    · exact grants (by rw [releaseSlot, state] <;> rfl) (by rw [state] <;> rfl) (Ready.idle ready)
    · have used : (s.slot n).state.inUse = true := by rcases state with state | state <;> rw [state] <;> rfl
      exact row_refuses ready rfl (takes.trans (if_pos used))

end Sys2Proof.Machine

/-! SUPPORT. The CLIP block of a frame: the passes of a stored clip, the ring, the cut tone (R156–R158). -/

namespace Sys2Proof.Machine

variable {s t u : State}

/-! ## Samples by their place -/

theorem getD_map_range (f : Nat → Sample) (n i : Nat) :
    ((List.range n).map f).getD i 0 = if i < n then f i else 0 := by
  rw [List.getD_eq_getElem?_getD, List.getElem?_map]
  split
  next within => rw [List.getElem?_range within] <;> rfl
  next beyond => rw [List.getElem?_eq_none (by rw [List.length_range]; exact Nat.not_lt.mp beyond)] <;> rfl

theorem getD_append_apart (xs ys : List Sample) (i : Nat) :
    (xs ++ ys).getD i 0 = if i < xs.length then xs.getD i 0 else ys.getD (i - xs.length) 0 := by
  split
  next within => exact List.getD_append _ _ _ _ within
  next beyond => exact List.getD_append_right _ _ _ _ (Nat.not_lt.mp beyond)

theorem getD_replicate_zero (n i : Nat) : (List.replicate n (0 : Sample)).getD i 0 = 0 := by
  rw [List.getD_eq_getElem?_getD, List.getElem?_replicate]
  split <;> rfl

/-- A sample of the CLIP block: attenuated by the slot's level in TAKE mode (R156). -/
def atLevel (mode : PlayMode) (level : Nat) (v : Sample) : Sample :=
  match mode with
  | .take => BitVec.ofInt 16 (attenuate level v.toInt)
  | .overlay => v

theorem levelled_eq (mode : PlayMode) (level : Nat) (xs : List Sample) {f : Nat → Sample}
    (places : ∀ i, i < 8 → xs.getD i 0 = f i) :
    levelled mode level xs = Vector.ofFn fun i => atLevel mode level (f i.val) := by
  unfold levelled blockOf
  cases mode with
  | take =>
    refine congrArg Vector.ofFn (funext fun i => ?_)
    have silent : (0 : Sample) = BitVec.ofInt 16 (attenuate level (0 : Sample).toInt) := by simp [attenuate]
    rw [← places i.val i.isLt]
    conv_lhs => rw [silent]
    exact List.getD_map xs 0 fun x : Sample => BitVec.ofInt 16 (attenuate level x.toInt)
  | overlay => exact congrArg Vector.ofFn (funext fun i => places i.val i.isLt)

/-! ## Stored samples -/

/-- A context after so many samples of its clip, inside a pass (R156). -/
def Context.advanced (n : Nat) (c : Context) : Context :=
  { c with position := c.position + n, played := c.played + BitVec.ofNat 32 n }

theorem advanced_zero (c : Context) : c.advanced 0 = c := by
  simp [Context.advanced]

theorem advanced_advanced (m n : Nat) (c : Context) : (c.advanced m).advanced n = c.advanced (m + n) := by
  unfold Context.advanced
  dsimp only
  rw [Nat.add_assoc, BitVec.add_assoc, ← BitVec.ofNat_add]

section
variable {read : Nat → Sample} {length free : Nat} {c : Context}

theorem endPass_endless (repeats : c.repeats = 0) : c.endPass length free = { c with position := 0 } := by
  rw [Context.endPass.eq_def]
  split
  next => rfl
  next one => exact absurd (repeats.symm.trans one) (by decide)
  next more _ => exact absurd repeats more

theorem endPass_last (repeats : c.repeats = 1) : c.endPass length free =
    { c with position := Config.lastPosition free % length, endDue := some .complete } := by
  rw [Context.endPass.eq_def]
  split
  next zero => exact absurd (repeats.symm.trans zero) (by decide)
  next => rfl
  next more => exact absurd repeats more

theorem endPass_more (repeats : 2 ≤ c.repeats) :
    c.endPass length free = { c with position := 0, repeats := c.repeats - 1 } := by
  rw [Context.endPass.eq_def]
  split
  next zero => omega
  next one => omega
  next => rfl

theorem supplyOne_eq (going : c.endDue = none) : c.supplyOne read length free =
    (read c.position, if c.position + 1 = length then (c.advanced 1).endPass length free else c.advanced 1) := by
  exact if_neg (by rw [going]; nofun)

theorem supplyStored_succ (n : Nat) : c.supplyStored read length free (n + 1) =
    ((c.supplyOne read length free).1 :: ((c.supplyOne read length free).2.supplyStored read length free n).1,
      ((c.supplyOne read length free).2.supplyStored read length free n).2) := rfl

theorem supplyStored_add (m n : Nat) : c.supplyStored read length free (m + n) =
    ((c.supplyStored read length free m).1 ++ ((c.supplyStored read length free m).2.supplyStored read length free n).1,
      ((c.supplyStored read length free m).2.supplyStored read length free n).2) := by
  induction m generalizing c with
  | zero => rw [Nat.zero_add] <;> rfl
  | succ m ih => rw [Nat.succ_add, supplyStored_succ, supplyStored_succ, ih] <;> rfl

theorem supplyStored_of_due (due : c.endDue.isSome = true) (n : Nat) :
    c.supplyStored read length free n = (List.replicate n 0, c) := by
  have one : c.supplyOne read length free = (0, c) := if_pos due
  induction n with
  | zero => rfl
  | succ n ih => rw [supplyStored_succ, one, ih] <;> rfl

/-- The samples up to a place before the end of the pass. -/
theorem supplyStored_inside (going : c.endDue = none) (n : Nat) (inside : c.position + n < length) :
    c.supplyStored read length free n = ((List.range n).map fun k => read (c.position + k), c.advanced n) := by
  induction n with
  | zero => rw [advanced_zero] <;> rfl
  | succ n ih =>
    have still : (c.advanced n).endDue = none := going
    have before : (c.advanced n).position + 1 ≠ length := Nat.ne_of_lt inside
    rw [supplyStored_add, ih (by omega), supplyStored_succ, supplyOne_eq still, if_neg before, advanced_advanced,
      List.range_succ, List.map_append]
    rfl

/-- The samples up to the end of the pass. -/
theorem supplyStored_pass (going : c.endDue = none) (within : c.position < length) :
    c.supplyStored read length free (length - c.position) =
      ((List.range (length - c.position)).map fun k => read (c.position + k),
        (c.advanced (length - c.position)).endPass length free) := by
  obtain ⟨n, rest⟩ : ∃ n, length - c.position = n + 1 := ⟨length - c.position - 1, by omega⟩
  have still : (c.advanced n).endDue = none := going
  have last : (c.advanced n).position + 1 = length := by
    show c.position + n + 1 = length
    omega
  rw [rest, supplyStored_add, supplyStored_inside going n (by omega), supplyStored_succ, supplyOne_eq still,
    if_pos last, advanced_advanced, List.range_succ, List.map_append]
  rfl

/-- A context after so many samples of a clip that goes round (R147). -/
def Context.round (length n : Nat) (c : Context) : Context :=
  { c with position := (c.position + n) % length, played := c.played + BitVec.ofNat 32 n }

theorem supplyOne_endless (going : c.endDue = none) (repeats : c.repeats = 0) (within : c.position < length) :
    c.supplyOne read length free = (read c.position, c.round length 1) := by
  rw [supplyOne_eq going]
  refine congrArg (Prod.mk _) ?_
  unfold Context.round
  split
  next last =>
    rw [last, Nat.mod_self]
    exact endPass_endless (c := c.advanced 1) repeats
  next before => rw [Nat.mod_eq_of_lt (by omega)] <;> rfl

/-- With repeats 0 the clip goes round (R147). -/
theorem supplyStored_endless (going : c.endDue = none) (repeats : c.repeats = 0) (n : Nat)
    (within : c.position < length) : c.supplyStored read length free n =
      ((List.range n).map fun k => read ((c.position + k) % length), c.round length n) := by
  induction n with
  | zero => simp [Context.supplyStored, Context.round, Nat.mod_eq_of_lt within]
  | succ n ih =>
    have still : (c.round length n).endDue = none := going
    have endless : (c.round length n).repeats = 0 := repeats
    have below : (c.round length n).position < length := Nat.mod_lt _ (by omega)
    have further : (c.round length n).round length 1 = c.round length (n + 1) := by
      unfold Context.round
      dsimp only
      rw [Nat.mod_add_mod, Nat.add_assoc, BitVec.add_assoc, ← BitVec.ofNat_add]
    rw [supplyStored_add, ih, supplyStored_succ, supplyOne_endless still endless below, further, List.range_succ,
      List.map_append]
    rfl

end

/-! ## The block by the phase -/

theorem supplyClip_silent
    (phase : s.context.phase = .none ∨ s.context.phase = .waiting ∨ s.context.phase = .ending) :
    s.supplyClip = (silence, s) := by
  unfold State.supplyClip
  dsimp only
  split
  · rfl
  · rcases phase with phase | phase | phase <;> rw [phase]

theorem supplyClip_stored (going : s.context.endDue = none) (phase : s.context.phase = .playing)
    (mode : (s.slot s.context.slot).mode = some .stored) :
    let x := s.slot s.context.slot
    let r := s.context.supplyStored (fun k => s.clips.memory.read (x.address k)) x.length s.freeCount 8
    s.supplyClip.1 = levelled s.context.mode x.level r.1 ∧ s.supplyClip.2.context = r.2 := by
  unfold State.supplyClip
  dsimp only
  rw [going, phase, mode]
  exact ⟨rfl, rfl⟩

theorem supplyClip_stream (going : s.context.endDue = none) (phase : s.context.phase = .playing)
    (mode : (s.slot s.context.slot).mode = some .stream) :
    let x := s.slot s.context.slot
    let r := s.context.supplyStream s.clips.ring x.length
    s.supplyClip.1 = levelled s.context.mode x.level r.1 ∧ s.supplyClip.2.context = r.2.2 ∧
      s.supplyClip.2.clips.ring = r.2.1 := by
  unfold State.supplyClip
  dsimp only
  rw [going, phase, mode]
  exact ⟨rfl, rfl, rfl⟩

theorem supplyClip_tone (going : s.context.endDue = none) (phase : s.context.phase = .tone) :
    s.supplyClip.1 = levelled s.context.mode (s.slot s.context.slot).level (s.context.supplyTone 8).1 ∧
      s.supplyClip.2.context = (s.context.supplyTone 8).2 := by
  unfold State.supplyClip
  dsimp only
  rw [going, phase]
  exact ⟨rfl, rfl⟩

section
variable {read : Nat → Sample} {length free : Nat} {c : Context}

/-- The last pass of a stored clip: silence behind its last sample, and the end is due (R156). -/
theorem supplyStored_last (going : c.endDue = none) (repeats : c.repeats = 1) (within : c.position < length)
    (ends : length ≤ c.position + 8) :
    (∀ i, (c.supplyStored read length free 8).1.getD i 0 =
      if c.position + i < length then read (c.position + i) else 0) ∧
    (c.supplyStored read length free 8).2.endDue = some .complete ∧
    (c.supplyStored read length free 8).2.position < length ∧
    (c.supplyStored read length free 8).2.played = c.played + BitVec.ofNat 32 (length - c.position) := by
  have split : 8 = (length - c.position) + (8 - (length - c.position)) := by omega
  have supply : c.supplyStored read length free 8 =
      ((List.range (length - c.position)).map (fun k => read (c.position + k)) ++
        List.replicate (8 - (length - c.position)) 0, { c.advanced (length - c.position) with
          position := Config.lastPosition free % length, endDue := some .complete }) := by
    conv_lhs => rw [split]
    rw [supplyStored_add, supplyStored_pass going within, endPass_last (c := c.advanced _) repeats,
      supplyStored_of_due rfl]
  rw [supply]
  refine ⟨fun i => ?_, rfl, Nat.mod_lt _ (by omega), rfl⟩
  rw [getD_append_apart, getD_map_range, getD_replicate_zero, List.length_map, List.length_range]
  by_cases inside : i < length - c.position
  · rw [if_pos inside, if_pos inside, if_pos (by omega)]
  · rw [if_neg inside, if_neg (by omega)]

/-- A pass of a stored clip that ends with more to come: the next begins behind it (R147, R156). -/
theorem supplyStored_wraps (going : c.endDue = none) (repeats : 2 ≤ c.repeats) (within : c.position < length)
    (ends : length ≤ c.position + 8) (long : 8 ≤ length) :
    (∀ i, i < 8 → (c.supplyStored read length free 8).1.getD i 0 = read ((c.position + i) % length)) ∧
    (c.supplyStored read length free 8).2 =
      { c with position := (c.position + 8) % length, repeats := c.repeats - 1, played := c.played + 8 } := by
  have begins := supplyStored_inside (read := read) (free := free)
    (c := { c.advanced (length - c.position) with position := 0, repeats := c.repeats - 1 }) going
    (8 - (length - c.position)) (show 0 + (8 - (length - c.position)) < length by omega)
  have split : 8 = (length - c.position) + (8 - (length - c.position)) := by omega
  have supply : c.supplyStored read length free 8 =
      ((List.range (length - c.position)).map (fun k => read (c.position + k)) ++
        (List.range (8 - (length - c.position))).map (fun k => read (0 + k)),
        { c with position := 0 + (8 - (length - c.position)), repeats := c.repeats - 1
                 played := c.played + BitVec.ofNat 32 (length - c.position) +
                   BitVec.ofNat 32 (8 - (length - c.position)) }) := by
    conv_lhs => rw [split]
    rw [supplyStored_add, supplyStored_pass going within, endPass_more (c := c.advanced _) repeats]
    exact congrArg₂ Prod.mk (congrArg _ (congrArg Prod.fst begins)) (congrArg Prod.snd begins)
  rw [supply]
  refine ⟨fun i place => ?_, ?_⟩
  · rw [getD_append_apart, getD_map_range, getD_map_range, List.length_map, List.length_range]
    by_cases inside : i < length - c.position
    · rw [if_pos inside, if_pos inside, Nat.mod_eq_of_lt (by omega)]
    · rw [if_neg inside, if_pos (by omega), Nat.mod_eq_sub_mod (by omega), Nat.mod_eq_of_lt (by omega)]
      exact congrArg read (by omega)
  · rw [BitVec.add_assoc, ← BitVec.ofNat_add, ← split, Nat.mod_eq_sub_mod (by omega), Nat.mod_eq_of_lt (by omega),
      show 0 + (8 - (length - c.position)) = c.position + 8 - length by omega]
    rfl

/-- Cut tone in the places left to it, silence behind its 1,600th sample (R158). -/
theorem supplyTone_eq (going : c.endDue = none) (places : Nat) (below : c.tone ≤ 1600) :
    (∀ i, i < places → (c.supplyTone places).1.getD i 0 =
      if c.tone + i < 1600 then toneSample (c.tone + i) else 0) ∧
    (c.supplyTone places).2 = { c with
      tone := min 1600 (c.tone + places), endDue := if 1600 ≤ c.tone + places then some .underrun else none } := by
  unfold Context.supplyTone Config.toneSamples
  dsimp only
  refine ⟨fun i place => ?_, ?_⟩
  · rw [getD_append_apart, getD_map_range, getD_replicate_zero, List.length_map, List.length_range]
    by_cases sounds : c.tone + i < 1600
    · rw [if_pos (by omega), if_pos (by omega), if_pos sounds]
    · rw [if_neg (by omega), if_neg sounds]
  · rw [show c.tone + min places (1600 - c.tone) = min 1600 (c.tone + places) by omega]
    by_cases ends : 1600 ≤ c.tone + places
    · rw [if_pos (by omega), if_pos ends]
    · rw [if_neg (by omega), if_neg ends, ← going]

/-- A ring that fills its places of the block (R157). -/
theorem supplyStream_filled {ring : List Sample} (going : c.endDue = none)
    (filled : min 8 (length - c.played.toNat) ≤ ring.length) :
    let need := min 8 (length - c.played.toNat)
    (∀ i, (c.supplyStream ring length).1.getD i 0 = if i < need then ring.getD i 0 else 0) ∧
    (c.supplyStream ring length).2 = (ring.drop need, { c with
      played := c.played + BitVec.ofNat 32 need
      endDue := if (c.played + BitVec.ofNat 32 need).toNat = length then some .complete else none }) := by
  unfold Context.supplyStream
  dsimp only
  rw [if_pos filled]
  refine ⟨fun i => ?_, congrArg (Prod.mk _) ?_⟩
  · rw [getD_append_apart, getD_replicate_zero, List.length_take, Nat.min_eq_left filled]
    split
    next inside => simp only [List.getD_eq_getElem?_getD, List.getElem?_take_of_lt inside]
    next => rfl
  · split
    · rfl
    · rw [← going]

/-- A ring that runs empty inside the block: cut tone fills the rest (R158). -/
theorem supplyStream_underrun {ring : List Sample} (going : c.endDue = none) (tone : c.tone = 0)
    (short : ring.length < min 8 (length - c.played.toNat)) :
    (∀ i, i < 8 → (c.supplyStream ring length).1.getD i 0 = ring.getD i (toneSample (i - ring.length))) ∧
    (c.supplyStream ring length).2 = ([], { c with
      phase := .tone, tone := 8 - ring.length, played := c.played + BitVec.ofNat 32 ring.length }) := by
  unfold Context.supplyStream
  dsimp only
  rw [if_neg (Nat.not_le.mpr short)]
  obtain ⟨sounds, after⟩ := supplyTone_eq
    (c := { c with played := c.played + BitVec.ofNat 32 ring.length, phase := .tone }) going (8 - ring.length)
    (by rw [tone]; omega)
  refine ⟨fun i place => ?_, congrArg (Prod.mk _) (after.trans ?_)⟩
  · rw [getD_append_apart]
    split
    next within => rw [List.getD_eq_getElem _ _ within, List.getD_eq_getElem _ _ within]
    next beyond =>
      rw [sounds _ (by omega), List.getD_eq_default _ _ (Nat.not_lt.mp beyond)]
      dsimp only
      rw [tone, Nat.zero_add, if_pos (by omega)]
  · dsimp only
    rw [tone, if_neg (by omega), Nat.min_eq_right (by omega), Nat.zero_add, ← going]

end

/-- Settles O54: each phase and mode of the Clip Player by what it supplies. -/
theorem clipPlayerSuppliesItsBlock : Obligations.ClipPlayerSuppliesItsBlock := by
  refine ⟨fun s going => ?_, by decide⟩
  have supplies {xs : List Sample} (f : Nat → Sample) (places : ∀ i, i < 8 → xs.getD i 0 = f i) :
      levelled s.context.mode (s.slot s.context.slot).level xs =
        Vector.ofFn fun i => atLevel s.context.mode (s.slot s.context.slot).level (f i.val) := levelled_eq _ _ _ places
  set read : Nat → Sample := fun k => s.clips.memory.read ((s.slot s.context.slot).address k)
  set length := (s.slot s.context.slot).length
  refine ⟨supplyClip_silent, fun phase mode inside => ?_, fun phase mode within ends => ⟨fun repeats => ?_,
    fun repeats => ?_, fun repeats long => ?_⟩, fun phase mode => ⟨fun filled => ?_, fun short tone => ?_⟩,
    fun phase below => ?_⟩
  · obtain ⟨block, after⟩ := supplyClip_stored going phase mode
    rw [supplyStored_inside going 8 inside] at block after
    refine ⟨block.trans (supplies (fun i => read (s.context.position + i)) fun i place => ?_), after⟩
    rw [getD_map_range, if_pos place]
  · obtain ⟨block, after⟩ := supplyClip_stored going phase mode
    rw [supplyStored_endless going repeats 8 within] at block after
    refine ⟨block.trans (supplies (fun i => read ((s.context.position + i) % length)) fun i place => ?_), after⟩
    rw [getD_map_range, if_pos place]
  · obtain ⟨block, after⟩ := supplyClip_stored going phase mode
    obtain ⟨places, due, position, played⟩ := supplyStored_last going repeats within ends
    exact ⟨block.trans (supplies
      (fun i => if s.context.position + i < length then read (s.context.position + i) else 0)
      fun i _ => places i), (congrArg _ after).trans due, (congrArg _ after).trans_lt position,
      (congrArg _ after).trans played⟩
  · obtain ⟨block, after⟩ := supplyClip_stored going phase mode
    obtain ⟨places, context⟩ := supplyStored_wraps going repeats within ends long
    exact ⟨block.trans (supplies (fun i => read ((s.context.position + i) % length)) places), after.trans context⟩
  · obtain ⟨block, context, ring⟩ := supplyClip_stream going phase mode
    obtain ⟨places, after⟩ := supplyStream_filled going filled
    exact ⟨block.trans (supplies (fun i =>
      if i < min 8 (length - s.context.played.toNat) then s.clips.ring.getD i 0 else 0) fun i _ => places i),
      ring.trans (congrArg Prod.fst after), context.trans (congrArg Prod.snd after)⟩
  · obtain ⟨block, context, ring⟩ := supplyClip_stream going phase mode
    obtain ⟨places, after⟩ := supplyStream_underrun going tone short
    exact ⟨block.trans (supplies (fun i => s.clips.ring.getD i (toneSample (i - s.clips.ring.length))) places),
      ring.trans (congrArg Prod.fst after), context.trans (congrArg Prod.snd after)⟩
  · obtain ⟨block, context⟩ := supplyClip_tone going phase
    obtain ⟨places, after⟩ := supplyTone_eq going 8 below
    exact ⟨block.trans (supplies (fun i =>
      if s.context.tone + i < 1600 then toneSample (s.context.tone + i) else 0) places), context.trans after⟩

end Sys2Proof.Machine

/-! SUPPORT. PLAY: its checks, the entries of an overlay, the claim of a take (R127, R153–R155). -/

namespace Sys2Proof.Machine

variable {s t u : State} {h : Header}

/-! ## The entries of an overlay -/

/-- The FREE entries in ascending order (R125). -/
def State.freeEntryList (s : State) : List EntryId := allEntries.filter fun e => (s.entry e).state = .free

theorem lowestFree_eq_head? : s.lowestFree = s.freeEntryList.head? := (List.head?_filter ..).symm

theorem nodup_freeEntryList : s.freeEntryList.Nodup := (List.nodup_finRange 40).filter _

theorem lowestFree_of_cons {e : EntryId} {rest : List EntryId} (free : s.freeEntryList = e :: rest) :
    s.lowestFree = some e := by
  rw [lowestFree_eq_head?, free] <;> rfl

section
variable {p : PatchId} {kind : EntryKind} {dest : LegId} {gain : Nat} {source : Option Party}

/-- A reservation takes the first of the FREE entries. -/
theorem freeEntryList_reserve {e : EntryId} {rest : List EntryId} (free : s.freeEntryList = e :: rest) :
    (s.reserve p kind dest gain source).freeEntryList = rest := by
  have taken : e ∉ rest := (List.nodup_cons.mp (free ▸ nodup_freeEntryList)).1
  have others : (s.reserve p kind dest gain source).freeEntryList =
      s.freeEntryList.filter fun d => decide (d ≠ e) := by
    unfold State.freeEntryList
    rw [List.filter_filter]
    refine List.filter_congr fun d _ => ?_
    rw [reserve_entry (lowestFree_of_cons free)]
    split
    next same => simp [same, reservedEntry]
    next other => simp [other]
  rw [others, free, List.filter_cons_of_neg (by simp)]
  exact List.filter_eq_self.mpr fun d rested => decide_eq_true fun same => taken (same ▸ rested)

/-- The reservations of a list of destinations, with room for all of them: the lowest FREE entries, linked in
order at the end of the patch's chain (R125, R127). -/
structure Reserves (s : State) (p : PatchId) (kind : EntryKind) (gain : Nat) (source : Option Party) (ls : List LegId)
    (t : State) : Prop where
  chain : (t.patch p) = { s.patch p with chain := (s.patch p).chain ++ s.freeEntryList.take ls.length }
  patches : ∀ q, q ≠ p → t.patch q = s.patch q
  filled : ∀ (k : Nat) (l : LegId) (e : EntryId), ls[k]? = some l → s.freeEntryList[k]? = some e →
    t.entry e = reservedEntry p kind l gain source
  spared : ∀ e, e ∉ s.freeEntryList.take ls.length → t.entry e = s.entry e

theorem reserves_foldl {n : SlotId} (level : (s.slot n).level = gain) (ls : List LegId)
    (room : ls.length ≤ s.freeEntryList.length) : Reserves s p kind gain source ls
      (ls.foldl (fun s l => s.reserve p kind l (s.slot n).level source) s) := by
  induction ls generalizing s with
  | nil => exact ⟨by simp, fun _ _ => rfl, fun k _ _ named => by simp at named, fun _ _ => rfl⟩
  | cons l ls ih =>
    obtain ⟨e, rest, free⟩ := List.exists_cons_of_length_pos (Nat.lt_of_lt_of_le (Nat.succ_pos _) room)
    have first := lowestFree_of_cons free
    have after := freeEntryList_reserve (p := p) (kind := kind) (dest := l) (gain := (s.slot n).level)
      (source := source) free
    have apart : e ∉ rest := (List.nodup_cons.mp (free ▸ nodup_freeEntryList)).1
    obtain ⟨chain, patches, filled, spared⟩ := ih (s := s.reserve p kind l (s.slot n).level source)
      (by rw [reserve_slot]; exact level) (by rw [after]; rw [free] at room; exact Nat.le_of_succ_le_succ room)
    rw [after] at chain filled spared
    rw [List.foldl_cons]
    refine ⟨?_, fun q other => ?_, fun k m d named place => ?_, fun d unused => ?_⟩
    · rw [chain, reserve_patch, reserve_chain first, if_pos rfl, free, List.append_assoc]
      rfl
    · rw [patches q other, reserve_patch, reserve_chain first, if_neg other]
    · rw [free] at place
      cases k with
      | zero =>
        obtain rfl : l = m := Option.some.inj named
        obtain rfl : e = d := Option.some.inj place
        rw [spared e fun taken => apart (List.mem_of_mem_take taken), reserve_entry first, if_pos rfl, level]
      | succ k => exact filled k m d named place
    · rw [free, List.length_cons, List.take_succ_cons, List.mem_cons, not_or] at unused
      rw [spared d unused.2, reserve_entry first, if_neg unused.1]

end

/-! ## The checks -/

section
variable {slot patch mode priority repeats : Byte} {n : SlotId} {p : PatchId}

theorem takePlay_of_inRange (slotted : slot.toNat = n.val) (named : patch.toNat = p.val + 1) (modes : mode.toNat ≤ 1)
    (low : priority.toNat ≤ 14) : takePlay h slot patch mode priority repeats s =
      match playChecks n p (choice mode) repeats s with
      | some r => s.refuse h .play r
      | none =>
        if choice mode then
          (playOverlay n p priority repeats s).grantReply h .play
            (playResults (playOverlay n p priority repeats s) (s.patch p).overlayLegs.length)
        else
          (playTake n p priority repeats s).grantReply h .play (playResults (playTake n p priority repeats s) 0) := by
  unfold takePlay
  rw [slotOf_eq_some_iff.mpr slotted, patchOf_eq_some_iff.mpr named, (isChoice_iff mode).mpr modes, decide_eq_true low]
  rfl

theorem playChecks_of_busy {overlay : Bool} (busy : s.context.phase ≠ .none) :
    playChecks n p overlay repeats s = some .playerBusy := if_pos busy

theorem playChecks_of_idle {overlay : Bool} (idle : s.context.phase = .none) : playChecks n p overlay repeats s =
    if (s.slot n).state ≠ .ready ∧ (s.slot n).state ≠ .stream then some .slotState
    else if (s.slot n).state = .stream ∧ repeats ≠ 1 then some .range
    else if (s.patch p).state ≠ .active then some .patchState
    else if overlay ∧ s.freeEntryCount < (s.patch p).overlayLegs.length then some .routeFull
    else none := if_neg (not_not_intro idle)

theorem playChecks_of_slot {overlay : Bool} (idle : s.context.phase = .none)
    (slots : (s.slot n).state = .ready ∨ ((s.slot n).state = .stream ∧ repeats = 1)) :
    playChecks n p overlay repeats s =
      if (s.patch p).state ≠ .active then some .patchState
      else if overlay ∧ s.freeEntryCount < (s.patch p).overlayLegs.length then some .routeFull
      else none := by
  rw [playChecks_of_idle idle, if_neg, if_neg]
  · rintro ⟨stream, more⟩
    obtain state | ⟨-, one⟩ := slots
    · rw [state] at stream
      cases stream
    · exact more one
  · rintro ⟨unready, unstream⟩
    obtain state | ⟨state, -⟩ := slots
    · exact unready state
    · exact unstream state

/-- PLAY in OVERLAY mode with an entry for each leg of the patch (R127, R155). -/
theorem overlays_starts (room : (s.patch p).overlayLegs.length ≤ s.freeEntryList.length) :
    let u := playOverlay n p priority repeats s
    u.context = playContext n p .overlay .playing priority repeats ∧
      u.slot n = { s.slot n with state := .playing } ∧ (∀ m, m ≠ n → u.slot m = s.slot m) ∧
      Reserves s p .overlay (s.slot n).level (some .clip) (s.patch p).overlayLegs u ∧ u.legs = s.legs ∧
      u.link = s.link ∧ u.directory = s.directory ∧ u.clips.memory = s.clips.memory ∧
      u.clips.ring = s.clips.ring := by
  intro u
  have gained : (s.slot n).level = (s.slot n).level := rfl
  obtain ⟨chain, patches, filled, spared⟩ := reserves_foldl (p := p) (kind := .overlay) (source := some .clip)
    gained (s.patch p).overlayLegs room
  have still := still_overlaid (s := s) n p
  have slots (m : SlotId) : (s.overlaid n p).slot m = s.slot m := slot_of_clips still.clips m
  refine ⟨rfl, ?_, fun m other => ?_, ⟨chain, patches, filled, spared⟩, ?_, ?_, ?_, ?_, ?_⟩
  · exact (starts_slot (s := s.overlaid n p) n p .overlay priority repeats n).trans (by rw [if_pos rfl, slots])
  · exact (starts_slot (s := s.overlaid n p) n p .overlay priority repeats m).trans (by rw [if_neg other, slots])
  · exact reserveAll_keeps (fun t => t.legs) (gain := fun s => (s.slot n).level)
      (fun s l => reserve_legs s _ _ _ _ _) _
  · exact reserveAll_keeps (fun t => t.link) (gain := fun s => (s.slot n).level)
      (fun s l => reserve_link s _ _ _ _ _) _
  · exact reserveAll_keeps (fun t => t.directory) (gain := fun s => (s.slot n).level)
      (fun s l => reserve_directory s _ _ _ _ _) _
  · exact show (s.overlaid n p).clips.memory = _ by rw [still.clips]
  · exact show (s.overlaid n p).clips.ring = _ by rw [still.clips]

/-- PLAY in TAKE mode on a patch whose floor nobody holds: CLIP is granted it (R81, R154). -/
theorem takes_freeFloor (free : (s.patch p).floor.state ≠ .held) :
    let u := playTake n p priority repeats s
    u.context = playContext n p .take .playing priority repeats ∧
      u.slot n = { s.slot n with state := .playing } ∧ (u.patch p).floor.state = .held ∧
      (u.patch p).floor.owner = some .clip ∧ (u.patch p).floor.talkTimer = none := by
  intro u
  set w := s.starts n p .take priority repeats with start
  have granted : u = w.nextEvent.grant p .clip false w.eventTime := claimArrives_of_free p .clip free
  set g := w.nextEvent.grantFloor p .clip false w.eventTime
  have calm : Calm w.nextEvent g := calm_grantFloor p .clip false w.eventTime
  have context : g.context = playContext n p .take .waiting priority repeats := context_of_clips calm.clips
  have waiting : g.context.phase = .waiting := by rw [context] <;> rfl
  obtain ⟨rest, -, floor⟩ := floor_grant (s := w.nextEvent) p .clip false w.eventTime
  rw [granted]
  refine ⟨(clipGranted_context waiting).trans (by rw [context] <;> rfl), ?_, by rw [floor] <;> rfl,
    by rw [floor] <;> rfl, by rw [floor] <;> rfl⟩
  refine (clipGranted_slot waiting n).trans ?_
  rw [context, slot_of_clips calm.clips, nextEvent_slot, start]
  refine (if_pos rfl).trans ?_
  dsimp only [playContext]
  rw [starts_slot, if_pos rfl]

/-- PLAY in TAKE mode on a floor that a leg holds, in a patch that preempts by no margin: CLIP waits (R81, R82,
R154). -/
theorem takes_heldFloor (held : (s.patch p).floor.state = .held) {o : LegId}
    (owned : (s.patch p).floor.owner = some (.leg o)) (margin : (s.patch p).margin = 0) :
    let u := playTake n p priority repeats s
    u.context = playContext n p .take .waiting priority repeats ∧
      u.slot n = { s.slot n with state := .waiting } ∧ (u.patch p).floor.owner = (s.patch p).floor.owner ∧
      (u.patch p).floor.queue = insertClaim ⟨.clip, priority.toNat, ⟨s.link.stamp, s.order⟩, none⟩
        ((s.patch p).floor.queue.filter fun c => c.party ≠ .clip) ∧ u.legs = s.legs ∧ u.routes = s.routes := by
  intro u
  set w := s.starts n p .take priority repeats with start
  have weak : w.preempts p .clip (w.priorityOf .clip) = false := by
    rw [← Bool.not_eq_true, preempts_iff (s := w) (p := p) owned]
    rintro (⟨⟨l, leg, -⟩, -⟩ | ⟨-, preempts, -⟩)
    · cases leg
    · exact preempts margin
  have waits : u = (w.nextEvent.enqueue p ⟨.clip, w.priorityOf .clip, w.eventTime, none⟩).offerFloor p .queued
      (some .clip) := by
    refine (claimArrives_of_held (s := w) held).trans ?_
    rw [if_neg (by rw [show (w.patch p).floor.owner = some (.leg o) from owned]; nofun), weak] <;> rfl
  rw [waits, enqueue_eq]
  refine ⟨?_, ?_, ?_, ?_, ?_, ?_⟩
  · rw [offerFloor_context] <;> rfl
  · rw [offerFloor_slot]
    exact (starts_slot n p .take priority repeats n).trans (if_pos rfl)
  · rw [offerFloor_patch, patch_modPatch_same] <;> rfl
  · rw [offerFloor_patch, patch_modPatch_same] <;> rfl
  · rw [offerFloor_legs] <;> rfl
  · rw [offerFloor_routes] <;> rfl

end

/-- Settles O53: the checks in their order, then each mode. -/
theorem playStartsByItsMode : Obligations.PlayStartsByItsMode := by
  intro h slot patch mode priority repeats n p s ready slotted named modes low i legs free refused playing
  have takes := takePlay_of_inRange (h := h) (s := s) (repeats := repeats) slotted named modes low
  have refuses (r : Result) (checks : playChecks n p (choice mode) repeats s = some r) : refused r.code :=
    row_refuses ready rfl (takes.trans (by rw [checks]))
  have passes (active : (s.patch p).state = .active) (overlays : mode = 1 → legs.length ≤ free.length)
      (idle : s.context.phase = .none)
      (slots : (s.slot n).state = .ready ∨ ((s.slot n).state = .stream ∧ repeats = 1)) :
      playChecks n p (choice mode) repeats s = none := by
    rw [playChecks_of_slot idle slots, if_neg (not_not_intro active)]
    refine if_neg fun ⟨chosen, short⟩ => ?_
    exact Nat.not_lt.mpr (overlays (by simpa [choice] using chosen)) short
  have arrives (active : (s.patch p).state = .active) (take : mode = 0) (idle : s.context.phase = .none)
      (slots : (s.slot n).state = .ready ∨ ((s.slot n).state = .stream ∧ repeats = 1)) :
      Completes i s h 0x52 (0x00 :: playResults (playTake n p priority repeats s) 0)
        (playTake n p priority repeats s) := by
    have idleLink : s.link.inProgress = none := Ready.idle ready
    have calm := arbitrates_claimArrives (s := s.starts n p .take priority repeats) p .clip
    refine row_grants (i := i) (k := .play) ready rfl ?_ ((arbitrates_inProgress calm).trans idleLink)
    rw [takes, passes active (by rw [take]; nofun) idle slots, take] <;> rfl
  refine ⟨fun busy => refuses .playerBusy (playChecks_of_busy busy),
    fun idle unready unstream => refuses .slotState ?_, fun idle stream more => refuses .range ?_,
    fun idle slots => ⟨fun inactive => refuses .patchState ?_, fun active overlay few => refuses .routeFull ?_,
    fun active overlay room => ?_, fun active take => ?_, fun active take unheld empty => ?_,
    fun active take held owned margin => ?_⟩⟩
  · rw [playChecks_of_idle idle, if_pos ⟨unready, unstream⟩]
  · rw [playChecks_of_idle idle, if_neg (fun both => both.2 stream), if_pos ⟨stream, more⟩]
  · rw [playChecks_of_slot idle slots, if_pos inactive]
  · rw [playChecks_of_slot idle slots, if_neg (not_not_intro active), overlay]
    exact if_pos ⟨rfl, few⟩
  · obtain ⟨context, started, others, ⟨chain, patches, filled, spared⟩, legsKept, link, directory, memory,
      ring⟩ :=
      overlays_starts (s := s) (n := n) (priority := priority) (repeats := repeats) room
    refine ⟨playOverlay n p priority repeats s, ?_, context, started, others, chain, patches, filled, spared,
      legsKept, link, directory, memory, ring⟩
    refine row_grants (i := i) (k := .play) (results := [1, BitVec.ofNat 8 legs.length]) ready rfl ?_
      ((congrArg Link.inProgress link).trans (Ready.idle ready))
    rw [takes, passes active (fun _ => room) idle slots, overlay] <;> rfl
  · have flag (u : State) : playResults u 0 = [if u.context.phase = .playing then 1 else 0, 0] := by
      simp [playResults, flagByte, byte]
    have completes := arrives active take idle slots
    rw [flag] at completes
    exact completes
  · have completes := arrives active take idle slots
    obtain ⟨context, started, state, owner, talk⟩ :=
      takes_freeFloor (s := s) (n := n) (priority := priority) (repeats := repeats) unheld
    have kept := (arbitrates_claimArrives (s := s.starts n p .take priority repeats) p .clip).kept
    rw [playResults, context] at completes
    exact ⟨_, completes, context, started, state, owner, talk, kept.legs, kept.link.quiet⟩
  · have completes := arrives active take idle slots
    obtain ⟨o, owned⟩ := owned
    obtain ⟨context, started, owner, queue, legsKept, routes⟩ :=
      takes_heldFloor (s := s) (n := n) (priority := priority) (repeats := repeats) held owned margin
    have kept := (arbitrates_claimArrives (s := s.starts n p .take priority repeats) p .clip).kept
    rw [playResults, context] at completes
    exact ⟨_, completes, context, started, owner, queue, legsKept, routes, kept.link.quiet⟩

end Sys2Proof.Machine

/-! SUPPORT. FRAME_DONE: the frames handed to the legs, and the purges that complete there (R132, R135, R138, R139). -/

namespace Sys2Proof.Machine

variable {s t u : State}

/-! ## What the requesters' work leaves alone -/

/-- No leg's last output changes, an entry that is FREE stays as it is, and no chain grows. -/
structure Retains (s t : State) : Prop where
  out : ∀ l, (t.leg l).out = (s.leg l).out
  entries : ∀ e, s.entry e = {} → t.entry e = {}
  chains : ∀ q, ((t.patch q).chain).Sublist (s.patch q).chain

theorem Retains.refl (s : State) : Retains s s := ⟨fun _ => rfl, fun _ => id, fun _ => .refl _⟩

theorem Retains.trans (first : Retains s t) (second : Retains t u) : Retains s u where
  out l := (second.out l).trans (first.out l)
  entries e free := second.entries e (first.entries e free)
  chains q := (second.chains q).trans (first.chains q)

theorem out_of_fixed {x y : Leg} (same : x.fixed = y.fixed) : x.out = y.out :=
  show x.fixed.out = y.fixed.out by rw [same]

theorem ArbiterKeeps.retains (keeps : ArbiterKeeps s t) : Retains s t where
  out l := out_of_fixed (keeps.legs l)
  entries e free := (keeps.idle e (by rw [free]; rfl)).trans free
  chains q := by rw [(keeps.patches q).2]

theorem retains_of_tables (out : ∀ l, (t.leg l).out = (s.leg l).out) (routes : t.routes = s.routes)
    (patches : t.patches = s.patches) : Retains s t :=
  ⟨out, fun e free => (congrArg (fun r : Routes => r.entries.get e) routes).trans free,
    fun q => by rw [patch_of_patches patches]⟩

theorem retains_purge (sel : Selector) (r : Requester) : Retains s (s.purge sel r).1 where
  out l := by rw [purge_leg]
  entries e free := by
    rw [purge_entry, if_neg, free]
    rw [mem_purged, free]
    exact fun taken => Bool.noConfusion taken.1
  chains := purge_chain sel r

theorem retains_freePatch (p : PatchId) : Retains s (s.freePatch p) where
  out _ := rfl
  entries _ := id
  chains q := by
    unfold State.freePatch
    rw [patch_modPatch]
    split
    · exact List.nil_sublist _
    · exact .refl _

theorem retains_modLeg (l : LegId) {f : Leg → Leg} (out : (f (s.leg l)).out = (s.leg l).out) :
    Retains s (s.modLeg l f) :=
  retains_of_tables (fun m => by
    rw [leg_modLeg]
    split
    next same => rw [out, same]
    next => rfl) rfl rfl

theorem retains_removeMember (p : PatchId) (l : LegId) (r : Requester) : Retains s (s.removeMember p l r).1 := by
  have listed : Retains s (s.modPatch p fun x => { x with members := x.members.filter (· != l) }) :=
    ⟨fun _ => rfl, fun _ => id, fun q => by
      rw [patch_modPatch]
      split
      next same => rw [same]
      next => exact .refl _⟩
  rw [removeMember_eq]
  exact ((listed.trans (arbitrates_takenOut p l).kept.retains).trans (retains_purge _ _)).trans (retains_modLeg l rfl)

theorem retains_teardown (p : PatchId) (reason : EndReason) (r : Requester) : Retains s (s.teardown p reason r).1 := by
  refine ⟨fun l => ?_, fun e free => ?_, fun q => ?_⟩
  · have fixed := teardown_leg_fixed (s := s) (p := p) reason r l
    rw [out_of_fixed (y := if l ∈ (s.patch p).members then (s.leg l).released else s.leg l)
      (by rw [fixed]; split <;> rfl)]
    split <;> rfl
  · rw [teardown_eq]
    refine (retains_purge _ _).entries e ?_
    refine untagged_keeps (s := s) (p := p) (P := fun t => t.entry e = {}) reason ?_ ?_ ?_
    · rw [State.entry, vacated_purges]
      exact free
    · exact fun t => (retains_purge _ _).entries e
    · exact fun t u routes _ kept => (congrArg (fun r : Routes => r.entries.get e) routes).trans kept
  · rw [teardown_eq]
    exact (purge_chain _ _ q).trans (untagged_chain reason q)

theorem dropFault_out (x : Leg) : x.dropFault.out = x.out := by
  rw [dropFault_eq]
  split <;> rfl

theorem retains_revokeLeg (l : LegId) (left : Option PatchId) (a : AgencyId) : Retains s (s.revokeLeg l left a) := by
  have demanded := (calm_setDemand (s := s) l false).keeps.retains
  have unbound := demanded.trans (retains_modLeg l (f := fun x => { x with binding := none }.dropFault) (dropFault_out _))
  exact (unbound.trans (calm_mask l _).keeps.retains).trans (calm_offer _ _ _).keeps.retains

theorem retains_finish (r : Result) (results : List Byte) : Retains s (s.finish r results) :=
  retains_of_tables (fun _ => by rw [finish_leg]) (finish_routes ..) (finish_patches ..)

theorem retains_setWork (w : Work) : Retains s (s.setWork w) :=
  retains_of_tables (fun _ => by rw [setWork_leg]) (setWork_routes ..) (setWork_patches ..)

theorem walksKeep_retains (s : State) : WalksKeep (Retains s) where
  place _ _ kept := kept.trans (retains_of_tables (fun _ => rfl) rfl rfl)
  finish _ _ _ kept := kept.trans (retains_finish _ _)
  rests _ _ _ kept := kept.trans (retains_setWork _)
  tears _ p reason r kept _ _ := (kept.trans (retains_teardown p reason r)).trans (retains_freePatch p)
  disbands _ p _ _ _ kept _ _ := (kept.trans (retains_teardown p _ _)).trans (retains_setWork _)
  resets _ p kept _ _ := kept.trans (retains_teardown p _ _)
  unbinds _ l left a kept _ := kept.trans (retains_revokeLeg l left a)
  removes _ l p r kept _ _ := kept.trans (retains_removeMember p l r)
  revokes _ l p _ _ _ kept _ _ := (kept.trans (retains_removeMember p l _)).trans (retains_setWork _)

theorem tellsKeep_retains (s : State) (purges : List Purge) :
    TellsKeep (fun t => Retains s t ∧ BetweenFrames [] t) purges where
  walks := (walksKeep_retains s).and (walksKeep_over [])
  frees _ p _ _ _ := fun ⟨kept, between⟩ _ => ⟨kept.trans (retains_freePatch p), between.freePatch p⟩
  unbinds _ l p _ a _ := fun ⟨kept, between⟩ _ =>
    ⟨kept.trans (retains_revokeLeg l (some p) a), between.revokeLeg l _ a⟩
  resets _ p := fun ⟨kept, between⟩ _ => ⟨kept.trans (retains_freePatch p), between.freePatch p⟩
  overlay _ := fun ⟨kept, between⟩ =>
    ⟨kept.trans (retains_of_tables (fun _ => by rw [overlayEnded_leg]) (overlayEnded_routes _) (overlayEnded_patches _)),
      between.overlayEnded⟩

/-! ## The frame done -/

/-- The purges' entries are free as their requesters are told, and stay so. -/
theorem completePurges_frees (idle : s.routes.frame = none) : s.completePurges.routes.frame = none ∧
    s.completePurges.routes.purges = [] ∧
    (∀ r ∈ s.routes.purges, ∀ e ∈ r.entries,
      s.completePurges.entry e = {} ∧ ∀ p, e ∉ (s.completePurges.patch p).chain) ∧
    ∀ l, (s.completePurges.leg l).out = (s.leg l).out := by
  have between : BetweenFrames [] s.purgesFreed :=
    ⟨((freeEntries_frame _).1).trans idle, purgesFreed_purges, fun p ⟨_, outstanding, _⟩ => by cases outstanding⟩
  obtain ⟨kept, after⟩ := (tellsKeep_retains s.purgesFreed s.routes.purges).completePurges ⟨.refl _, between⟩
  refine ⟨after.frame, after.settled, fun r outstanding e named => ?_, fun l => (kept.out l).trans ?_⟩
  · have purged : e ∈ s.routes.purges.flatMap Purge.entries := List.mem_flatMap.mpr ⟨r, outstanding, named⟩
    refine ⟨kept.entries e ?_, fun p listed => ?_⟩
    · rw [State.purgesFreed, entry_freeEntries, if_pos purged]
    · have before := (kept.chains p).subset listed
      rw [State.purgesFreed, freeEntries_patch] at before
      simpa [purged] using (List.mem_filter.mp before).2
  · rw [State.purgesFreed, State.freeEntries, mapPatches_leg, mapEntries_leg]
    rfl

theorem ofFn_get {α : Type} {n : Nat} (v : Vector α n) : Vector.ofFn (fun i => v.get i) = v :=
  Vector.ext fun i within => by rw [Vector.getElem_ofFn]; rfl

/-- No entry freed changes nothing. -/
theorem freeEntries_nil : s.freeEntries [] = s := by
  have entries : s.mapEntries (fun e x => if ([] : List EntryId).contains e then {} else x) = s := by
    have same : (Vector.ofFn fun e => s.entry e) = s.routes.entries := ofFn_get _
    show { s with routes := { s.routes with entries := Vector.ofFn fun e => s.entry e } } = s
    rw [same]
  have chain (x : Patch) : { x with chain := x.chain.filter fun e => !([] : List EntryId).contains e } = x := by
    have all : x.chain.filter (fun e => !([] : List EntryId).contains e) = x.chain :=
      List.filter_eq_self.mpr fun _ _ => rfl
    rw [all]
  have patches : (Vector.ofFn fun p => s.patch p) = s.patches := ofFn_get _
  rw [State.freeEntries, entries, State.mapPatches]
  simp only [chain]
  rw [patches]

/-- With no purge outstanding nobody is told. -/
theorem completePurges_of_settled (settled : s.routes.purges = []) : s.completePurges = s := by
  have same : { s with routes := { s.routes with purges := [] } } = s := by rw [← settled]
  rw [completePurges_eq, settled, State.purgesFreed, settled, same]
  exact freeEntries_nil

/-- A radio gives out the oldest samples of its delay line behind an open gate, a console the frame itself (R14, R135). -/
theorem takeFrame_eq (l : LegId) (frame : Block) (x : Leg) :
    (16 ≤ l.val → x.takeFrame l frame = { x with out := frame }) ∧
    (l.val < 16 → x.takeFrame l frame = { x with
      tx := { x.tx with line := (x.tx.line ++ frame.toList).drop 8 }
      out := if x.tx.state = .on ∨ x.tx.state = .tail then
          Vector.ofFn fun i => (x.tx.line ++ frame.toList).getD i.val 0
        else Vector.replicate 8 0 }) := by
  unfold Leg.takeFrame
  refine ⟨fun console => ?_, fun radio => ?_⟩
  · rw [(isRadio_eq_false_iff l).mpr console] <;> rfl
  · rw [(isRadio_iff l).mpr radio]
    have oldest : blockOf ((x.tx.line ++ frame.toList).take 8) =
        Vector.ofFn fun i => (x.tx.line ++ frame.toList).getD i.val 0 := by
      refine congrArg Vector.ofFn (funext fun i => ?_)
      rw [List.getD_eq_getElem?_getD, List.getD_eq_getElem?_getD, List.getElem?_take_of_lt i.isLt]
    have gate : (if x.tx.state.gateOpen = true then blockOf ((x.tx.line ++ frame.toList).take 8) else silence) =
        if x.tx.state = .on ∨ x.tx.state = .tail then Vector.ofFn fun i => (x.tx.line ++ frame.toList).getD i.val 0
        else Vector.replicate 8 0 := by
      rw [oldest]
      cases x.tx.state <;> rfl
    dsimp only
    rw [if_pos rfl, gate]

theorem takeFrame_out (l : LegId) (frame : Block) (x : Leg) : (x.takeFrame l frame).out =
    if 16 ≤ l.val then frame
    else if x.tx.state = .on ∨ x.tx.state = .tail then
      Vector.ofFn fun i => (x.tx.line ++ frame.toList).getD i.val 0
    else Vector.replicate 8 0 := by
  obtain ⟨console, radio⟩ := takeFrame_eq l frame x
  split
  next high => rw [console high]
  next low => rw [radio (Nat.lt_of_not_le low)]

theorem frameEnded_leg (before : Option Nat) (l : LegId) : (s.frameEnded before).leg l = s.leg l := rfl

theorem deliver_leg (taken : List Taken) (l : LegId) : (s.deliver taken).leg l = (s.leg l).takeFrame l (mix taken l) :=
  leg_mapLegs ..

theorem delivered_eq (taken : List Taken) (before : Option Nat) : (s.deliver taken).frameEnded before = { s with
    legs := ((s.deliver taken).frameEnded before).legs, routes := { s.routes with frame := none }
    walk := { s.walk with beforeTick := before } } := by
  apply State.eq_of_fields <;> simp [State.frameEnded]

/-- Settles O49: the legs take their frames, then the purges complete. -/
theorem frameDoneHandsOutTheFrames : Obligations.FrameDoneHandsOutTheFrames := by
  refine ⟨fun before taken s settled frame alone => ?_, fun before taken s settled frame => ?_⟩
  · have alone : ((s.deliver taken).frameEnded before).routes.purges = [] := by
      rw [delivered_eq]
      exact alone
    refine ⟨(s.deliver taken).frameEnded before, ?_, delivered_eq taken before, fun l => ?_⟩
    · rw [exec_of_settled settled rfl, takeFrameDone_of_frame frame, completePurges_of_settled alone]
    · rw [frameEnded_leg, deliver_leg]
      exact takeFrame_eq l _ _
  · obtain ⟨ended, purged, freed, out⟩ := completePurges_frees (s := (s.deliver taken).frameEnded before) rfl
    have outstanding : ((s.deliver taken).frameEnded before).routes.purges = s.routes.purges := by rw [delivered_eq]
    rw [outstanding] at freed
    refine ⟨((s.deliver taken).frameEnded before).completePurges, ?_, ended, purged, freed, fun l => ?_⟩
    · rw [exec_of_settled settled rfl, takeFrameDone_of_frame frame]
    · rw [out, frameEnded_leg, deliver_leg]
      exact takeFrame_out l _ _

end Sys2Proof.Machine

/-! SUPPORT. Work on the floors by legs while CLIP neither holds nor waits for a floor: the clips stay as they are. -/

namespace Sys2Proof.Machine

variable {s t u : State}

/-- CLIP neither owns the floor nor waits for it. -/
def Floor.clipless (f : Floor) : Prop := f.owner ≠ some .clip ∧ ∀ c ∈ f.queue, c.party ≠ .clip

/-- No floor is CLIP's, and none has a claim of CLIP. -/
def Clipless (s : State) : Prop := ∀ q, (s.patch q).floor.clipless

/-- Work that, with no claim of CLIP on any floor, leaves it so and the clips as they are. -/
def Spares (s t : State) : Prop := Clipless s → Clipless t ∧ t.clips = s.clips

theorem Spares.refl (s : State) : Spares s s := fun without => ⟨without, rfl⟩

theorem Spares.trans (first : Spares s t) (second : Spares t u) : Spares s u := fun without => by
  obtain ⟨still, clips⟩ := first without
  obtain ⟨after, same⟩ := second still
  exact ⟨after, same.trans clips⟩

theorem Spares.after (second : Spares t u) (first : Spares s t) : Spares s u := first.trans second

theorem spares_of_leave (leave : ClaimsOnlyLeave s t) (clips : t.clips = s.clips) : Spares s t := by
  refine fun without => ⟨fun q => ?_, clips⟩
  obtain ⟨rest, restOf, floor⟩ := leave q
  rw [floor]
  exact ⟨(without q).1, fun c left => (without q).2 c (restOf.subset left)⟩

theorem spares_of_patches (patches : t.patches = s.patches) (clips : t.clips = s.clips) : Spares s t :=
  spares_of_leave (claimsOnlyLeave_of_patches patches) clips

theorem spares_modPatch (p : PatchId) {f : Patch → Patch}
    (keeps : (s.patch p).floor.clipless → (f (s.patch p)).floor.clipless) : Spares s (s.modPatch p f) := by
  refine fun without => ⟨fun q => ?_, rfl⟩
  rw [patch_modPatch]
  split
  · exact keeps (without p)
  · exact without q

/-! ## The arbiter's operations on legs' claims -/

theorem spares_grant (p : PatchId) (l : LegId) (seized : Bool) (time : ClaimTime) :
    Spares s (s.grant p (.leg l) seized time) := by
  have granted : Spares s (s.modPatch p fun x => { x with floor := x.grantedFloor (.leg l) seized s.now time }) :=
    spares_modPatch p fun without => ⟨nofun, fun c queued => without.2 c (List.mem_of_mem_filter queued)⟩
  exact granted.trans (spares_of_leave (claimsOnlyLeave_grant p _ _ _) (calm_grantFloor p _ _ _).clips)

theorem spares_enqueue (p : PatchId) {c : Claim} (leg : c.party ≠ .clip) : Spares s (s.enqueue p c) := by
  rw [enqueue_eq]
  refine spares_modPatch p fun without => ⟨without.1, fun d queued => ?_⟩
  obtain rfl | queued := mem_insertClaim.mp queued
  · exact leg
  · exact without.2 d (List.mem_of_mem_filter queued)

theorem spares_offerFloor (p : PatchId) (event : FloorEvent) (party : Option Party) :
    Spares s (s.offerFloor p event party) :=
  spares_of_patches (offerFloor_patches ..) (offerFloor_clips ..)

theorem spares_nextEvent : Spares s s.nextEvent := spares_of_patches rfl rfl

theorem spares_putBack (p : PatchId) (o : LegId) : Spares s (s.putBack p o) := by
  have cleared : Spares s (s.nextEvent.modFloor p fun f => { f with seized := false }) :=
    spares_nextEvent.trans (spares_modPatch p id)
  unfold State.putBack
  dsimp only
  split
  · exact cleared.trans (spares_enqueue p nofun)
  · exact cleared

theorem spares_preempt (p : PatchId) (l : LegId) (seized : Bool) (time : ClaimTime) :
    Spares s (s.preempt p (.leg l) seized time) := by
  intro without
  unfold State.preempt
  split
  · exact ((spares_putBack p _).trans ((spares_offerFloor p _ _).trans (spares_grant p l _ _))) without
  next clip => exact absurd clip (without p).1
  · exact spares_grant p l _ _ without

theorem spares_head {p : PatchId} {c : Claim} {rest : List Claim} (queue : (s.patch p).floor.queue = c :: rest) :
    Spares s (s.grant p c.party false c.time) := by
  intro without
  cases party : c.party with
  | leg l => exact spares_grant p l _ _ without
  | clip => exact absurd party ((without p).2 c (queue ▸ List.mem_cons_self ..))

theorem spares_enterIdle (p : PatchId) : Spares s (s.enterIdle p) := by
  have idle : Spares s (s.modFloor p fun f => { queue := f.queue }) :=
    spares_modPatch p fun without => ⟨nofun, without.2⟩
  have released : Spares (s.modFloor p fun f => { queue := f.queue }) (State.demands _ p fun _ => false) :=
    spares_of_leave (claimsOnlyLeave_demands p _) (calm_demands p _).clips
  exact (idle.trans released).trans ((spares_offerFloor p _ _).after (spares_of_patches (by simp) (by simp)))

theorem spares_enterHang (p : PatchId) : Spares s (s.enterHang p) := by
  unfold State.enterHang
  refine Spares.after (spares_of_patches (retarget_patches ..) (retarget_clips ..)) ?_
  exact spares_modPatch p fun without => ⟨nofun, without.2⟩

theorem spares_ownerStops (p : PatchId) : Spares s (s.ownerStops p) := by
  unfold State.ownerStops
  split
  next queue => exact spares_head queue
  · split
    · exact spares_enterIdle p
    · exact spares_enterHang p

theorem spares_claimArrives (p : PatchId) (l : LegId) : Spares s (s.claimArrives p (.leg l)) := by
  unfold State.claimArrives
  dsimp only
  split
  · exact spares_nextEvent.trans (spares_grant p l _ _)
  · exact spares_nextEvent.trans (spares_grant p l _ _)
  · split
    · exact spares_nextEvent.trans (spares_modPatch p id)
    · split
      · exact spares_nextEvent.trans (spares_preempt p l _ _)
      · exact spares_nextEvent.trans
          ((spares_offerFloor p _ _).after (spares_enqueue p (c := ⟨.leg l, _, _, none⟩) nofun))

theorem spares_withdraws (p : PatchId) (l : LegId) : Spares s (s.withdraws p (.leg l)) := by
  unfold State.withdraws
  dsimp only
  split
  · split
    · exact .refl s
    · exact spares_ownerStops p
  · exact spares_of_leave (claimsOnlyLeave_unqueue p _) rfl

/-! ## The receive machine -/

theorem spares_claimChange (l : LegId) {f : State → State} (change : Spares s (f s)) : Spares s (s.claimChange l f) := by
  unfold State.claimChange State.offerClaim State.offerWithdrawal
  dsimp only
  split
  · split
    · exact change.trans (spares_claimArrives _ l)
    · exact change
  · split
    · exact change.trans (spares_withdraws _ l)
    · exact change
  · exact change

theorem spares_conditionEvent (l : LegId) : Spares s (s.conditionEvent l) := by
  have evaluated : Spares s (s.evaluate l) := spares_of_patches (evaluate_patches ..) (evaluate_clips ..)
  unfold State.conditionEvent
  dsimp only
  split
  · split
    · exact evaluated.trans (spares_claimChange l (spares_of_patches (by simp) (by simp)))
    · exact evaluated
  · split
    · exact evaluated.trans (spares_claimChange l (spares_of_patches (by simp) (by simp)))
    · exact evaluated
  · exact evaluated

end Sys2Proof.Machine

/-! SUPPORT. FRAME_START: the state a frame begins in, and what of the tick follows (R5, R130, R132, R133). -/

namespace Sys2Proof.Machine

variable {s t u : State}

/-! ## The frame begun -/

/-- The timers counted down and the frame begun, before the comparison with the VOX thresholds. -/
def State.framed (s : State) (inbound : Vector Block 20) : State := s.advanceStamp.tickTimers.beginFrame inbound

/-- A leg's timers counted down, and the peak of its frame kept (R5; log 8). -/
def Leg.tickedWith (b : Block) (x : Leg) : Leg := { x.tick with inputs := { x.inputs with peak := peakOf b } }

theorem legs_eq_ofFn {f : LegId → Leg} (each : ∀ l, s.leg l = f l) : s.legs = Vector.ofFn f :=
  (ofFn_get s.legs).symm.trans (congrArg Vector.ofFn (funext each))

theorem patches_eq_ofFn {f : PatchId → Patch} (each : ∀ p, s.patch p = f p) : s.patches = Vector.ofFn f :=
  (ofFn_get s.patches).symm.trans (congrArg Vector.ofFn (funext each))

theorem tickTimers_leg (l : LegId) : s.tickTimers.leg l = (s.leg l).tick := by
  rw [State.tickTimers, mapPatches_leg, leg_mapLegs]

/-- A patch's floor timers counted down (R96, R98). -/
def Patch.ticked (x : Patch) : Patch :=
  { x with floor := { x.floor with hangTimer := countDown x.floor.hangTimer, talkTimer := countDown x.floor.talkTimer } }

theorem tickTimers_patch (p : PatchId) : s.tickTimers.patch p = (s.patch p).ticked := by
  rw [State.tickTimers, patch_mapPatches, mapLegs_patch] <;> rfl

theorem tickTimers_others : s.tickTimers.routes = s.routes ∧ s.tickTimers.clips = s.clips ∧
    s.tickTimers.link = s.link ∧ s.tickTimers.freeCount = s.freeCount ∧ s.tickTimers.directory = s.directory ∧
    s.tickTimers.walk = s.walk ∧ s.tickTimers.pending = s.pending ∧ s.tickTimers.order = s.order := by
  simp [State.tickTimers]

section
variable (inbound : Vector Block 20)

/-- The set taken by the frame that begins. -/
def State.takenBy (s : State) : List Taken :=
  (allPatches.flatMap fun p => (s.patch p).chain).filterMap fun e =>
    (s.entry e).applied.taken (sourceBlock inbound s.supplyClip.1)

theorem framed_eq : s.framed inbound = { s with
    legs := Vector.ofFn fun l => (s.leg l).tick
    patches := Vector.ofFn fun p => (s.patch p).ticked
    routes := { s.routes with
      entries := Vector.ofFn fun e => (s.entry e).applied, frame := some (s.takenBy inbound) }
    clips := s.supplyClip.2.clips
    link := { s.link with stamp := s.link.stamp + 1 }
    freeCount := s.supplyClip.2.freeCount } := by
  obtain ⟨routes, clips, link, count, directory, walk, pending, order⟩ := tickTimers_others (s := s.advanceStamp)
  obtain ⟨block, supplied⟩ := supplyClip_congr (t := s.advanceStamp.tickTimers) (s := s) clips count
  have entry (e : EntryId) : s.advanceStamp.tickTimers.entry e = s.entry e :=
    congrArg (fun r : Routes => r.entries.get e) routes
  have legs : s.advanceStamp.tickTimers.legs = Vector.ofFn fun l => (s.leg l).tick :=
    legs_eq_ofFn fun l => by rw [tickTimers_leg, advanceStamp_leg]
  have patches : s.advanceStamp.tickTimers.patches = Vector.ofFn fun p => (s.patch p).ticked :=
    patches_eq_ofFn fun p => by rw [tickTimers_patch, advanceStamp_patch]
  have chain (p : PatchId) : (s.advanceStamp.tickTimers.patch p).chain = (s.patch p).chain := by
    rw [tickTimers_patch] <;> rfl
  have taken : s.advanceStamp.tickTimers.applyPending.takeSet
      (sourceBlock inbound s.advanceStamp.tickTimers.supplyClip.1) = s.takenBy inbound := by
    unfold State.takeSet State.takenBy
    rw [block]
    have chains : (fun p => (s.advanceStamp.tickTimers.applyPending.patch p).chain) = fun p => (s.patch p).chain :=
      funext fun p => by rw [State.applyPending, mapEntries_patch, chain]
    rw [chains]
    refine List.filterMap_congr fun e _ => ?_
    rw [State.applyPending, entry_mapEntries, entry]
  unfold State.framed
  rw [beginFrame_eq, taken, supplied]
  apply State.eq_of_fields
  case pending => exact pending
  case legs => exact legs
  case directory => exact directory
  case patches => exact patches
  case routes =>
    show { s.advanceStamp.tickTimers.applyPending.routes with frame := some (s.takenBy inbound) } = _
    have applied : s.advanceStamp.tickTimers.applyPending.routes =
        { s.routes with entries := Vector.ofFn fun e => (s.entry e).applied } := by
      rw [State.applyPending, State.mapEntries]
      simp only [entry]
      rw [routes] <;> rfl
    rw [applied]
  case clips => rfl
  case link => exact link
  case order => exact order
  case walk => exact walk
  case freeCount => rfl

theorem framed_leg (l : LegId) : (s.framed inbound).leg l = (s.leg l).tick := by
  rw [framed_eq]
  exact get_ofFn _ l

theorem framed_patch (p : PatchId) : (s.framed inbound).patch p = (s.patch p).ticked := by
  rw [framed_eq]
  exact get_ofFn _ p

theorem framed_entry (e : EntryId) : (s.framed inbound).entry e = (s.entry e).applied := by
  rw [framed_eq]
  exact get_ofFn _ e

theorem framed_context : (s.framed inbound).context = s.supplyClip.2.context := by
  rw [framed_eq] <;> rfl

/-- The frame begun with the peaks of its samples kept. -/
theorem setPeaks_framed : (s.framed inbound).setPeaks inbound =
    { s.framed inbound with legs := Vector.ofFn fun l => (s.leg l).tickedWith (inbound.get l) } := by
  unfold State.setPeaks State.mapLegs
  simp only [framed_leg]
  rfl

end

/-! ## What of the tick follows -/

theorem setPeaks_leg (inbound : Vector Block 20) (l : LegId) : (s.setPeaks inbound).leg l =
    { s.leg l with inputs := { (s.leg l).inputs with peak := peakOf (inbound.get l) } } := leg_mapLegs ..

/-- The VOX comparisons of a frame, in their order. -/
def State.voxEvents (s : State) (order : List LegId) : State :=
  (voxOrder order).foldl (fun s l => if (s.leg l).voxMode l then s.conditionEvent l else s) s

theorem arbitrates_voxEvents (order : List LegId) : Arbitrates s (s.voxEvents order) :=
  List.foldlRecOn (motive := Arbitrates s) _ _ (.refl s) fun t before l _ => by
    split
    · exact before.trans (arbitrates_conditionEvent l)
    · exact before

theorem spares_voxEvents (order : List LegId) : Spares s (s.voxEvents order) :=
  List.foldlRecOn (motive := Spares s) _ _ (.refl s) fun t before l _ => by
    split
    · exact before.trans (spares_conditionEvent l)
    · exact before

theorem walkOn_of_idle (idle : s.walk.due = false) : s.walkOn = s := by
  rw [State.walkOn, idle] <;> rfl

theorem setPeaks_others (inbound : Vector Block 20) : (s.setPeaks inbound).walk = s.walk ∧
    (s.setPeaks inbound).routes = s.routes ∧ (s.setPeaks inbound).patches = s.patches ∧
    (s.setPeaks inbound).clips = s.clips ∧ (s.setPeaks inbound).link = s.link ∧
    (s.setPeaks inbound).directory = s.directory := by
  simp [State.setPeaks]

/-- A tick that no walk waits for (R132). -/
theorem takeFrameStart_of_idle (inbound : Vector Block 20) (order : List LegId) (idle : s.routes.frame = none)
    (walk : s.walk.due = false) : takeFrameStart inbound order s =
      (((s.framed inbound).endBeforeTick).setPeaks inbound).voxEvents order := by
  have walked : ((((s.framed inbound).endBeforeTick).setPeaks inbound).voxEvents order).walk.due = false := by
    rw [(arbitrates_voxEvents order).kept.walk, (setPeaks_others inbound).1]
    unfold State.endBeforeTick
    split
    · rw [takeDueEnd_walk, framed_eq]
      exact walk
    · rw [framed_eq]
      exact walk
  rw [takeFrameStart, idle]
  exact walkOn_of_idle walked

theorem endBeforeTick_of_going (going : s.context.endDue = none) : s.endBeforeTick = s := by
  unfold State.endBeforeTick State.takeDueEnd
  rw [going] <;> exact ite_self _

theorem voxMode_iff (l : LegId) (x : Leg) : x.voxMode l = true ↔ l.val < 16 ∧ x.config.inputMode ≠ .line := by
  rw [Leg.voxMode, Bool.and_eq_true, isRadio_iff, bne_iff_ne]

theorem endBeforeTick_of_line (walk : s.walk.due = false)
    (line : ∀ l : LegId, l.val < 16 → (s.leg l).config.inputMode = .line) : s.endBeforeTick = s := by
  refine if_neg ?_
  rw [State.tickGoesOn, walk, Bool.false_or, List.any_eq_true]
  rintro ⟨l, -, vox⟩
  obtain ⟨radio, mode⟩ := (voxMode_iff l _).mp vox
  exact mode (line l radio)

theorem voxEvents_of_line (order : List LegId)
    (line : ∀ l : LegId, l.val < 16 → (s.leg l).config.inputMode = .line) : s.voxEvents order = s := by
  refine List.foldlRecOn (motive := fun t => t = s) _ _ rfl fun t same l _ => ?_
  rw [same]
  refine if_neg fun vox => ?_
  obtain ⟨radio, mode⟩ := (voxMode_iff l _).mp vox
  exact mode (line l radio)

/-- The comparisons in the words of R5: the legs named in their order, then the others ascending. -/
theorem voxEvents_eq (order : List LegId) : s.voxEvents order =
    (order ++ (List.finRange 20).filter (· ∉ order)).foldl (fun u l =>
      if l.val < 16 ∧ (u.leg l).config.inputMode ≠ .line then u.conditionEvent l else u) s := by
  have places : voxOrder order = order ++ (List.finRange 20).filter (· ∉ order) := by
    refine congrArg (order ++ ·) (List.filter_congr fun l _ => ?_)
    simp
  unfold State.voxEvents
  rw [places]
  refine List.foldl_ext _ _ _ fun t l _ => if_congr (voxMode_iff l _) rfl rfl

end Sys2Proof.Machine

/-! SUPPORT. A playback's end inside the tick, and FRAME_START as a whole (R5, R130, R132, R156–R160). -/

namespace Sys2Proof.Machine

variable {s t u : State}

/-! ## A purge inside a frame -/

theorem freeEntries_of_purge_inFrame (frame : s.routes.frame.isSome = true) (sel : Selector) (r : Requester)
    (done : (s.purge sel r).2 = true) : (s.purge sel r).1 = s := by
  obtain ⟨purge, idle | ⟨none, -⟩⟩ := purge_done sel r done
  · rw [idle] at frame
    cases frame
  · rw [purge, none, freeEntries_nil]

/-- A purge asked for in a frame marks its entries and waits, or finds none (R138, R140). -/
theorem purge_inFrame_keeps (frame : s.routes.frame.isSome = true) (sel : Selector) (r : Requester) :
    (s.purge sel r).1.legs = s.legs ∧ (s.purge sel r).1.patches = s.patches ∧
      (s.purge sel r).1.routes.frame = s.routes.frame ∧ (s.purge sel r).1.link = s.link ∧
      (s.purge sel r).1.directory = s.directory := by
  refine ⟨by simp, ?_, purge_frame sel r, by simp, by simp⟩
  cases done : (s.purge sel r).2 with
  | true => rw [freeEntries_of_purge_inFrame frame sel r done]
  | false =>
    rw [(purge_waits sel r done).1]
    simp [State.asked, State.marked]

/-- What the rest of a tick leaves alone behind the start of its frame: stamp, set taken, directory, patches but for their
floors, legs but for their machines and inputs. -/
structure TickKeeps (s t : State) : Prop where
  stamp : t.link.stamp = s.link.stamp
  frame : t.routes.frame = s.routes.frame
  directory : t.directory = s.directory
  patches : ∀ p, (t.patch p).fixed = (s.patch p).fixed ∧ (t.patch p).chain = (s.patch p).chain
  legs : ∀ l, (t.leg l).config = (s.leg l).config ∧ (t.leg l).binding = (s.leg l).binding ∧
    (t.leg l).membership = (s.leg l).membership ∧ (t.leg l).out = (s.leg l).out

theorem TickKeeps.refl (s : State) : TickKeeps s s :=
  ⟨rfl, rfl, rfl, fun _ => ⟨rfl, rfl⟩, fun _ => ⟨rfl, rfl, rfl, rfl⟩⟩

theorem TickKeeps.trans (first : TickKeeps s t) (second : TickKeeps t u) : TickKeeps s u where
  stamp := second.stamp.trans first.stamp
  frame := second.frame.trans first.frame
  directory := second.directory.trans first.directory
  patches p := ⟨(second.patches p).1.trans (first.patches p).1, (second.patches p).2.trans (first.patches p).2⟩
  legs l := by
    obtain ⟨config, binding, membership, out⟩ := first.legs l
    obtain ⟨config', binding', membership', out'⟩ := second.legs l
    exact ⟨config'.trans config, binding'.trans binding, membership'.trans membership, out'.trans out⟩

theorem Arbitrates.tickKeeps (work : Arbitrates s t) : TickKeeps s t where
  stamp := stamp_of_noticed work.kept.link
  frame := work.kept.frame.1
  directory := work.kept.directory
  patches := work.kept.patches
  legs l := by
    have fixed := work.kept.legs l
    exact ⟨show (t.leg l).fixed.config = _ by rw [fixed] <;> rfl, show (t.leg l).fixed.binding = _ by rw [fixed] <;> rfl,
      show (t.leg l).fixed.membership = _ by rw [fixed] <;> rfl, out_of_fixed fixed⟩

theorem tickKeeps_of_tables (stamp : t.link.stamp = s.link.stamp) (frame : t.routes.frame = s.routes.frame)
    (directory : t.directory = s.directory) (patches : t.patches = s.patches) (legs : t.legs = s.legs) : TickKeeps s t :=
  ⟨stamp, frame, directory, fun p => by rw [patch_of_patches patches]; exact ⟨rfl, rfl⟩,
    fun l => by rw [leg_of_legs legs]; exact ⟨rfl, rfl, rfl, rfl⟩⟩

theorem tickKeeps_setPeaks (inbound : Vector Block 20) : TickKeeps s (s.setPeaks inbound) := by
  obtain ⟨-, routes, patches, -, link, directory⟩ := setPeaks_others (s := s) inbound
  refine ⟨by rw [link], by rw [routes], directory, fun p => by rw [patch_of_patches patches]; exact ⟨rfl, rfl⟩, fun l => ?_⟩
  rw [setPeaks_leg]
  exact ⟨rfl, rfl, rfl, rfl⟩

/-- A playback's end taken in a frame. -/
theorem tickKeeps_takeDueEnd (frame : s.routes.frame.isSome = true) : TickKeeps s s.takeDueEnd := by
  unfold State.takeDueEnd State.endPlayback
  split
  next r due =>
    split
    · exact (arbitrates_endTake r).tickKeeps
    · unfold State.endOverlay
      split
      next p named =>
        obtain ⟨legs, patches, same, link, directory⟩ :=
          purge_inFrame_keeps (s := s.enterEnding r) frame (.overlays p) .overlayEnd
        have purged : TickKeeps s ((s.enterEnding r).purge (.overlays p) .overlayEnd).1 :=
          tickKeeps_of_tables (by rw [link] <;> rfl) same directory patches legs
        unfold State.purgeOverlays
        dsimp only
        split
        · exact purged.trans (tickKeeps_of_tables overlayEnded_stamp (by rw [overlayEnded_routes])
            (overlayEnded_directory _) (overlayEnded_patches _) (overlayEnded_legs _))
        · exact purged
      next => exact .refl s
  next => exact .refl s

theorem tickKeeps_endBeforeTick (frame : s.routes.frame.isSome = true) : TickKeeps s s.endBeforeTick := by
  unfold State.endBeforeTick
  split
  · exact tickKeeps_takeDueEnd frame
  · exact .refl s

end Sys2Proof.Machine

/-! SUPPORT. FRAME_START: the playback's end and the carrier conditions inside its tick (R5, R6, R7, R9, R159). -/

namespace Sys2Proof.Machine

variable {s t u : State}

/-! ## The playback's end -/

/-- With no playback the arbiter's work begins none. -/
theorem Arbitrates.context_none (work : Arbitrates s t) (none : s.context = {}) : t.context = {} :=
  work.keeps (P := fun t => t.context = {}) (fun _ _ calm before => (context_of_clips calm.clips).trans before)
    (fun u before => by rw [clipGranted_eq_self (by rw [before]; nofun)]; exact before)
    (fun _ _ => clearPlayback_context) none

/-- Whether a notice was offered: it is in the queue, or the gap flag tells of its loss (R185). -/
def Told (d : Detail) (k : Link) : Prop := k.gap = true ∨ ∃ n ∈ k.notices, n.detail = d

theorem told_offer (d : Detail) (l : Option LegId) (p : Option PatchId) : Told d (s.offer d l p).link := by
  unfold State.offer
  split
  · exact .inr ⟨_, List.mem_append_right _ (List.mem_singleton_self _), rfl⟩
  · exact .inl rfl

theorem Told.later {d : Detail} {k m : Link} (told : Told d k) (noticed : Noticed k m) : Told d m :=
  told.imp noticed.gap fun ⟨n, offered, detail⟩ => ⟨n, noticed.grows.subset offered, detail⟩

theorem endTake_context (r : EndReason) : (s.endTake r).context = {} := by
  have cleared : s.clearPlayback.context = {} := clearPlayback_context
  unfold State.endTake State.offerClip
  dsimp only
  rw [offer_context]
  split
  · exact cleared
  · split
    · exact (arbitrates_pass _).context_none cleared
    · exact cleared

theorem endTake_told (r : EndReason) : Told (.clip s.context.slot r s.context.played) (s.endTake r).link := told_offer ..

/-- An overlay's end in a frame that has an entry of it: the playback is ENDING until its purge is done (R159, R160). -/
theorem endOverlay_waits (frame : s.routes.frame.isSome = true) {p : PatchId} (named : s.context.patch = some p)
    (r : EndReason) {e : EntryId} (live : (s.entry e).live = true) (tag : (s.entry e).tag = some p)
    (kind : (s.entry e).kind = some .overlay) : s.endOverlay r = ((s.enterEnding r).purge (.overlays p) .overlayEnd).1 ∧
      ((s.enterEnding r).purge (.overlays p) .overlayEnd).2 = false := by
  have selected : e ∈ (s.enterEnding r).purged (.overlays p) := by
    refine (mem_purged _ e).mpr ⟨live, ?_⟩
    show (decide ((s.entry e).tag = some p) && decide ((s.entry e).kind = some .overlay)) = true
    rw [tag, kind]
    simp
  have waits : ((s.enterEnding r).purge (.overlays p) .overlayEnd).2 = false := by
    refine purge_inFrame _ _ _ ?_ (.inl (List.ne_nil_of_mem selected))
    exact fun idle => by rw [show s.routes.frame = none from idle] at frame; cases frame
  refine ⟨?_, waits⟩
  rw [State.endOverlay, named]
  dsimp only
  rw [State.purgeOverlays]
  exact if_neg (by rw [waits]; nofun)

/-! ## One leg under a VOX mode -/

theorem follow_follow (present : Bool) (x : Leg) : (x.follow present).follow present = x.follow present := by
  unfold Leg.follow
  cases state : x.rx.state with
  | idle | rising | active | falling => cases present <;> simp [state]
  | barred =>
    cases present with
    | true => simp [state]
    | false =>
      dsimp only
      by_cases starts : (x.rx.barTimer.isNone && !x.rx.barDropDone) = true
      · rw [if_pos starts]
        simp [state]
      · rw [if_neg starts, state]
        exact if_neg starts

theorem foldl_of_settles {α β : Type} {f : β → α → β} {b w : β} {v : α} (moves : f b v = w)
    (stays : ∀ l, l ≠ v → f b l = b) (settles : ∀ l, f w l = w) {ls : List α} (listed : v ∈ ls) : ls.foldl f b = w := by
  have rests (ms : List α) : ms.foldl f w = w := by
    induction ms with
    | nil => rfl
    | cons m ms ih => rw [List.foldl_cons, settles, ih]
  induction ls with
  | nil => cases listed
  | cons l ls ih =>
    by_cases here : l = v
    · rw [List.foldl_cons, here, moves, rests]
    · rw [List.foldl_cons, stays l here]
      exact ih ((List.mem_cons.mp listed).resolve_left fun same => here same.symm)

/-- The comparisons with one leg under a VOX mode, its qualify times not 0: its machine follows its condition (R6, R7). -/
theorem voxEvents_of_one {v : LegId} (radio : v.val < 16) (vox : (s.leg v).config.inputMode ≠ .line)
    (line : ∀ l : LegId, l ≠ v → l.val < 16 → (s.leg l).config.inputMode = .line)
    (free : (s.leg v).park.parked = false) (unmasked : (s.leg v).masked v = false)
    (rise : (s.leg v).config.rise ≠ 0) (drop : (s.leg v).config.drop ≠ 0) (order : List LegId) :
    s.voxEvents order = s.modLeg v fun x => x.follow ((s.leg v).condition v) := by
  let c := (s.leg v).condition v
  let w := s.modLeg v fun x => x.follow c
  have compares : (s.leg v).voxMode v = true := (voxMode_iff v _).mpr ⟨radio, vox⟩
  have mode (l : LegId) (x : Leg) : (x.follow c).voxMode l = x.voxMode l := by rw [follow_rx] <;> rfl
  have others {l : LegId} (other : l ≠ v) : ¬ (s.leg l).voxMode l = true := fun compares => by
    obtain ⟨low, still⟩ := (voxMode_iff l _).mp compares
    exact still (line l other low)
  have record : w.leg v = (s.leg v).follow c := leg_modLeg_same ..
  have evaluated : s.evaluate v = w :=
    (evaluate_of_evaluated free unmasked).trans (modLeg_congr rfl)
  have again : w.evaluate v = w := by
    have free : (w.leg v).park.parked = false := by rw [record, follow_rx]; exact free
    have unmasked : (w.leg v).masked v = false := by rw [record, follow_rx]; exact unmasked
    have condition : (w.leg v).condition v = c := by rw [record, follow_rx] <;> rfl
    have settled : (w.leg v).follow ((w.leg v).condition v) = w.leg v := by rw [condition, record, follow_follow]
    rw [evaluate_of_evaluated free unmasked]
    exact modLeg_eq_self settled
  unfold State.voxEvents
  refine foldl_of_settles (v := v) ?_ (fun l other => if_neg (others other)) (fun l => ?_) ?_
  · rw [if_pos compares, conditionEvent_of_slow (fun _ _ => rise) (fun _ _ => drop), evaluated]
  · by_cases here : l = v
    · rw [here, show (w.leg v).voxMode v = true by rw [record, mode]; exact compares, if_pos rfl,
        conditionEvent_of_slow, again]
      · rw [again]
        exact fun idle rises => absurd (idle.symm.trans rises) nofun
      · rw [again]
        exact fun active falls => absurd (active.symm.trans falls) nofun
    · exact if_neg (by rw [leg_modLeg_ne _ _ here]; exact others here)
  · rw [voxOrder, List.mem_append, List.mem_filter]
    by_cases named : v ∈ order
    · exact .inl named
    · exact .inr ⟨List.mem_finRange v, by simpa using named⟩

/-! ## The words of the statement -/

theorem applied_eq (x : Entry) : x.applied = match x.state, x.pendingSource with
    | .free, _ | .purging, _ => x
    | _, none => { x with state := .reserved, source := none }
    | _, some y =>
      if some y = x.dest.map Party.leg then { x with state := .reserved, source := none }
      else { x with state := .active, source := some y } := by
  unfold Entry.applied Entry.live
  cases x.state <;> cases x.pendingSource <;> rfl

theorem Supplied.playback (supplied : Supplied s t) : t.context.slot = s.context.slot ∧
    t.context.mode = s.context.mode ∧ t.context.patch = s.context.patch := by
  cases supplied with
  | silent => exact ⟨rfl, rfl, rfl⟩
  | stored _ _ moved => obtain ⟨_, _, _, _, rfl⟩ := moved; exact ⟨rfl, rfl, rfl⟩
  | stream _ _ moved =>
    obtain ⟨_, _, _, _, _, rfl⟩ | ⟨_, _, _, _, rfl⟩ := moved <;> exact ⟨rfl, rfl, rfl⟩
  | tone _ moved => obtain ⟨_, _, rfl⟩ := moved; exact ⟨rfl, rfl, rfl⟩

/-- The rest of a tick whose frame makes the end of a take due (R156–R159). -/
theorem tick_endsTake (inbound : Vector Block 20) (order : List LegId) (vox : s.tickGoesOn = true) {r : EndReason}
    (due : s.context.endDue = some r) (mode : s.context.mode = .take) :
    let t := (s.endBeforeTick.setPeaks inbound).voxEvents order
    t.context = {} ∧ Told (.clip s.context.slot r s.context.played) t.link := by
  have ends : s.endBeforeTick = s.endTake r := by
    rw [State.endBeforeTick, if_pos vox, State.takeDueEnd, due]
    dsimp only
    rw [State.endPlayback, mode]
  obtain ⟨-, -, -, clips, link, -⟩ := setPeaks_others (s := s.endTake r) inbound
  have work := arbitrates_voxEvents (s := (s.endTake r).setPeaks inbound) order
  intro t
  have same : t = ((s.endTake r).setPeaks inbound).voxEvents order := by rw [← ends]
  rw [same]
  refine ⟨work.context_none ((context_of_clips clips).trans (endTake_context r)), ?_⟩
  exact Told.later (by rw [link]; exact endTake_told r) work.kept.link

/-- The rest of a tick whose frame makes the end of an overlay due, with an entry of it and no claim of CLIP (R159, R160). -/
theorem tick_endsOverlay (inbound : Vector Block 20) (order : List LegId) (vox : s.tickGoesOn = true) {r : EndReason}
    (due : s.context.endDue = some r) (mode : s.context.mode = .overlay) {p : PatchId} (named : s.context.patch = some p)
    (frame : s.routes.frame.isSome = true) {e : EntryId} (live : (s.entry e).live = true)
    (tag : (s.entry e).tag = some p) (kind : (s.entry e).kind = some .overlay) (without : Clipless s) :
    ((s.endBeforeTick.setPeaks inbound).voxEvents order).context =
      { s.context with phase := .ending, tone := 0, reason := some r, endDue := none } := by
  obtain ⟨waits, -⟩ := endOverlay_waits frame named r live tag kind
  have ends : s.endBeforeTick = ((s.enterEnding r).purge (.overlays p) .overlayEnd).1 := by
    rw [← waits, State.endBeforeTick, if_pos vox, State.takeDueEnd, due]
    dsimp only
    rw [State.endPlayback, mode]
  obtain ⟨-, patches, -⟩ := purge_inFrame_keeps (s := s.enterEnding r) frame (.overlays p) .overlayEnd
  rw [ends]
  set u := ((s.enterEnding r).purge (.overlays p) .overlayEnd).1 with purged
  obtain ⟨-, -, still, clips, -, -⟩ := setPeaks_others (s := u) inbound
  have spared : Clipless (u.setPeaks inbound) := fun q => by
    rw [patch_of_patches still, patch_of_patches patches]
    exact without q
  obtain ⟨-, same⟩ := spares_voxEvents (s := u.setPeaks inbound) order spared
  rw [context_of_clips same, context_of_clips clips, purged,
    context_of_clips (purge_clips ..)]
  rfl

end Sys2Proof.Machine

/-! SUPPORT. FRAME_START settled in the words of its statement (R130, R132, R133). -/

namespace Sys2Proof.Machine

variable {s t u : State}

/-- FRAME_START while nothing is due, no frame is in progress and no walk waits. -/
theorem exec_frameStart (inbound : Vector Block 20) (order : List LegId) (settled : s.Settled)
    (idle : s.routes.frame = none) (walk : s.walk.due = false) : exec (.frameStart inbound order) s =
      .next ((((s.framed inbound).endBeforeTick).setPeaks inbound).voxEvents order) := by
  rw [exec_of_settled settled rfl, takeFrameStart_of_idle inbound order idle walk]

section
variable (inbound : Vector Block 20)

theorem framed_config (l : LegId) : ((s.framed inbound).leg l).config = (s.leg l).config := by
  rw [framed_leg] <;> rfl

theorem framed_walk : (s.framed inbound).walk = s.walk := by rw [framed_eq]

theorem framed_frame : (s.framed inbound).routes.frame = some (s.takenBy inbound) := by rw [framed_eq]

/-- With no end due, or nothing of the tick to follow, the frame's start leaves a playback's end alone. -/
theorem framed_endBeforeTick (walk : s.walk.due = false)
    (leaves : s.supplyClip.2.context.endDue = none ∨ ∀ l : LegId, l.val < 16 → (s.leg l).config.inputMode = .line) :
    (s.framed inbound).endBeforeTick = s.framed inbound := by
  obtain going | line := leaves
  · exact endBeforeTick_of_going (by rw [framed_context]; exact going)
  · refine endBeforeTick_of_line (by rw [framed_walk]; exact walk) fun l radio => ?_
    rw [framed_config]
    exact line l radio

theorem framed_goesOn {v : LegId} (radio : v.val < 16) (vox : (s.leg v).config.inputMode ≠ .line) :
    (s.framed inbound).tickGoesOn = true := by
  rw [State.tickGoesOn, Bool.or_eq_true, List.any_eq_true]
  exact .inr ⟨v, List.mem_finRange v, (voxMode_iff v _).mpr ⟨radio, by rw [framed_config]; exact vox⟩⟩

theorem peaked_config (l : LegId) : (((s.framed inbound).setPeaks inbound).leg l).config = (s.leg l).config := by
  rw [setPeaks_leg]
  exact framed_config inbound l

/-- What a tick leaves alone of the state in which its frame began. -/
theorem frameStart_keeps (order : List LegId) :
    TickKeeps (s.framed inbound) ((((s.framed inbound).endBeforeTick).setPeaks inbound).voxEvents order) := by
  have frame : (s.framed inbound).routes.frame.isSome = true := by rw [framed_frame] <;> rfl
  exact ((tickKeeps_endBeforeTick frame).trans (tickKeeps_setPeaks inbound)).trans (arbitrates_voxEvents order).tickKeeps

/-- With a playback's end left alone, the entries are as the pending sources leave them but for new ones. -/
theorem frameStart_entries (order : List LegId) (walk : s.walk.due = false)
    (leaves : s.supplyClip.2.context.endDue = none ∨ ∀ l : LegId, l.val < 16 → (s.leg l).config.inputMode = .line) :
    let t := (((s.framed inbound).endBeforeTick).setPeaks inbound).voxEvents order
    (∀ e, (t.entry e).fixed = (s.entry e).applied.fixed) ∧ t.routes.purges = s.routes.purges := by
  rw [framed_endBeforeTick inbound walk leaves]
  obtain ⟨-, routes, -, -, -, -⟩ := setPeaks_others (s := s.framed inbound) inbound
  have kept := (arbitrates_voxEvents (s := (s.framed inbound).setPeaks inbound) order).kept
  refine ⟨fun e => (kept.entries e).trans ?_, kept.frame.2.trans ?_⟩
  · rw [← framed_entry inbound]
    exact congrArg (fun r : Routes => (r.entries.get e).fixed) routes
  · rw [routes, framed_eq]

end

theorem taken_eq (x : Entry) (inbound : Vector Block 20) (clip : Block) : x.taken (sourceBlock inbound clip) =
    match x.state, x.source, x.dest with
      | .active, some y, some l => some ⟨y, l, x.gain, match y with
        | .leg m => inbound.get m
        | .clip => clip⟩
      | _, _, _ => none := by
  unfold Entry.taken sourceBlock
  rfl

/-- Settles O48: the state the frame begins in, then what of the tick follows. -/
theorem frameStartTakesTheActiveEntries : Obligations.FrameStartTakesTheActiveEntries := by
  unfold Obligations.FrameStartTakesTheActiveEntries
  intro applied taken peak ticked
  have appliedSame (s : State) (e : EntryId) : applied s e = (s.entry e).applied := (applied_eq (s.entry e)).symm
  have takenSame (s : State) (inbound : Vector Block 20) : s.takenBy inbound = taken s inbound := by
    refine List.filterMap_congr fun e _ => ?_
    rw [← appliedSame]
    exact taken_eq _ inbound s.supplyClip.1
  have begins (s : State) (inbound : Vector Block 20) : (s.framed inbound).setPeaks inbound = { s with
       legs := Vector.ofFn (ticked s inbound)
       patches := Vector.ofFn fun p => { s.patch p with floor := { (s.patch p).floor with
         hangTimer := (s.patch p).floor.hangTimer.map (· - 1), talkTimer := (s.patch p).floor.talkTimer.map (· - 1) } }
       routes := { s.routes with entries := Vector.ofFn (applied s), frame := some (taken s inbound) }
       clips := s.supplyClip.2.clips
       link := { s.link with stamp := s.link.stamp + 1 }
       freeCount := s.supplyClip.2.freeCount } := by
    rw [setPeaks_framed, framed_eq, takenSame, show applied s = fun e => (s.entry e).applied from funext (appliedSame s)]
    have legs : (fun l => (s.leg l).tickedWith (inbound.get l)) = ticked s inbound := funext fun l => by
      unfold Leg.tickedWith Leg.tick
      dsimp only [ticked]
      cases (s.leg l).tx.confirm <;> rfl
    rw [legs]
    rfl
  refine ⟨fun inbound order s settled idle walk => ?_, fun inbound order s settled idle walk => ⟨fun line => ?_,
    fun going => ?_⟩, fun l u settled => ?_, fun inbound order v s settled idle walk radio vox line free unmasked rise
    drop going => ?_, fun inbound order p r s settled idle walk ⟨v, radio, vox⟩ named due => ?_⟩
  · have kept := frameStart_keeps (s := s) inbound order
    refine ⟨_, exec_frameStart inbound order settled idle walk, ?_, fun leaves => ?_, ?_, ?_, fun p => ?_, fun l => ?_⟩
    · rw [kept.stamp, framed_eq]
    · obtain ⟨entries, purges⟩ := frameStart_entries inbound order walk leaves
      exact ⟨fun e => by rw [entries, appliedSame], purges⟩
    · rw [kept.frame, framed_frame, takenSame]
    · rw [kept.directory, framed_eq]
    · have patch := kept.patches p
      rw [framed_patch] at patch
      exact patch
    · have leg := kept.legs l
      rw [framed_leg] at leg
      exact leg
  · rw [exec_frameStart inbound order settled idle walk, framed_endBeforeTick inbound walk (.inr line), voxEvents_of_line,
      begins]
    intro l radio
    rw [peaked_config]
    exact line l radio
  · rw [exec_frameStart inbound order settled idle walk, framed_endBeforeTick inbound walk (.inl going), voxEvents_eq,
      begins]
  · rw [exec_carrierConditionChange l _ settled]
    have same : u.modLeg l (Leg.withCarrier (u.leg l).inputs.carrierHigh) = u := modLeg_eq_self rfl
    rw [same]
  · have leg (l : LegId) : ((s.framed inbound).setPeaks inbound).leg l = ticked s inbound l := by
      rw [begins]
      exact get_ofFn _ l
    have events := voxEvents_of_one (s := (s.framed inbound).setPeaks inbound) (v := v) radio
      (by rw [peaked_config]; exact vox) (fun l other low => by rw [peaked_config]; exact line l other low)
      (by rw [leg]; exact free) (by rw [leg]; exact unmasked) (by rw [peaked_config]; exact rise)
      (by rw [peaked_config]; exact drop) order
    intro x above present rx
    have condition : (ticked s inbound v).condition v = present := by
      have low : isRadio v = true := (isRadio_iff v).mpr radio
      have modeSame : (ticked s inbound v).config.inputMode = x.config.inputMode := rfl
      unfold Leg.condition
      rw [if_pos low, modeSame]
      cases mode : x.config.inputMode with
      | line => exact absurd mode vox
      | vox =>
        show above = (above && (decide (x.config.inputMode = .vox) || (x.inputs.carrierHigh != x.config.carrierLow)))
        rw [mode]
        simp
      | both =>
        show ((x.inputs.carrierHigh != x.config.carrierLow) && above) =
          (above && (decide (x.config.inputMode = .vox) || (x.inputs.carrierHigh != x.config.carrierLow)))
        rw [mode, Bool.and_comm]
        simp
    have timer : (ticked s inbound v).rx.barTimer = none ↔ x.rx.barTimer = none := Option.map_eq_none_iff
    refine ⟨_, exec_frameStart inbound order settled idle walk, ?_, fun l other => ?_, ?_, ?_⟩
    all_goals rw [framed_endBeforeTick inbound walk (.inl going), events]
    · rw [leg_modLeg_same, leg, condition, follow_rx]
      simp only [timer]
      rfl
    · rw [leg_modLeg_ne _ _ other, leg] <;> rfl
    · rw [modLeg_link, begins]
    · rw [modLeg_clips, begins]
  · have taken := exec_frameStart inbound order settled idle walk
    have goesOn := framed_goesOn inbound radio vox
    have context := framed_context (s := s) inbound
    obtain ⟨slot, mode, patch⟩ := (supplied_supplyClip (s := s)).playback
    refine ⟨_, taken, fun take => ?_, fun overlay ⟨e, listed, live, tag, kind⟩ without => ?_⟩
    · obtain ⟨ended, told⟩ := tick_endsTake inbound order goesOn (by rw [context]; exact due)
        (by rw [context]; exact mode.trans take)
      rw [context, slot] at told
      exact ⟨ended, told⟩
    · have ended := tick_endsOverlay inbound order goesOn (by rw [context]; exact due)
        (by rw [context]; exact mode.trans overlay) (by rw [context]; exact patch.trans named)
        (by rw [framed_frame] <;> rfl) (e := e) (by rw [framed_entry, applied_live]; exact live)
        (by rw [framed_entry, (applied_same _).1]; exact tag) (by rw [framed_entry, (applied_same _).2.1]; exact kind)
        fun q => by rw [framed_patch]; exact without q
      rw [context] at ended
      exact ended

end Sys2Proof.Machine

/-! SUPPORT. JOIN: its nine checks, and the leg admitted (R57–R61). -/

namespace Sys2Proof.Machine

variable {s t u : State} {h : Header}

/-! ## The checks -/

section
variable {p : PatchId} {l : LegId} {b : Binding} {force override : Bool}

theorem joinChecks_of_inactive (inactive : (s.patch p).state ≠ .active) :
    joinChecks p l force override s = .refused .patchState := if_pos inactive

theorem joinChecks_of_unbound (active : (s.patch p).state = .active) (unbound : (s.leg l).binding = none) :
    joinChecks p l force override s = .refused .notBound := by
  unfold joinChecks
  dsimp only
  rw [if_neg (not_not_intro active), unbound]

/-- The checks from the third on (R58). -/
theorem joinChecks_of_bound (active : (s.patch p).state = .active) (bound : (s.leg l).binding = some b) :
    joinChecks p l force override s =
      if (s.leg l).park.parked then .refused .parked
      else if (s.leg l).membership.isSome then .refused .member
      else if (s.patch p).monitors.any (·.1 = l) then .refused .monitoring
      else if 8 ≤ (s.patch p).members.length then .refused .patchFull
      else match s.refresh b force with
        | .refused r => .refused r
        | r =>
          if !override && !r.binding.any fun b => (s.patch p).access.admits b.authority then .refused .denied
          else if s.lowestFree.isNone then .refused .routeFull
          else r := by
  unfold joinChecks
  dsimp only
  rw [if_neg (not_not_intro active), bound]
  rfl

theorem monitors_any_iff {monitors : List (LegId × Nat)} :
    (monitors.any (·.1 = l)) = true ↔ ∃ g, (l, g) ∈ monitors := by
  rw [List.any_eq_true]
  constructor
  · rintro ⟨⟨m, g⟩, listed, same⟩
    obtain rfl : m = l := of_decide_eq_true same
    exact ⟨g, listed⟩
  · rintro ⟨g, listed⟩
    exact ⟨(l, g), listed, decide_eq_true rfl⟩

/-- Whether a leg comes to the seventh check of JOIN (R58). -/
structure MayJoin (s : State) (p : PatchId) (l : LegId) (b : Binding) : Prop where
  active : (s.patch p).state = .active
  bound : (s.leg l).binding = some b
  unparked : (s.leg l).park.parked = false
  alone : (s.leg l).membership = none
  unmonitored : ∀ g, (l, g) ∉ (s.patch p).monitors
  room : (s.patch p).members.length < 8

theorem joinChecks_of_mayJoin (may : MayJoin s p l b) : joinChecks p l force override s =
    match s.refresh b force with
    | .refused r => .refused r
    | r =>
      if !override && !r.binding.any fun b => (s.patch p).access.admits b.authority then .refused .denied
      else if s.lowestFree.isNone then .refused .routeFull
      else r := by
  obtain ⟨active, bound, unparked, alone, unmonitored, room⟩ := may
  rw [joinChecks_of_bound active bound, unparked, alone, if_neg nofun, if_neg nofun,
    if_neg (fun any => absurd (monitors_any_iff.mp any) fun ⟨g, listed⟩ => unmonitored g listed),
    if_neg (Nat.not_le.mpr room)] <;> rfl

/-- What step 7 makes of a binding (R47, R48, R58). -/
theorem refresh_eq : s.refresh b force =
    if force = true ∨ b.generation ≠ (s.agency b.agency).generation then
      match s.translate b.agency b.channel none none with
      | .refused r => .refused r
      | .found e => .renewed (s.bindingOf b.agency b.channel e (refreshedPriority b e))
    else .kept b := by
  unfold State.refresh
  cases force with
  | true => rfl
  | false => by_cases same : b.generation = (s.agency b.agency).generation <;> simp [same] <;> rfl

/-- The last two checks, when step 7 leaves a binding (R58). -/
theorem joinChecks_of_refreshed (may : MayJoin s p l b) {c : Binding} {renewed : Bool}
    (refreshed : s.refresh b force = if renewed then .renewed c else .kept c) : joinChecks p l force override s =
      if override = false ∧ (s.patch p).access.admits c.authority = false then .refused .denied
      else if s.lowestFree.isNone then .refused .routeFull
      else if renewed then .renewed c else .kept c := by
  rw [joinChecks_of_mayJoin may, refreshed]
  cases renewed <;> cases override <;> cases admits : (s.patch p).access.admits c.authority <;>
    simp [Refreshed.binding, admits]

theorem takeJoin_of_refused {patch leg options : Byte} {r : Result} (patched : patch.toNat = p.val + 1)
    (named : leg.toNat = l.val)
    (checks : joinChecks p l (hasOption options 0) (hasOption options 1) s = .refused r) :
    takeJoin h patch leg options s = s.refuse h .join r := by
  rw [takeJoin, patchOf_eq_some_iff.mpr patched, legOf_eq_some_iff.mpr named]
  dsimp only
  rw [checks]

theorem lowestFree_eq_none_iff : s.lowestFree.isNone = true ↔ ∀ e, (s.entry e).state ≠ .free := by
  rw [Option.isNone_iff_eq_none, State.lowestFree, List.find?_eq_none]
  simp [allEntries]

theorem lowestFree_eq_some {e : EntryId} (free : (s.entry e).state = .free)
    (lowest : ∀ f, f < e → (s.entry f).state ≠ .free) : s.lowestFree = some e := by
  refine List.find?_eq_some_iff_getElem.mpr ⟨decide_eq_true free, e.val, by simp [allEntries], by simp [allEntries],
    fun j before => ?_⟩
  simpa [allEntries] using lowest ⟨j, by omega⟩ before

end

/-- Settles O32: the checks in their order. -/
theorem joinChecksInOrder : Obligations.JoinChecksInOrder := by
  intro h patch leg options p l s ready patched named x y refused
  have refuses (r : Result) (checks : joinChecks p l (hasOption options 0) (hasOption options 1) s = .refused r) :
      refused r := row_refuses (k := .join) ready rfl (takeJoin_of_refused patched named checks)
  refine ⟨fun inactive => refuses _ (joinChecks_of_inactive inactive),
    fun active unbound => refuses _ (joinChecks_of_unbound active unbound), fun b active bound =>
      ⟨fun parked => refuses _ ?_, fun unparked member => refuses _ ?_, fun unparked alone =>
        ⟨fun monitored => refuses _ ?_, fun unmonitored => ⟨fun full => refuses _ ?_, fun room => ?_⟩⟩⟩⟩
  · rw [joinChecks_of_bound active bound, if_pos parked]
  · rw [joinChecks_of_bound active bound, unparked, if_neg nofun, if_pos member]
  · rw [joinChecks_of_bound active bound, unparked, alone, if_neg nofun, if_neg nofun,
      if_pos (monitors_any_iff.mpr monitored)]
  · rw [joinChecks_of_bound active bound, unparked, alone, if_neg nofun, if_neg nofun,
      if_neg (fun any => absurd (monitors_any_iff.mp any) fun ⟨g, listed⟩ => unmonitored g listed), if_pos full]
  · have may : MayJoin s p l b := ⟨active, bound, unparked, alone, unmonitored, room⟩
    intro renew override
    refine ⟨fun r renews refusal => refuses r ?_, fun authority source => ?_⟩
    · rw [joinChecks_of_mayJoin may, refresh_eq, if_pos (show hasOption options 0 = true ∨ _ from renews), refusal]
    · obtain ⟨c, renewed, refreshed, same⟩ : ∃ c renewed,
          s.refresh b (hasOption options 0) = (if renewed = true then .renewed c else .kept c) ∧
            authority = c.authority := by
        rw [refresh_eq]
        obtain ⟨still, kept⟩ | ⟨renews, e, found, planned⟩ := source
        · exact ⟨b, false, if_neg still, kept⟩
        · exact ⟨_, true, (if_pos renews).trans (by rw [found] <;> rfl), planned⟩
      rw [same]
      refine ⟨fun ⟨bars, denies⟩ => refuses _ ?_, fun admits full => refuses _ ?_⟩
      · rw [joinChecks_of_refreshed may refreshed, if_pos ⟨by simpa [hasOption, override] using bars, denies⟩]
      · rw [joinChecks_of_refreshed may refreshed, if_neg, if_pos (lowestFree_eq_none_iff.mpr full)]
        rintro ⟨bars, denies⟩
        obtain admitted | admitted := admits
        · exact absurd (bars.symm.trans admitted) nofun
        · exact absurd (denies.symm.trans admitted) nofun

/-! ## The leg admitted -/

section
variable {p : PatchId} {l : LegId} {e : EntryId} {c : Binding}

theorem enlisted_leg (m : LegId) :
    (s.enlisted p l).leg m = if m = l then { s.leg l with membership := some p } else s.leg m := leg_modLeg ..

theorem lowestFree_enlisted : (s.enlisted p l).lowestFree = s.lowestFree := lowestFree_of_routes rfl

theorem admitted_patch (q : PatchId) : (admitted p l c s).patch q = { s.patch q with
    members := if q = p then (s.patch q).members ++ [l] else (s.patch q).members
    chain := ((admitted p l c s).patch q).chain } := by
  rw [admitted_eq, reserve_patch, enlisted_patch]

theorem admitted_chain (free : s.lowestFree = some e) (q : PatchId) : ((admitted p l c s).patch q).chain =
    if q = p then (s.patch p).chain ++ [e] else (s.patch q).chain := by
  rw [admitted_eq, reserve_chain (lowestFree_enlisted.trans free), enlisted_patch, enlisted_patch]

theorem admitted_entry_ne (free : s.lowestFree = some e) {f : EntryId} (other : f ≠ e) :
    (admitted p l c s).entry f = s.entry f := by
  rw [admitted_eq, reserve_entry (lowestFree_enlisted.trans free), if_neg other]
  rfl

theorem admitted_others : (admitted p l c s).directory = s.directory ∧ (admitted p l c s).link = s.link ∧
    (admitted p l c s).routes.frame = s.routes.frame ∧ (admitted p l c s).routes.purges = s.routes.purges := by
  rw [admitted]
  exact ⟨by rw [reserve_directory] <;> rfl, by rw [reserve_link] <;> rfl, by rw [reserve_frame] <;> rfl,
    by rw [reserve_purges] <;> rfl⟩

/-- A binding that step 7 of JOIN leaves is written with no effect but on masking (R10, R47). -/
theorem calm_rebind {b : Binding} (bound : (s.leg l).binding = some b) (renewed : Bool)
    (kept : renewed = false → c = b) :
    Calm (s.modLeg l fun x => { x with binding := some c }) (if renewed then s.writeBinding l (some c) else s) := by
  cases renewed with
  | true => exact calm_mask l _
  | false =>
    have same : s.modLeg l (fun x => { x with binding := some c }) = s :=
      modLeg_eq_self (by rw [kept rfl, ← bound])
    rw [same]
    exact .refl s

theorem takeJoin_of_admitted {b : Binding} {patch leg options : Byte} {renewed : Bool} (patched : patch.toNat = p.val + 1)
    (named : leg.toNat = l.val) (may : MayJoin s p l b)
    (refreshed : s.refresh b (hasOption options 0) = if renewed then .renewed c else .kept c)
    (admits : hasOption options 1 = true ∨ (s.patch p).access.admits c.authority = true)
    (free : s.lowestFree = some e) :
    takeJoin h patch leg options s = (joinLeg p l c renewed e s).grantReply h .join (joinResults c renewed e) := by
  have passes : joinChecks p l (hasOption options 0) (hasOption options 1) s =
      if renewed then .renewed c else .kept c := by
    rw [joinChecks_of_refreshed may refreshed, if_neg, free]
    · rfl
    · rintro ⟨bars, denies⟩
      obtain admitted | admitted := admits
      · exact absurd (bars.symm.trans admitted) nofun
      · exact absurd (denies.symm.trans admitted) nofun
  rw [takeJoin, patchOf_eq_some_iff.mpr patched, legOf_eq_some_iff.mpr named]
  dsimp only
  rw [passes, free]
  cases renewed <;> rfl

/-- The leg admitted once its binding is written, and handed to the floor: what of it the statement of JOIN names. -/
structure Joined (s : State) (p : PatchId) (l : LegId) (c : Binding) (e : EntryId) (t : State) : Prop where
  legs : ∀ m, (t.leg m).fixed =
    if m = l then { s.leg l with binding := some c, membership := some p }.fixed else (s.leg m).fixed
  patches : ∀ q, (t.patch q).fixed =
    { s.patch q with members := if q = p then (s.patch q).members ++ [l] else (s.patch q).members }.fixed
  chain : ∀ q, (t.patch q).chain = if q = p then (s.patch p).chain ++ [e] else (s.patch q).chain
  reserved : (t.entry e).fixed =
    { state := .reserved, tag := some p, kind := some .member, dest := some l, gain := memberGain l c }
  entries : ∀ f, f ≠ e → (t.entry f).fixed = (s.entry f).fixed
  directory : t.directory = s.directory
  frame : t.routes.frame = s.routes.frame ∧ t.routes.purges = s.routes.purges
  link : Noticed s.link t.link

theorem joined_of_rebound (rebound : Calm (s.modLeg l fun x => { x with binding := some c }) u)
    (free : u.lowestFree = some e) : Joined s p l c e ((admitted p l c u).handToFloor p l e) := by
  have kept := (arbitrates_joinLeg free p l c).kept
  obtain ⟨directory, link, frame, purges⟩ := admitted_others (s := u) (p := p) (l := l) (c := c)
  refine ⟨fun m => ?_, fun q => ?_, fun q => ?_, ?_, fun f other => ?_, ?_, ⟨?_, ?_⟩, ?_⟩
  · have before := rebound.legs m
    rw [kept.legs, admitted_eq, reserve_leg, enlisted_leg]
    rw [leg_modLeg] at before
    split at before
    next same =>
      rw [same] at before ⊢
      rw [if_pos rfl, if_pos rfl]
      have member : ({ u.leg l with membership := some p } : Leg).fixed = { (u.leg l).fixed with membership := some p } :=
        rfl
      rw [member, before]
      rfl
    next other => rw [if_neg other, if_neg other, before]
  · have before := (rebound.patches q).1
    have members : (u.patch q).members = (s.patch q).members := members_of_fixed before
    have listed : ∀ ls : List LegId, ({ u.patch q with members := ls } : Patch).fixed =
        { (u.patch q).fixed with members := ls } :=
      fun _ => rfl
    rw [(kept.patches q).1, admitted_patch]
    refine (listed _).trans ?_
    rw [before, members]
    rfl
  · rw [(kept.patches q).2, admitted_chain free, (rebound.patches p).2, (rebound.patches q).2] <;> rfl
  · rw [kept.entries, admitted_entry free] <;> rfl
  · rw [kept.entries, admitted_entry_ne free other, rebound.entries] <;> rfl
  · rw [kept.directory, directory, rebound.directory] <;> rfl
  · rw [kept.frame.1, frame, rebound.frame.1] <;> rfl
  · rw [kept.frame.2, purges, rebound.frame.2] <;> rfl
  · exact Noticed.trans (by rw [link]; exact rebound.link) kept.link

end

theorem routes_of_silent (same : t.silent = u.silent) : t.routes = u.routes := by
  have routes := congrArg State.routes same
  exact routes

theorem directory_of_silent (same : t.silent = u.silent) : t.directory = u.directory := by
  have directory := congrArg State.directory same
  exact directory

/-- The binding that JOIN leaves, in the words of R47 and R48: kept, or translated again. -/
abbrev JoinSource (s : State) (b c : Binding) (renewed : Bool) : Prop :=
  (renewed = false ∧ c = b) ∨ (renewed = true ∧ ∃ x, s.translate b.agency b.channel none none = .found x ∧
    c = { b with
      planIndex := (s.agency b.agency).base + b.channel, generation := (s.agency b.agency).generation,
      authority := x.authority, priority := if b.priority ≤ x.ceiling then b.priority else x.defaultPriority,
      ceiling := x.ceiling, defaultPriority := x.defaultPriority, duplex := x.duplex, keyLead := x.keyLead,
      timeLimit := x.timeLimit, lockout := x.lockout, gain := x.gain })

theorem kept_of_source {b c : Binding} {renewed : Bool} (source : JoinSource s b c renewed) (kept : renewed = false) :
    c = b := by
  obtain ⟨-, same⟩ | ⟨now, -⟩ := source
  · exact same
  · rw [kept] at now
    cases now

theorem refresh_of_source {b c : Binding} {renewed force : Bool}
    (renews : renewed = true ↔ force = true ∨ b.generation ≠ (s.agency b.agency).generation)
    (source : JoinSource s b c renewed) : s.refresh b force = if renewed then .renewed c else .kept c := by
  rw [refresh_eq]
  obtain ⟨kept, rfl⟩ | ⟨now, x, found, rfl⟩ := source
  · rw [if_neg (fun again => by rw [renews.mpr again] at kept; cases kept), kept] <;> rfl
  · rw [if_pos (renews.mp now), found, now] <;> rfl

/-- Settles O33: the leg is admitted, and the floor's work changes no other field named. -/
theorem joinAdmitsTheLeg : Obligations.JoinAdmitsTheLeg := by
  intro h patch leg options p l b c e s ready patched named active bound unparked alone unmonitored room renew source
    admits free lowest
  have may : MayJoin s p l b := ⟨active, bound, unparked, alone, unmonitored, room⟩
  have renews : renew = true ↔ hasOption options 0 = true ∨ b.generation ≠ (s.agency b.agency).generation := by
    rw [Bool.or_eq_true, bne_iff_ne] <;> rfl
  have refreshed : s.refresh b (hasOption options 0) = if renew then .renewed c else .kept c :=
    refresh_of_source renews source
  have lowestOne := lowestFree_eq_some free lowest
  set u := if renew = true then s.writeBinding l (some c) else s with rebound
  have calm : Calm (s.modLeg l fun x => { x with binding := some c }) u :=
    calm_rebind bound renew (kept_of_source source)
  have lowestThen : u.lowestFree = some e := by
    rw [rebound]
    split
    · exact (writeBinding_lowestFree l _).trans lowestOne
    · exact lowestOne
  have joined : Joined s p l c e (joinLeg p l c renew e s) := by
    rw [joinLeg_eq]
    exact joined_of_rebound calm lowestThen
  obtain ⟨t, run, replies, same⟩ := granted_run (i := .join h patch leg options) (k := .join) ready rfl
    (takeJoin_of_admitted patched named may refreshed admits lowestOne) joined.link
  have directory : t.directory = s.directory := (directory_of_silent same).trans joined.directory
  have routes : t.routes = (joinLeg p l c renew e s).routes :=
    routes_of_silent same
  have leg (m : LegId) := (congrArg Leg.fixed (leg_of_silent same m)).trans (joined.legs m)
  have patch (q : PatchId) := (congrArg Patch.fixed (patch_of_silent same q)).trans (joined.patches q)
  have chain (q : PatchId) := (congrArg Patch.chain (patch_of_silent same q)).trans (joined.chain q)
  have here := leg l
  rw [if_pos rfl] at here
  refine ⟨t, run, replies, ?_, ?_, ?_, ?_, ?_, fun f other => ?_, fun m other => ?_, fun q other => ⟨?_, ?_⟩,
    directory, ?_, ?_⟩
  · rw [members_of_fixed (patch p)]
    exact if_pos rfl
  · exact show (t.leg l).fixed.membership = _ by rw [here] <;> rfl
  · exact show (t.leg l).fixed.binding = _ by rw [here] <;> rfl
  · rw [chain, if_pos rfl]
  · rw [entry_of_silent same]
    refine joined.reserved.trans ?_
    rw [memberGain]
    simp only [isRadio_iff]
  · rw [entry_of_silent same]
    exact joined.entries f other
  · rw [leg m, if_neg other]
  · rw [patch q, if_neg other]
  · rw [chain q, if_neg other]
  · rw [routes]
    exact joined.frame.1
  · rw [routes]
    exact joined.frame.2

end Sys2Proof.Machine

/-! SUPPORT. JOIN as a state: the binding written, the member's records, and its place on the floor (R59–R61). -/

namespace Sys2Proof.Machine

variable {s t u : State} {h : Header}

section
variable {p : PatchId} {l : LegId} {b c : Binding} {e : EntryId}

/-- The state after the seventh step of JOIN. -/
def State.rebound (s : State) (l : LegId) (renewed : Bool) (c : Binding) : State :=
  if renewed then s.writeBinding l (some c) else s

theorem rebound_eq {renewed : Bool} (bound : (s.leg l).binding = some b) (free : (s.leg l).park.parked = false)
    (kept : renewed = false → c = b) : s.rebound l renewed c =
      let written := s.modLeg l fun x => { x with binding := some c }
      if l.val < 16 ∧ (s.leg l).tx.state.keyAsserted = true ∧ b.duplex = true ∧ c.duplex = false then
        written.startMasking l
      else if l.val < 16 ∧ (s.leg l).tx.state.keyAsserted = true ∧ b.duplex = false ∧ c.duplex = true then
        written.modLeg l fun x => x.follow (x.condition l)
      else written := by
  have duplex : (s.leg l).binding.any Binding.duplex = b.duplex := by rw [bound] <;> rfl
  dsimp only
  cases renewed with
  | false =>
    obtain rfl := kept rfl
    have same : s.modLeg l (fun x => { x with binding := some c }) = s := modLeg_eq_self (by rw [← bound])
    rw [same, if_neg, if_neg]
    · rfl
    · rintro ⟨-, -, simplex, duplex⟩
      exact absurd (simplex.symm.trans duplex) nofun
    · rintro ⟨-, -, duplex, simplex⟩
      exact absurd (simplex.symm.trans duplex) nofun
  | true =>
    show s.writeBinding l (some c) = _
    split
    next masks =>
      obtain ⟨radio, keyed, duplexWas, simplex⟩ := masks
      exact writeBinding_begins ⟨radio, keyed⟩ (duplex.trans duplexWas) simplex
    next stays =>
      split
      next ends =>
        obtain ⟨radio, keyed, simplexWas, duplexNow⟩ := ends
        rw [writeBinding_ends ⟨radio, keyed⟩ (duplex.trans simplexWas) duplexNow]
        refine modLeg_congr ?_
        rw [leg_modLeg_same, show ({ s.leg l with binding := some c } : Leg).park.parked = false from free]
        rfl
      next holds =>
        refine writeBinding_same ?_
        by_cases keyed : l.val < 16 ∧ (s.leg l).tx.state.keyAsserted = true
        · refine .inr (duplex.trans ?_)
          cases before : b.duplex <;> cases after : c.duplex
          · rfl
          · exact absurd ⟨keyed.1, keyed.2, before, after⟩ holds
          · exact absurd ⟨keyed.1, keyed.2, before, after⟩ stays
          · rfl
        · exact .inl keyed

theorem rebound_patches (alone : (s.leg l).membership = none) (renewed : Bool) :
    (s.rebound l renewed c).patches = s.patches := by
  cases renewed with
  | false => rfl
  | true => exact maskedChange_patches alone

theorem rebound_demand (renewed : Bool) : ((s.rebound l renewed c).leg l).demand = (s.leg l).demand := by
  cases renewed with
  | false => rfl
  | true =>
    have unheard := maskedChange_unheard (s := s) l fun x => { x with binding := some c }
    have demand := congrArg Leg.demand unheard
    exact demand

theorem rebound_lowestFree (renewed : Bool) : (s.rebound l renewed c).lowestFree = s.lowestFree := by
  cases renewed with
  | false => rfl
  | true => exact writeBinding_lowestFree l _

/-- The records of a new member (R59). -/
def State.asMember (s : State) (p : PatchId) (l : LegId) (gain : Nat) (e : EntryId) : State :=
  ((s.modPatch p fun x => { x with members := x.members ++ [l], chain := x.chain ++ [e] }).modLeg l fun x =>
    { x with membership := some p }).modEntry e fun _ =>
      { state := .reserved, tag := some p, kind := some .member, dest := some l, source := none, pendingSource := none,
        gain }

theorem admitted_asMember (free : s.lowestFree = some e) :
    admitted p l c s = s.asMember p l (memberGain l c) e := by
  rw [admitted_eq, reserve_eq (lowestFree_enlisted.trans free)]
  have both := modPatch_modPatch (s := s) p (fun x => { x with members := x.members ++ [l] })
    fun x => { x with chain := x.chain ++ [e] }
  unfold State.asMember
  rw [← both]
  rfl

/-- The floor of a patch a leg joins, and what becomes of the leg as its destination (R60, R61). -/
theorem handToFloor_claimed (p : PatchId) (l : LegId) (e : EntryId) : s.handToFloor p l e =
    let claimed := if (s.leg l).stands l then s.claimArrives p (.leg l) else s
    let f := (claimed.patch p).floor
    let destination : Prop := f.state ≠ .idle ∧ f.owner ≠ some (.leg l)
    let keyed := if destination ∧ l.val < 16 then claimed.setDemand l true else claimed
    if destination ∧ f.state = .held then keyed.modEntry e fun x => { x with pendingSource := f.owner } else keyed := by
  rw [handToFloor_eq]
  show (s.joinClaim p l).joinFloor p l e = _
  have claimed : (if (s.leg l).stands l then s.claimArrives p (.leg l) else s) = s.joinClaim p l := rfl
  rw [claimed]
  generalize s.joinClaim p l = t
  unfold State.joinFloor
  dsimp only
  by_cases destination : (t.patch p).floor.state ≠ .idle ∧ (t.patch p).floor.owner ≠ some (.leg l)
  · rw [if_neg (by simpa using destination)]
    have keyed : (if ((t.patch p).floor.state ≠ .idle ∧ (t.patch p).floor.owner ≠ some (.leg l)) ∧ l.val < 16 then
        t.setDemand l true else t) = if isRadio l then t.setDemand l true else t :=
      if_congr ((and_iff_right destination).trans (isRadio_iff l).symm) rfl rfl
    rw [keyed]
    exact if_congr (and_iff_right destination).symm rfl rfl
  · have here : ((t.patch p).floor.state = .idle || (t.patch p).floor.owner = some (.leg l)) = true := by
      by_contra neither
      rw [Bool.or_eq_true, decide_eq_true_eq, decide_eq_true_eq, not_or] at neither
      exact destination neither
    rw [if_pos here, if_neg fun both => destination both.1, if_neg fun both => destination both.1]

theorem stands_eq (l : LegId) (x : Leg) : x.stands l = match x.rx.state with
    | .active | .falling => true
    | .barred => false
    | .idle | .rising => decide (16 ≤ l.val) && x.talk := by
  have console : (!isRadio l) = decide (16 ≤ l.val) := by
    rw [isRadio, ← decide_not]
    exact decide_eq_decide.mpr Nat.not_lt
  unfold Leg.stands
  rw [console] <;> (cases x.rx.state <;> rfl)

end

theorem floor_setDemand (p : PatchId) (l : LegId) (on : Bool) :
    ((s.setDemand l on).patch p).floor.state = (s.patch p).floor.state ∧
      ((s.setDemand l on).patch p).floor.owner = (s.patch p).floor.owner := by
  obtain ⟨rest, -, floor⟩ := claimsOnlyLeave_setDemand (s := s) l on p
  rw [floor]
  exact ⟨rfl, rfl⟩

/-- Settles O34: the records written, the claim offered, and the leg's place as a destination. -/
theorem joinHandsADestinationToTheFloor : Obligations.JoinHandsADestinationToTheFloor := by
  intro h patch leg options p l b c e s ready patched named active bound unparked alone unmonitored room renew source
    admits free lowest written rebound member stands claimed f destination keyed u
  have may : MayJoin s p l b := ⟨active, bound, unparked, alone, unmonitored, room⟩
  have renews : renew = true ↔ hasOption options 0 = true ∨ b.generation ≠ (s.agency b.agency).generation := by
    rw [Bool.or_eq_true, bne_iff_ne] <;> rfl
  have refreshed : s.refresh b (hasOption options 0) = if renew then .renewed c else .kept c :=
    refresh_of_source renews source
  have lowestOne := lowestFree_eq_some free lowest
  have kept : renew = false → c = b := kept_of_source source
  have bindingWritten : s.rebound l renew c = rebound := rebound_eq bound unparked kept
  have lowestThen : rebound.lowestFree = some e := by
    rw [← bindingWritten, rebound_lowestFree]
    exact lowestOne
  have gain : memberGain l c = if l.val < 16 then c.gain else 0 := by
    rw [memberGain]
    simp only [isRadio_iff]
  have admittedSame : admitted p l c rebound = member := by
    rw [admitted_asMember lowestThen, gain]
    rfl
  have standsSame : (member.leg l).stands l = stands := stands_eq l _
  have joined : joinLeg p l c renew e s = u := by
    have start : joinLeg p l c renew e s = (admitted p l c (s.rebound l renew c)).handToFloor p l e := joinLeg_eq ..
    rw [start, bindingWritten, admittedSame, handToFloor_claimed, standsSame]
  have calm : Calm written rebound := by
    rw [← bindingWritten]
    exact calm_rebind bound renew kept
  have noticed : Noticed s.link u.link := by
    have facts := (joined_of_rebound (p := p) calm lowestThen).link
    rw [admittedSame, handToFloor_claimed, standsSame] at facts
    exact facts
  have demandBefore : (member.leg l).demand = (s.leg l).demand := by
    rw [← admittedSame, admitted_eq, reserve_leg, enlisted_leg, if_pos rfl, ← bindingWritten]
    exact rebound_demand renew
  have floorBefore : (member.patch p).floor = (s.patch p).floor := by
    rw [← admittedSame, admitted_patch, ← bindingWritten, patch_of_patches (rebound_patches alone renew)]
  have stays (other : ¬ destination) : u = claimed := by
    show (if destination ∧ f.state = .held then _ else keyed) = claimed
    rw [if_neg fun both => other both.1]
    exact if_neg fun both => other both.1
  refine ⟨?_, fun standing unheld empty => ?_, fun resting notOwner => ⟨fun idle => ?_, fun busy => ?_⟩⟩
  · refine row_grants (i := .join h patch leg options) (k := .join) ready rfl ?_
      ((inProgress_of_noticed noticed).trans (Ready.idle ready))
    rw [takeJoin_of_admitted patched named may refreshed admits lowestOne, joined] <;> rfl
  · have arrives : claimed = member.nextEvent.grant p (.leg l) false member.eventTime :=
      (if_pos standing).trans (claimArrives_of_free p _ (by rw [floorBefore]; exact unheld))
    obtain ⟨rest, -, floor⟩ := floor_grant (s := member.nextEvent) p (.leg l) false member.eventTime
    have granted : f.state = .held ∧ f.owner = some (.leg l) := by
      show (claimed.patch p).floor.state = _ ∧ (claimed.patch p).floor.owner = _
      rw [arrives, floor]
      exact ⟨rfl, rfl⟩
    rw [stays fun both => both.2 granted.2]
    exact granted
  · have unclaimed : claimed = member := if_neg (by rw [resting]; nofun)
    rw [stays fun both => both.1 (by show (claimed.patch p).floor.state = _; rw [unclaimed, floorBefore]; exact idle)]
    exact unclaimed
  · have unclaimed : claimed = member := if_neg (by rw [resting]; nofun)
    have floorNow : f = (s.patch p).floor := by
      show (claimed.patch p).floor = _
      rw [unclaimed, floorBefore]
    have hears : destination := by
      show f.state ≠ .idle ∧ f.owner ≠ some (.leg l)
      rw [floorNow]
      exact ⟨busy, notOwner⟩
    have demandNow : (keyed.leg l).demand = if l.val < 16 then true else (s.leg l).demand := by
      show ((if destination ∧ l.val < 16 then claimed.setDemand l true else claimed).leg l).demand = _
      rw [unclaimed]
      by_cases radio : l.val < 16
      · rw [if_pos ⟨hears, radio⟩, if_pos radio, setDemand_leg radio, if_pos rfl, demanded_demand]
      · rw [if_neg fun both => radio both.2, if_neg radio, demandBefore]
    have others : (keyed.entry e).pendingSource = none ∧ (keyed.patch p).floor.state = (s.patch p).floor.state ∧
        (keyed.patch p).floor.owner = (s.patch p).floor.owner := by
      have fresh : (member.entry e).pendingSource = none := by
        rw [← admittedSame, admitted_entry lowestThen]
      show ((if destination ∧ l.val < 16 then claimed.setDemand l true else claimed).entry e).pendingSource = _ ∧
        ((if destination ∧ l.val < 16 then claimed.setDemand l true else claimed).patch p).floor.state = _ ∧
        ((if destination ∧ l.val < 16 then claimed.setDemand l true else claimed).patch p).floor.owner = _
      rw [unclaimed, ← floorBefore]
      split
      · rw [setDemand_entry]
        exact ⟨fresh, floor_setDemand p l true⟩
      · exact ⟨fresh, rfl, rfl⟩
    obtain ⟨fresh, state, owner⟩ := others
    show ((if destination ∧ f.state = .held then _ else keyed : State).leg l).demand = _ ∧
      ((if destination ∧ f.state = .held then _ else keyed : State).entry e).pendingSource = _ ∧
      ((if destination ∧ f.state = .held then _ else keyed : State).patch p).floor.state = _ ∧
      ((if destination ∧ f.state = .held then _ else keyed : State).patch p).floor.owner = _
    by_cases held : (s.patch p).floor.state = .held
    · rw [if_pos ⟨hears, by rw [floorNow]; exact held⟩, if_pos held, modEntry_leg, modEntry_patch,
        entry_modEntry_same,
        floorNow]
      exact ⟨demandNow, rfl, state, owner⟩
    · rw [if_neg fun both => held (by rw [← floorNow]; exact both.2), if_neg held]
      exact ⟨demandNow, fresh, state, owner⟩

end Sys2Proof.Machine

/-! SUPPORT. Requests that wait for their purge: the reply when it completes at once, and when a frame's done completes it
(R138–R140, R175). -/

namespace Sys2Proof.Machine

variable {s t u : State} {h : Header}

/-! ## The reply of the request in progress -/

/-- The request in progress completes: one reply more, nothing in progress, and the rest as it was (R175). -/
theorem finish_ends {k : Kind} {work : Work} (begun : s.link.inProgress = some ⟨k, h, work⟩) (r : Result)
    (results : List Byte) : (s.finish r results).link.inProgress = none ∧
      (s.finish r results).replies = s.replies ++ replyTo h k.code (r.code :: results) := by
  obtain ⟨silent, replies⟩ := finish_replied ⟨k, h, work⟩ r results begun
  have progress := congrArg (fun u : State => u.link.inProgress) silent
  exact ⟨progress, replies⟩

theorem exec_of_begin {i : Instr} {k : Kind} {take : State → State} (ready : s.Ready h)
    (row : taking i = some (h, k, take)) : exec i s = .next (take s) := by
  rw [exec_of_taking row s, request_of_ready ready]

/-- A request that a reply completes has sent none before. -/
theorem replies_of_link (link : t.link.quiet = s.link.quiet) : t.replies = s.replies := by
  show t.link.quiet.sending.toList ++ t.link.quiet.waiting = _
  rw [link]
  rfl

/-! ## A purge asked for -/

/-- A purge asked for in a frame that takes entries waits (R138). -/
theorem purge_takes {sel : Selector} {r : Requester} (frame : s.routes.frame.isSome = true) (takes : s.purged sel ≠ []) :
    (s.purge sel r).2 = false := by
  refine purge_inFrame _ _ _ (fun idle => ?_) (.inl takes)
  rw [idle] at frame
  cases frame

/-- A purge of one destination between frames, or of no entry, completes at once (R140). -/
theorem purge_atOnce {sel : Selector} {r : Requester} (joins : s.joinsPurge sel = false)
    (free : s.routes.frame = none ∨ s.purged sel = []) : (s.purge sel r).2 = true := by
  unfold State.purge
  dsimp only
  refine (congrArg Prod.snd (if_pos ?_)).trans rfl
  obtain idle | none := free
  · rw [idle] <;> rfl
  · rw [none, joins, Bool.or_eq_true]
    exact .inr rfl

/-- What a purge that waits leaves: its entries PURGING, and itself outstanding. -/
theorem purge_waiting_eq {sel : Selector} {r : Requester} (waits : (s.purge sel r).2 = false) :
    (s.purge sel r).1.routes.purges = s.routes.purges ++ [⟨r, s.purged sel⟩] ∧
      (∀ e ∈ s.purged sel, ((s.purge sel r).1.entry e).state = .purging) ∧
      (s.purge sel r).1.patches = s.patches := by
  refine ⟨purge_waiting s sel r waits, fun e taken => ?_, ?_⟩
  · rw [purge_entry, if_pos taken, waits]
    rfl
  · rw [(purge_waits sel r waits).1]
    simp [State.asked, State.marked]

/-! ## The frame's done -/

/-- The state in which a frame's done tells the requesters of its purges. -/
def State.handedOver (s : State) (taken : List Taken) (before : Option Nat) : State := (s.deliver taken).frameOver before

section
variable (taken : List Taken) (before : Option Nat)

theorem delivered_same : ((s.deliver taken).frameEnded before).routes.purges = s.routes.purges ∧
    ((s.deliver taken).frameEnded before).routes.frame = none ∧
    ((s.deliver taken).frameEnded before).routes.entries = s.routes.entries ∧
    ((s.deliver taken).frameEnded before).patches = s.patches ∧ ((s.deliver taken).frameEnded before).link = s.link ∧
    ((s.deliver taken).frameEnded before).clips = s.clips ∧
    ((s.deliver taken).frameEnded before).directory = s.directory ∧
    ((s.deliver taken).frameEnded before).walk = { s.walk with beforeTick := before } := by
  rw [delivered_eq]
  exact ⟨rfl, rfl, rfl, rfl, rfl, rfl, rfl, rfl⟩

theorem delivered_entry (e : EntryId) : ((s.deliver taken).frameEnded before).entry e = s.entry e := by
  obtain ⟨-, -, entries, -⟩ := delivered_same (s := s) taken before
  exact congrArg (fun v : Vector Entry 40 => v.get e) entries

theorem delivered_patch (q : PatchId) : ((s.deliver taken).frameEnded before).patch q = s.patch q := by
  obtain ⟨-, -, -, patches, -⟩ := delivered_same (s := s) taken before
  exact patch_of_patches patches q

theorem purgesFreed_entry (e : EntryId) : s.purgesFreed.entry e =
    if e ∈ s.routes.purges.flatMap Purge.entries then {} else s.entry e := by
  rw [State.purgesFreed, entry_freeEntries]
  rfl

theorem purgesFreed_chain (q : PatchId) : s.purgesFreed.patch q = { s.patch q with
    chain := (s.patch q).chain.filter fun e => !(s.routes.purges.flatMap Purge.entries).contains e } := by
  rw [State.purgesFreed, freeEntries_patch]
  rfl

theorem purgesFreed_others : s.purgesFreed.link = s.link ∧ s.purgesFreed.clips = s.clips ∧
    s.purgesFreed.directory = s.directory ∧ s.purgesFreed.routes.frame = s.routes.frame ∧
    s.purgesFreed.walk = s.walk ∧ s.purgesFreed.legs = s.legs := by
  simp [State.purgesFreed, State.freeEntries]

theorem handedOver_entry (e : EntryId) : (s.handedOver taken before).entry e =
    if e ∈ s.routes.purges.flatMap Purge.entries then {} else s.entry e := by
  rw [State.handedOver, State.frameOver, purgesFreed_entry, delivered_entry]
  obtain ⟨purges, -⟩ := delivered_same (s := s) taken before
  rw [purges]

theorem handedOver_patch (q : PatchId) : (s.handedOver taken before).patch q = { s.patch q with
    chain := (s.patch q).chain.filter fun e => !(s.routes.purges.flatMap Purge.entries).contains e } := by
  rw [State.handedOver, State.frameOver, purgesFreed_chain, delivered_patch]
  obtain ⟨purges, -⟩ := delivered_same (s := s) taken before
  rw [purges]

theorem handedOver_others : (s.handedOver taken before).link = s.link ∧ (s.handedOver taken before).clips = s.clips ∧
    (s.handedOver taken before).directory = s.directory ∧ (s.handedOver taken before).routes.frame = none ∧
    (s.handedOver taken before).routes.purges = [] ∧
    (s.handedOver taken before).walk = { s.walk with beforeTick := before } := by
  obtain ⟨-, ended, -, -, link, clips, directory, walk⟩ := delivered_same (s := s) taken before
  obtain ⟨linkThen, clipsThen, directoryThen, frameThen, walkThen, -⟩ :=
    purgesFreed_others (s := (s.deliver taken).frameEnded before)
  exact ⟨linkThen.trans link, clipsThen.trans clips, directoryThen.trans directory, frameThen.trans ended,
    purgesFreed_purges, walkThen.trans walk⟩

end

/-- A frame's done with one purge outstanding tells its requester alone (R139). -/
theorem exec_frameDone_of_one {taken : List Taken} {r : Purge} (settled : s.Settled) (frame : s.routes.frame = some taken)
    (one : s.routes.purges = [r]) (before : Option Nat) :
    exec (.frameDone before) s = .next ((s.handedOver taken before).tell r.requester) := by
  have outstanding : ((s.deliver taken).frameEnded before).routes.purges = [r] := by
    obtain ⟨purges, -⟩ := delivered_same (s := s) taken before
    exact purges.trans one
  rw [exec_of_settled settled rfl, takeFrameDone_of_frame frame, completePurges_eq, outstanding]
  rfl

theorem Ready.due (ready : s.Ready h) : s.context.endDue = none := ready.1.2

/-- A request begun leaves nothing due but a reset. -/
theorem settled_of_begun {k : Kind} {work : Work} (begun : s.link.inProgress = some ⟨k, h, work⟩)
    (unlike : work ≠ .resetAll 0) (going : s.context.endDue = none) : s.Settled := by
  refine ⟨?_, going⟩
  rw [State.resetIsDue, State.work, begun]
  exact decide_eq_false fun same => unlike (Option.some.inj same)

/-- A request that waits for one purge alone is answered at the frame's done (R138, R139). -/
theorem frameDone_finishes {k : Kind} {work : Work} {taken : List Taken} {r : Purge}
    (begun : s.link.inProgress = some ⟨k, h, work⟩) (settled : s.Settled) (frame : s.routes.frame = some taken)
    (one : s.routes.purges = [r])
    (told : ∀ v : State, v.link.inProgress = some ⟨k, h, work⟩ → v.tell r.requester = v.finish .ok [])
    (before : Option Nat) : ∃ u, exec (.frameDone before) s = .next u ∧ u.routes.frame = none ∧ u.routes.purges = [] ∧
      (∀ e ∈ r.entries, u.entry e = {} ∧ ∀ p, e ∉ (u.patch p).chain) ∧ u.link.inProgress = none ∧
      u.replies = s.replies ++ replyTo h k.code [0x00] := by
  obtain ⟨link, -, -, ended, none, -⟩ := handedOver_others (s := s) taken before
  have still : (s.handedOver taken before).link.inProgress = some ⟨k, h, work⟩ := by rw [link, begun]
  obtain ⟨idle, replies⟩ := finish_ends still .ok []
  refine ⟨_, exec_frameDone_of_one settled frame one before, ?_, ?_, fun e named => ⟨?_, fun p => ?_⟩, ?_, ?_⟩
  all_goals rw [told _ still]
  · rw [finish_routes, ended]
  · rw [finish_routes, none]
  · rw [finish_entry, handedOver_entry, one, if_pos (by simpa using named)]
  · rw [finish_patch, handedOver_patch, one]
    simp [named]
  · exact idle
  · rw [replies, State.replies, link] <;> rfl

end Sys2Proof.Machine

/-! SUPPORT. MONITOR: its checks, the pair added, adjusted and removed (R71–R73). -/

namespace Sys2Proof.Machine

variable {s t u : State} {h : Header}

section
variable {leg patch gain : Byte} {l : LegId} {p : PatchId}

theorem takeMonitorOn_of_inRange (named : leg.toNat = l.val) (console : 16 ≤ l.val) (patched : patch.toNat = p.val + 1)
    (gains : gain.toNat ≤ 15) : takeMonitorOn h leg patch gain s =
      if (s.patch p).state ≠ .active then s.refuse h .monitor .patchState
      else if (s.leg l).membership = some p then s.refuse h .monitor .member
      else if (s.patch p).monitoredBy l then
        (s.setMonitorGain p l gain.toNat).grantReply h .monitor [entryByte (s.entryFor p .monitor l)]
      else if 4 ≤ s.monitorCount l then s.refuse h .monitor .patchFull
      else
        match s.lowestFree with
        | none => s.refuse h .monitor .routeFull
        | some e => (s.addMonitor p l gain.toNat).grantReply h .monitor [byte e.val] := by
  unfold takeMonitorOn
  rw [consoleOf_eq_some_iff.mpr ⟨named, console⟩, patchOf_eq_some_iff.mpr patched, decide_eq_true gains]
  rfl

theorem takeMonitorOff_of_inRange (named : leg.toNat = l.val) (console : 16 ≤ l.val)
    (patched : patch.toNat = p.val + 1) (gains : gain.toNat ≤ 15) : takeMonitorOff h leg patch gain s =
      if (s.patch p).monitoredBy l then
        let r := (s.begin h .monitor .monitorOff).dropMonitor p l
        if r.2 then r.1.finish .ok [] else r.1
      else s.grantReply h .monitor [] := by
  unfold takeMonitorOff
  rw [consoleOf_eq_some_iff.mpr ⟨named, console⟩, patchOf_eq_some_iff.mpr patched, decide_eq_true gains]
  rfl

theorem monitoredBy_iff : (s.patch p).monitoredBy l = true ↔ ∃ g, (l, g) ∈ (s.patch p).monitors := monitors_any_iff

theorem not_monitoredBy_iff : (s.patch p).monitoredBy l = false ↔ ∀ g, (l, g) ∉ (s.patch p).monitors := by
  rw [← Bool.not_eq_true, monitoredBy_iff, not_exists]

/-! ## The gain adjusted -/

/-- Whether an entry is the live MONITOR entry of a console in a patch. -/
abbrev Entry.monitors (x : Entry) (p : PatchId) (l : LegId) : Prop :=
  x.live = true ∧ x.tag = some p ∧ x.dest = some l ∧ x.kind = some .monitor

theorem selects_monitor_iff (x : Entry) :
    (x.live && (Selector.monitor p l).selects x) = true ↔ x.monitors p l := by
  simp [Selector.selects, and_assoc]

theorem setMonitorGain_entry (g : Nat) (e : EntryId) : (s.setMonitorGain p l g).entry e =
    if (s.entry e).monitors p l then { s.entry e with gain := g } else s.entry e := by
  unfold State.setMonitorGain
  rw [entry_mapEntries, modPatch_entry]
  exact if_congr (selects_monitor_iff _) rfl rfl

theorem setMonitorGain_patch (g : Nat) (q : PatchId) : (s.setMonitorGain p l g).patch q = if q = p then
    { s.patch p with monitors := (s.patch p).monitors.map fun m => if m.1 = l then (l, g) else m } else s.patch q := by
  unfold State.setMonitorGain
  rw [mapEntries_patch, patch_modPatch]

theorem setMonitorGain_others (g : Nat) : (s.setMonitorGain p l g).legs = s.legs ∧
    (s.setMonitorGain p l g).directory = s.directory ∧ (s.setMonitorGain p l g).clips = s.clips ∧
    (s.setMonitorGain p l g).link = s.link := by
  simp [State.setMonitorGain]

/-- The entry that MONITOR answers with is the console's only one (R126). -/
theorem entryFor_of_routeLaw (law : RouteLaw s) (monitored : (s.patch p).monitoredBy l = true) :
    ∃ e, s.feeding p .monitor l = [e] ∧ s.entryFor p .monitor l = some e := by
  obtain ⟨-, count⟩ := law.feeds p l
  rw [if_pos (show ((s.patch p).monitors.any fun m => m.1 = l) = true from monitored)] at count
  obtain ⟨e, only⟩ := List.length_eq_one_iff.mp count
  have fed : e ∈ s.feeding p .monitor l := by rw [only]; exact List.mem_singleton_self e
  obtain ⟨live, tag, kind, dest⟩ := (mem_feeding e).mp fed
  have found (d : EntryId) (first : s.entryFor p .monitor l = some d) : d = e := by
    have listed := List.mem_of_find?_eq_some first
    have meets := List.find?_some first
    simp only [Bool.and_eq_true, decide_eq_true_eq, bne_iff_ne, ne_eq] at meets
    obtain ⟨⟨kindOf, destOf⟩, used⟩ := meets
    obtain ⟨tagOf, held⟩ := law.tagged p d listed
    have feeds : d ∈ s.feeding p .monitor l := (mem_feeding d).mpr ⟨live_iff.mpr ⟨held, used⟩, tagOf, kindOf, destOf⟩
    rw [only] at feeds
    exact List.mem_singleton.mp feeds
  refine ⟨e, only, ?_⟩
  cases first : s.entryFor p .monitor l with
  | some d => rw [found d first]
  | none =>
    obtain ⟨listed, -⟩ := law.linked p e live tag
    have misses := List.find?_eq_none.mp first e listed
    simp [kind, dest, (live_iff.mp live).2] at misses

/-! ## The pair added -/

theorem addMonitor_eq {e : EntryId} (free : s.lowestFree = some e) (g : Nat) : s.addMonitor p l g =
    (s.modEntry e fun _ =>
      { state := .reserved, tag := some p, kind := some .monitor, dest := some l, source := none,
        pendingSource := if (s.patch p).floor.state = .held then (s.patch p).floor.owner else none,
        gain := g }).modPatch p fun x => { x with chain := x.chain ++ [e], monitors := x.monitors ++ [(l, g)] } := by
  rw [State.addMonitor]
  rw [reserve_eq free, modPatch_modPatch]

/-! ## The pair removed -/

theorem dropMonitor_eq : s.dropMonitor p l =
    (s.modPatch p fun x => { x with monitors := x.monitors.filter fun m => m.1 != l }).purge (.monitor p l) .monitorOff :=
  rfl

theorem mem_purged_monitor (e : EntryId) : e ∈ s.purged (.monitor p l) ↔ (s.entry e).monitors p l := by
  rw [mem_purged, ← Bool.and_eq_true, selects_monitor_iff]

theorem bne_filter (ms : List (LegId × Nat)) : (ms.filter fun m => m.1 != l) = ms.filter fun m => m.1 ≠ l :=
  List.filter_congr fun m _ => bne_eq_decide_ne m.1 l

/-- The pair removed and its entry purged at once (R73, R140). -/
theorem dropMonitor_done (free : s.routes.frame = none ∨ s.purged (.monitor p l) = []) :
    let t := (s.dropMonitor p l).1
    (s.dropMonitor p l).2 = true ∧ (∀ e, t.entry e = if (s.entry e).monitors p l then {} else s.entry e) ∧
      (∀ e, (s.entry e).monitors p l → e ∉ (t.patch p).chain) ∧ t.legs = s.legs ∧
      (∀ q, (t.patch q).floor = (s.patch q).floor) ∧ (∀ q, q ≠ p → (t.patch q).fixed = (s.patch q).fixed) ∧
      t.directory = s.directory ∧ t.clips = s.clips ∧ t.link = s.link := by
  let u := s.modPatch p fun x => { x with monitors := x.monitors.filter fun m => m.1 != l }
  have done : (s.dropMonitor p l).2 = true := purge_atOnce (s := u) rfl free
  obtain ⟨freed, -⟩ := purge_done (s := u) _ _ done
  have member (e : EntryId) : e ∈ u.purged (.monitor p l) ↔ (s.entry e).monitors p l := mem_purged_monitor (s := u) e
  rw [dropMonitor_eq] at done ⊢
  refine ⟨done, fun e => ?_, fun e monitor listed => ?_, by simp, fun q => ?_, fun q other => ?_, by simp, by simp,
    by simp⟩
  · rw [purge_entry, done]
    exact if_congr (member e) rfl rfl
  · rw [freed, freeEntries_patch] at listed
    simpa [(member e).mpr monitor] using (List.mem_filter.mp listed).2
  · obtain ⟨-, floor⟩ := purge_patch (s := u) (.monitor p l) .monitorOff q
    refine floor.trans ?_
    rw [patch_modPatch]
    split
    next here => rw [here]
    next => rfl
  · obtain ⟨fixed, -⟩ := purge_patch (s := u) (.monitor p l) .monitorOff q
    refine fixed.trans ?_
    rw [patch_modPatch_ne _ _ other]

/-- The pair removed in a frame that its entry feeds: the purge waits (R73, R138). -/
theorem dropMonitor_waits (frame : s.routes.frame.isSome = true) (takes : s.purged (.monitor p l) ≠ []) :
    let t := (s.dropMonitor p l).1
    (s.dropMonitor p l).2 = false ∧ t.legs = s.legs ∧ t.link = s.link ∧ t.clips = s.clips ∧
      t.routes.frame = s.routes.frame ∧
      t.routes.purges = s.routes.purges ++ [⟨.monitorOff, s.purged (.monitor p l)⟩] ∧
      ∀ e ∈ s.purged (.monitor p l), (t.entry e).state = .purging := by
  let u := s.modPatch p fun x => { x with monitors := x.monitors.filter fun m => m.1 != l }
  have waits : (s.dropMonitor p l).2 = false := purge_takes (s := u) frame takes
  obtain ⟨purges, purging, -⟩ := purge_waiting_eq (s := u) waits
  rw [dropMonitor_eq] at waits ⊢
  exact ⟨waits, by simp, by simp, by simp, purge_frame _ _, purges, purging⟩

/-- MONITOR off of a console on the list, when the purge waits for the frame's done. -/
theorem monitorOff_waits (ready : s.Ready h) (named : leg.toNat = l.val) (console : 16 ≤ l.val)
    (patched : patch.toNat = p.val + 1) (gains : gain.toNat ≤ 15) (monitored : (s.patch p).monitoredBy l = true)
    {taken : List Taken} (frame : s.routes.frame = some taken) (takes : s.purged (.monitor p l) ≠ []) :
    ∃ t, exec (.monitorOff h leg patch gain) s = .next t ∧ t.replies = s.replies ∧
      t.link.inProgress = some ⟨.monitor, h, .monitorOff⟩ ∧
      (t.patch p).monitors = (s.patch p).monitors.filter (fun m => m.1 ≠ l) ∧ t.legs = s.legs ∧
      t.routes.purges = s.routes.purges ++ [⟨.monitorOff, s.purged (.monitor p l)⟩] ∧
      (∀ e ∈ s.purged (.monitor p l), (t.entry e).state = .purging) ∧
      (s.routes.purges = [] → ∀ before, ∃ u, exec (.frameDone before) t = .next u ∧ u.routes.frame = none ∧
        u.routes.purges = [] ∧ (∀ e ∈ s.purged (.monitor p l), u.entry e = {} ∧ e ∉ (u.patch p).chain) ∧
        u.link.inProgress = none ∧ u.replies = s.replies ++ replyTo h 0x35 [0x00]) := by
  have due : s.context.endDue = none := Ready.due ready
  obtain ⟨waits, legs, link, clips, same, purges, purging⟩ :=
    dropMonitor_waits (s := s.begin h .monitor .monitorOff) (l := l) (p := p) (by rw [begin_routes, frame]; rfl) takes
  set t := ((s.begin h .monitor .monitorOff).dropMonitor p l).1
  have run : exec (.monitorOff h leg patch gain) s = .next t := by
    rw [exec_of_begin ready rfl, takeMonitorOff_of_inRange named console patched gains, if_pos monitored]
    exact congrArg _ (if_neg (by rw [waits]; nofun))
  have begun : t.link.inProgress = some ⟨.monitor, h, .monitorOff⟩ := by rw [link] <;> rfl
  have settled : t.Settled :=
    settled_of_begun begun nofun (by rw [context_of_clips clips]; exact due)
  refine ⟨t, run, ?_, begun, ?_, legs, purges, purging, fun alone before => ?_⟩
  · rw [State.replies, link] <;> rfl
  · obtain ⟨-, monitors⟩ := dropMonitor_lists (s := s.begin h .monitor .monitorOff) (p := p) (l := l) p
    rw [monitors, if_pos rfl, bne_filter]
    rfl
  · have one : t.routes.purges = [⟨.monitorOff, s.purged (.monitor p l)⟩] := by
      rw [purges, begin_routes, alone] <;> rfl
    obtain ⟨u, done, ended, none, freed, idle, replies⟩ := frameDone_finishes begun settled (same.trans frame) one
      (fun v begun => by rw [State.tell, State.work, begun] <;> rfl) before
    refine ⟨u, done, ended, none, fun e taken => ?_, idle, ?_⟩
    · obtain ⟨blank, unlisted⟩ := freed e taken
      exact ⟨blank, unlisted p⟩
    · rw [replies, State.replies, link] <;> rfl

end

/-- Settles O37: MONITOR on by its checks, and MONITOR off by what its purge waits for. -/
theorem monitorStartsAdjustsAndStops : Obligations.MonitorStartsAdjustsAndStops := by
  refine ⟨fun h leg patch gain l p s ready named console patched gains => ?_,
    fun h leg patch gain l p s ready named console patched gains => ?_⟩
  · intro i
    have takes := takeMonitorOn_of_inRange (h := h) (s := s) named console patched gains
    refine ⟨fun inactive => ?_, fun active member => ?_, fun active apart => ⟨fun monitored => ?_, fun fresh =>
      ⟨fun full => ?_, fun room => ⟨fun used => ?_, fun e free lowest => ?_⟩⟩⟩⟩
    · exact row_refuses (k := .monitor) (r := .patchState) ready rfl (takes.trans (if_pos inactive))
    all_goals rw [if_neg (not_not_intro active)] at takes
    · exact row_refuses (k := .monitor) (r := .member) ready rfl (takes.trans (if_pos member))
    all_goals rw [if_neg apart] at takes
    · obtain ⟨legs, directory, clips, link⟩ := setMonitorGain_others (s := s) (p := p) (l := l) gain.toNat
      rw [if_pos (monitoredBy_iff.mpr monitored)] at takes
      refine ⟨_, _, row_grants (k := .monitor) ready rfl takes (by rw [link]; exact Ready.idle ready), fun law => ?_, ?_,
        fun e live tag dest kind => ?_, fun e other => ?_, legs, fun q other => ?_, ?_, directory, clips, link⟩
      · obtain ⟨e, only, found⟩ := entryFor_of_routeLaw law (monitoredBy_iff.mpr monitored)
        exact ⟨e, only, by rw [found] <;> rfl⟩
      · rw [setMonitorGain_patch, if_pos rfl]
      · rw [setMonitorGain_entry, if_pos ⟨live, tag, dest, kind⟩]
      · rw [setMonitorGain_entry, if_neg other]
      · rw [setMonitorGain_patch, if_neg other]
      · rw [setMonitorGain_patch, if_pos rfl]
    all_goals rw [if_neg (by rw [not_monitoredBy_iff.mpr fresh]; nofun)] at takes
    · exact row_refuses (k := .monitor) (r := .patchFull) ready rfl (takes.trans (if_pos full))
    all_goals rw [if_neg (Nat.not_le.mpr room : ¬ 4 ≤ s.monitorCount l)] at takes
    · rw [Option.isNone_iff_eq_none.mp (lowestFree_eq_none_iff.mpr used)] at takes
      exact row_refuses (k := .monitor) (r := .routeFull) ready rfl takes
    · have idle : s.link.inProgress = none := Ready.idle ready
      have first := lowestFree_eq_some free lowest
      rw [first] at takes
      dsimp only at takes
      rw [addMonitor_eq first] at takes
      exact row_grants (k := .monitor) ready rfl takes idle
  · intro i
    have takes := takeMonitorOff_of_inRange (h := h) (s := s) named console patched gains
    refine ⟨fun fresh => ?_, fun monitored inFrame took => ?_, fun monitored free => ?_⟩
    · rw [if_neg (by rw [not_monitoredBy_iff.mpr fresh]; nofun)] at takes
      exact row_grants (k := .monitor) ready rfl takes (Ready.idle ready)
    · obtain ⟨taken, frame⟩ := Option.isSome_iff_exists.mp inFrame
      exact monitorOff_waits ready named console patched gains (monitoredBy_iff.mpr monitored) frame took
    · obtain ⟨done, entries, unlisted, legs, floors, others, directory, clips, link⟩ :=
        dropMonitor_done (s := s.begin h .monitor .monitorOff) (l := l) (p := p) free
      set t := ((s.begin h .monitor .monitorOff).dropMonitor p l).1
      have begun : t.link.inProgress = some ⟨.monitor, h, .monitorOff⟩ := by rw [link] <;> rfl
      obtain ⟨idle, replies⟩ := finish_ends begun .ok []
      have run : exec i s = .next (t.finish .ok []) := by
        rw [exec_of_begin ready rfl, takes, if_pos (monitoredBy_iff.mpr monitored)]
        exact congrArg _ (if_pos done)
      refine ⟨_, run, ?_, idle, ?_, fun e live tag dest kind => ⟨?_, ?_⟩, fun e other => ?_, ?_, fun q => ?_,
        fun q other => ?_, ?_, ?_⟩
      · rw [replies, State.replies, link] <;> rfl
      · obtain ⟨-, monitors⟩ := dropMonitor_lists (s := s.begin h .monitor .monitorOff) (p := p) (l := l) p
        rw [finish_patch, monitors, if_pos rfl, bne_filter] <;> rfl
      · rw [finish_entry]
        exact (entries e).trans (if_pos ⟨live, tag, dest, kind⟩)
      · rw [finish_patch]
        exact unlisted e ⟨live, tag, dest, kind⟩
      · rw [finish_entry]
        exact (entries e).trans (if_neg other)
      · rw [finish_legs, legs] <;> rfl
      · rw [finish_patch, floors] <;> rfl
      · rw [finish_patch, others q other] <;> rfl
      · rw [finish_directory, directory] <;> rfl
      · rw [finish_clips, clips] <;> rfl

end Sys2Proof.Machine

/-! SUPPORT. The removal of a member, and LEAVE (R62, R64). -/

namespace Sys2Proof.Machine

variable {s t u : State} {h : Header} {p : PatchId} {l : LegId}

/-! ## What a purge takes -/

/-- A purge takes the same entries where no more than pending sources and gains differ. -/
theorem SameRoutes.purged (same : SameRoutes s t) (sel : Selector) : t.purged sel = s.purged sel := by
  unfold State.purged
  refine List.filter_congr fun e _ => ?_
  rw [same.live]
  cases sel <;> simp only [Selector.selects, same.tag, same.kind, same.dest]

/-! ## No end falls due -/

/-- The arbiter's work makes no playback's end due. -/
theorem Arbitrates.going (work : Arbitrates s t) (going : s.context.endDue = none) : t.context.endDue = none :=
  work.keeps (P := fun t => t.context.endDue = none)
    (fun _ _ calm before => by rw [context_of_clips calm.clips]; exact before)
    (fun u before => by
      unfold State.clipGranted
      split
      · exact before
      all_goals exact before)
    (fun _ _ => by rw [clearPlayback_context]) going

/-! ## The removal of a member -/

theorem setDemand_off_demand (l : LegId) : ((s.setDemand l false).leg l).demand = false := by
  cases on : (s.leg l).demand with
  | false => rw [setDemand_same on, on]
  | true =>
    rw [setDemand_off on]
    cases (s.leg l).tx.state <;> exact (congrArg Leg.demand (leg_modLeg_same _ _ _)).trans rfl

section
variable (r : Requester)

theorem removeMember_legs (m : LegId) : (s.removeMember p l r).1.leg m =
    if m = l then ((s.takenOut p l).leg l).released else (s.takenOut p l).leg m := by
  rw [removeMember_eq, released_leg, purge_leg, purge_leg]

theorem removeMember_demand : ((s.removeMember p l r).1.leg l).demand = false := by
  rw [removeMember_legs, if_pos rfl]
  exact setDemand_off_demand l

theorem removeMember_noticed : Noticed s.link (s.removeMember p l r).1.link := by
  have kept := (arbitrates_takenOut (s := s) p l).kept.link
  rw [modPatch_link] at kept
  rw [removeMember_eq, modLeg_link, purge_link]
  exact kept

theorem removeMember_frame : (s.removeMember p l r).1.routes.frame = s.routes.frame := by
  rw [removeMember_eq, modLeg_routes, purge_frame, sameRoutes_takenOut.frame]

theorem removeMember_going (going : s.context.endDue = none) : (s.removeMember p l r).1.context.endDue = none := by
  have kept := (arbitrates_takenOut (s := s) p l).going going
  rw [removeMember_eq, modLeg_context, context_of_clips (purge_clips _ _ _), kept]

/-- What a removal makes of an entry: one it takes is FREE or PURGING, and no other changes but in its pending source. -/
theorem removeMember_entry (e : EntryId) : ((s.removeMember p l r).1.entry e).fixed =
    if e ∈ s.purged (.dest p l) then
      (if (s.removeMember p l r).2 then {} else { s.entry e with state := .purging, pendingSource := none })
    else (s.entry e).fixed := by
  have same : ((s.takenOut p l).entry e).fixed = (s.entry e).fixed := (arbitrates_takenOut p l).kept.entries e
  rw [removeMember_eq, modLeg_entry, purge_entry, sameRoutes_takenOut.purged]
  dsimp only
  split
  · split
    · rfl
    · exact congrArg (fun x : Entry => { x with state := .purging }) same
  · exact same

theorem removeMember_freed {e : EntryId} (done : (s.removeMember p l r).2 = true) (taken : e ∈ s.purged (.dest p l)) :
    (s.removeMember p l r).1.entry e = {} := by
  rw [removeMember_eq] at done ⊢
  rw [modLeg_entry, purge_entry, sameRoutes_takenOut.purged, if_pos taken, if_pos done]

theorem removeMember_purging {e : EntryId} (waits : (s.removeMember p l r).2 = false)
    (taken : e ∈ s.purged (.dest p l)) : ((s.removeMember p l r).1.entry e).state = .purging := by
  rw [removeMember_eq] at waits ⊢
  rw [modLeg_entry, purge_entry, sameRoutes_takenOut.purged, if_pos taken, waits]
  rfl

theorem removeMember_atOnce (free : s.routes.frame = none ∨ s.purged (.dest p l) = []) :
    (s.removeMember p l r).2 = true := by
  rw [removeMember_eq]
  refine purge_atOnce rfl ?_
  rwa [sameRoutes_takenOut.frame, sameRoutes_takenOut.purged]

theorem removeMember_waits (frame : s.routes.frame.isSome = true) (takes : s.purged (.dest p l) ≠ []) :
    (s.removeMember p l r).2 = false := by
  rw [removeMember_eq]
  refine purge_takes ?_ ?_
  · rwa [sameRoutes_takenOut.frame]
  · rwa [sameRoutes_takenOut.purged]

theorem removeMember_purges (waits : (s.removeMember p l r).2 = false) :
    (s.removeMember p l r).1.routes.purges = s.routes.purges ++ [⟨r, s.purged (.dest p l)⟩] := by
  rw [removeMember_eq] at waits ⊢
  rw [modLeg_routes, purge_waiting _ _ _ waits, sameRoutes_takenOut.purged, sameRoutes_takenOut.purges]

end

/-! ## LEAVE -/

theorem takeLeave_of_none {leg : Byte} (named : leg.toNat = l.val) (apart : (s.leg l).membership = none) :
    takeLeave h leg s = s.refuse h .leave .notMember := by
  unfold takeLeave
  rw [legOf_eq_some_iff.mpr named]
  dsimp only
  rw [apart]

theorem takeLeave_of_member {leg : Byte} (named : leg.toNat = l.val) (joined : (s.leg l).membership = some p) :
    takeLeave h leg s = if ((s.begin h .leave .leave).removeMember p l .leave).2 then
        ((s.begin h .leave .leave).removeMember p l .leave).1.finish .ok []
      else ((s.begin h .leave .leave).removeMember p l .leave).1 := by
  unfold takeLeave
  rw [legOf_eq_some_iff.mpr named]
  dsimp only
  rw [joined]

/-- What a removal leaves: the leg out of its patch, its keys released, and every other leg but in its machines. -/
theorem removeMember_leaver (r : Requester) : let t := (s.removeMember p l r).1
    (t.patch p).members = (s.patch p).members.filter (· ≠ l) ∧ (t.leg l).membership = none ∧ (t.leg l).talk = false ∧
      (t.leg l).demand = false ∧ (t.leg l).binding = (s.leg l).binding ∧ (t.leg l).emergency = (s.leg l).emergency ∧
      ∀ m, m ≠ l → (t.leg m).fixed = (s.leg m).fixed := by
  have left := removeMember_leg_fixed (s := s) (p := p) (l := l) r l
  rw [if_pos rfl] at left
  have membership := membership_of_fixed left
  have talk := congrArg Leg.talk left
  have binding := binding_eq_of_fixed left
  have emergency := congrArg Leg.emergency left
  refine ⟨?_, membership, talk, removeMember_demand r, binding, emergency, fun m other => ?_⟩
  · rw [removeMember_members, if_pos rfl]
    exact List.filter_congr fun m _ => bne_eq_decide_ne m l
  · rw [removeMember_leg_fixed, if_neg other]

/-- Under the floor law a leg that has been removed neither owns the floor nor waits for it (R63). -/
theorem removeMember_unclaimed (law : FloorLaw s) (r : Requester) : let t := (s.removeMember p l r).1
    (t.patch p).floor.owner ≠ some (.leg l) ∧ ∀ c ∈ (t.patch p).floor.queue, c.party ≠ .leg l := by
  have ok := floorLaw_iff.mp (law.removeMember p l r) p
  have unlisted : l ∉ ((s.removeMember p l r).1.patch p).members := by
    rw [removeMember_members, if_pos rfl]
    simp
  exact ⟨fun owned => unlisted (ok.member l owned), fun c queued party => unlisted (ok.queue.member c queued l party)⟩

/-- A request that has begun stays the one in progress while only notices are offered. -/
theorem begun_of_noticed {k : Kind} {work : Work} (noticed : Noticed (s.begin h k work).link t.link) :
    t.link.inProgress = some ⟨k, h, work⟩ ∧ t.replies = s.replies := by
  have replies := replies_of_link noticed.quiet
  refine ⟨?_, replies⟩
  rw [inProgress_of_noticed noticed] <;> rfl

/-- LEAVE of a member whose entries no frame takes. -/
theorem leave_done {leg : Byte} (ready : s.Ready h) (named : leg.toNat = l.val) (joined : (s.leg l).membership = some p)
    (free : s.routes.frame = none ∨ s.purged (.dest p l) = []) :
    exec (.leave h leg) s = .next (((s.begin h .leave .leave).removeMember p l .leave).1.finish .ok []) := by
  rw [exec_of_begin ready rfl, takeLeave_of_member named joined]
  exact congrArg _ (if_pos (removeMember_atOnce (s := s.begin h .leave .leave) .leave free))

/-- LEAVE of a member in a frame that takes entries of it. -/
theorem leave_waits {leg : Byte} (ready : s.Ready h) (named : leg.toNat = l.val)
    (joined : (s.leg l).membership = some p) (frame : s.routes.frame.isSome = true)
    (takes : s.purged (.dest p l) ≠ []) :
    exec (.leave h leg) s = .next ((s.begin h .leave .leave).removeMember p l .leave).1 := by
  rw [exec_of_begin ready rfl, takeLeave_of_member named joined]
  refine congrArg _ (if_neg ?_)
  rw [removeMember_waits (s := s.begin h .leave .leave) .leave frame takes]
  nofun

/-- Settles O35: a removal whose purge completes at once, and one that a frame's done completes. -/
theorem leaveTakesTheLegOut : Obligations.LeaveTakesTheLegOut := by
  refine ⟨fun h leg l p s ready named joined free law => ?_,
    fun h leg l s ready named => ⟨fun apart => ?_, fun p joined inFrame takes => ?_⟩⟩
  · have atOnce : ((s.begin h .leave .leave).removeMember p l .leave).2 = true :=
      removeMember_atOnce (s := s.begin h .leave .leave) .leave free
    obtain ⟨members, membership, talk, demand, binding, emergency, others⟩ :=
      removeMember_leaver (s := s.begin h .leave .leave) (p := p) (l := l) .leave
    obtain ⟨disowned, unqueued⟩ := removeMember_unclaimed (s := s.begin h .leave .leave) (p := p) (l := l)
      (law.of_patches rfl) .leave
    obtain ⟨begun, before⟩ := begun_of_noticed (removeMember_noticed (s := s.begin h .leave .leave) (p := p) (l := l) .leave)
    have entry := removeMember_entry (s := s.begin h .leave .leave) (p := p) (l := l) .leave
    have freed (e : EntryId) := removeMember_freed (s := s.begin h .leave .leave) (e := e) .leave atOnce
    have directory := removeMember_directory (s := s.begin h .leave .leave) p l .leave
    have run := leave_done ready named joined free
    set t := ((s.begin h .leave .leave).removeMember p l .leave).1
    obtain ⟨idle, replies⟩ := finish_ends begun .ok []
    refine ⟨_, run, ?_, idle, ?_⟩
    · rw [replies, before] <;> rfl
    · simp only [finish_leg, finish_patch, finish_entry, finish_directory]
      refine ⟨members, membership, talk, demand, binding, emergency, disowned, unqueued, freed, fun e kept => ?_, others,
        directory⟩
      exact (entry e).trans (if_neg kept)
  · exact row_refuses (k := .leave) (r := .notMember) ready rfl (takeLeave_of_none named apart)
  · have due : s.context.endDue = none := Ready.due ready
    have waits : ((s.begin h .leave .leave).removeMember p l .leave).2 = false :=
      removeMember_waits (s := s.begin h .leave .leave) .leave inFrame takes
    obtain ⟨members, membership, talk, demand, -⟩ :=
      removeMember_leaver (s := s.begin h .leave .leave) (p := p) (l := l) .leave
    obtain ⟨begun, before⟩ := begun_of_noticed (removeMember_noticed (s := s.begin h .leave .leave) (p := p) (l := l) .leave)
    have purging (e : EntryId) := removeMember_purging (s := s.begin h .leave .leave) (e := e) .leave waits
    have purges := removeMember_purges (s := s.begin h .leave .leave) .leave waits
    have same := removeMember_frame (s := s.begin h .leave .leave) (p := p) (l := l) .leave
    have going := removeMember_going (s := s.begin h .leave .leave) (p := p) (l := l) .leave due
    have run := leave_waits ready named joined inFrame takes
    set t := ((s.begin h .leave .leave).removeMember p l .leave).1
    refine ⟨t, run, before, begun, members, membership, talk, demand, purging, purges, same, fun alone frameOver => ?_⟩
    obtain ⟨taken, frame⟩ := Option.isSome_iff_exists.mp inFrame
    have one : t.routes.purges = [⟨.leave, s.purged (.dest p l)⟩] := by
      rw [purges, begin_routes, alone] <;> rfl
    obtain ⟨u, done, ended, none, freed, idle, replies⟩ := frameDone_finishes begun (settled_of_begun begun nofun going)
      (same.trans frame) one (fun v begun => by rw [State.tell, State.work, begun] <;> rfl) frameOver
    refine ⟨u, done, ended, none, fun e took => ?_, idle, ?_⟩
    · obtain ⟨blank, -⟩ := freed e took
      exact blank
    · rw [replies, before] <;> rfl

end Sys2Proof.Machine

/-! SUPPORT. The ends of playbacks, and HALT (R159–R161). -/

namespace Sys2Proof.Machine

variable {s t u : State} {h : Header} {p : PatchId}

/-! ## The end of a TAKE -/

/-- The CLIP notice of a playback of a patch that has ended (R159, R183). -/
abbrev State.tellsEnd (u : State) (c : Context) (p : PatchId) (r : EndReason) : State :=
  u.offer (.clip c.slot r c.played) none (some p)

theorem endTake_of_owner (named : s.context.patch = some p) (owner : (s.patch p).floor.owner = some .clip)
    (r : EndReason) : s.endTake r = (s.clearPlayback.pass p).tellsEnd s.context p r := by
  unfold State.endTake State.offerClip
  dsimp only
  rw [named]
  dsimp only
  rw [clearPlayback_patch, if_pos owner]

theorem endTake_of_other (named : s.context.patch = some p) (other : (s.patch p).floor.owner ≠ some .clip)
    (r : EndReason) : s.endTake r = (s.clearPlayback.unqueue p .clip).tellsEnd s.context p r := by
  unfold State.endTake State.offerClip
  dsimp only
  rw [named]
  dsimp only
  rw [clearPlayback_patch, if_neg other]

/-! ## The end of an OVERLAY -/

/-- The clips that the end of a playback leaves turn on its slot, and on no more of the context. -/
theorem clearPlayback_clips (x : Context) (clips : t.clips = { s.clips with context := x })
    (slot : x.slot = s.context.slot) : t.clearPlayback.clips = s.clearPlayback.clips := by
  have context : t.context = x := congrArg Clips.context clips
  have slots (n : SlotId) : t.slot n = s.slot n := by
    show t.clips.slots.get n = _
    rw [clips] <;> rfl
  unfold State.clearPlayback State.restoreSlot
  rw [context, slot, slots]
  cases (s.slot s.context.slot).mode with
  | none => simp only [State.modContext, clips]
  | some kind =>
    cases kind with
    | stored => simp only [State.modContext, State.modSlot, clips, slots]
    | stream => simp only [State.modContext, State.modSlot, State.emptyRing, clips, slots]

/-- A notice offered is one the link alone tells of. -/
theorem offer_link_of_same (same : t.link = s.link) (d : Detail) (l : Option LegId) (q : Option PatchId) :
    (t.offer d l q).link = (s.offer d l q).link := by
  rw [offer_link, offer_link, same]

theorem offer_notices (d : Detail) (l : Option LegId) (q : Option PatchId) : (s.offer d l q).link.notices =
    if s.link.notices.length < 32 then s.link.notices ++ [⟨d, s.link.stamp, l, q⟩] else s.link.notices := by
  rw [offer_link, apply_ite Link.notices]

theorem finish_notices (r : Result) (results : List Byte) : (s.finish r results).link.notices = s.link.notices := by
  cases begun : s.link.inProgress with
  | none => rw [State.finish, begun]
  | some p =>
    obtain ⟨silent, -⟩ := finish_replied p r results begun
    have notices := congrArg (fun u : State => u.link.notices) silent
    exact notices

section
variable {r : EndReason} (reason : s.context.reason = some r) (named : s.context.patch = some p)
include reason named

/-- The overlay purge's completion with no HALT waiting (R159). -/
theorem overlayEnded_of_other (other : s.work ≠ some .halt) :
    s.overlayEnded = s.clearPlayback.tellsEnd s.context p r := by
  unfold State.overlayEnded State.offerClip
  dsimp only
  rw [reason, named]
  dsimp only
  split
  next halt =>
    have work : (s.clearPlayback.tellsEnd s.context p r).work = s.work := (calm_offer _ _ _).work.trans (clearPlayback_work _)
    exact absurd (work.symm.trans halt) other
  next => rfl

/-- The overlay purge's completion answers a HALT that waits for it (R161). -/
theorem overlayEnded_of_halt (halt : s.work = some .halt) : s.overlayEnded =
    (s.clearPlayback.tellsEnd s.context p r).finish .ok (haltResults s.context (some r)) := by
  have work : (s.clearPlayback.tellsEnd s.context p r).work = some .halt :=
    ((calm_offer _ _ _).work.trans (clearPlayback_work _)).trans halt
  unfold State.overlayEnded State.offerClip
  dsimp only
  rw [reason, named]
  dsimp only
  split
  next => rfl
  next unlike => exact absurd work unlike

/-- What an overlay's end leaves, whether a HALT waits or not. -/
theorem overlayEnded_leaves : s.overlayEnded.clips = s.clearPlayback.clips ∧
    s.overlayEnded.link.notices = (s.tellsEnd s.context p r).link.notices := by
  have link : (s.clearPlayback.tellsEnd s.context p r).link = (s.tellsEnd s.context p r).link :=
    offer_link_of_same (clearPlayback_link _) ..
  by_cases halt : s.work = some .halt
  · rw [overlayEnded_of_halt reason named halt]
    exact ⟨(finish_clips ..).trans (offer_clips ..), (finish_notices ..).trans (congrArg Link.notices link)⟩
  · rw [overlayEnded_of_other reason named halt]
    exact ⟨offer_clips .., congrArg Link.notices link⟩

/-- A HALT that waits for an overlay's end is answered with its reason and the samples played (R161). -/
theorem overlayEnded_answers {k : Header} (begun : s.link.inProgress = some ⟨.halt, k, .halt⟩) :
    s.overlayEnded.link.inProgress = none ∧
      s.overlayEnded.replies = s.replies ++ replyTo k 0x53 (0x00 :: haltResults s.context (some r)) := by
  have halt : s.work = some .halt := by rw [State.work, begun] <;> rfl
  have noticed : Noticed s.link (s.clearPlayback.tellsEnd s.context p r).link := by
    have offered := noticed_offer (s := s.clearPlayback) (.clip s.context.slot r s.context.played) none (some p)
    rwa [clearPlayback_link] at offered
  obtain ⟨idle, replies⟩ := finish_ends ((inProgress_of_noticed noticed).trans begun) .ok (haltResults s.context (some r))
  rw [overlayEnded_of_halt reason named halt]
  refine ⟨idle, replies.trans ?_⟩
  rw [replies_of_link noticed.quiet] <;> rfl

theorem overlayEnded_unasked (other : s.work ≠ some .halt) :
    s.overlayEnded.link = (s.tellsEnd s.context p r).link := by
  rw [overlayEnded_of_other reason named other]
  exact offer_link_of_same (clearPlayback_link _) ..

end

/-- Whether an entry is one of the live overlays of a patch. -/
abbrev Entry.overlays (x : Entry) (p : PatchId) : Prop := x.live = true ∧ x.tag = some p ∧ x.kind = some .overlay

theorem mem_purged_overlays (e : EntryId) : e ∈ s.purged (.overlays p) ↔ (s.entry e).overlays p := by
  rw [mem_purged]
  simp [Selector.selects]

/-- The state in which an overlay's end that no frame holds back is completed. -/
def State.overlayPurged (s : State) (p : PatchId) (r : EndReason) : State :=
  (s.enterEnding r).freeEntries (s.purged (.overlays p))

theorem endOverlay_atOnce (idle : s.routes.frame = none) (named : s.context.patch = some p) (r : EndReason) :
    s.endOverlay r = (s.overlayPurged p r).overlayEnded := by
  have done : ((s.enterEnding r).purge (.overlays p) .overlayEnd).2 = true :=
    purge_atOnce (s := s.enterEnding r) rfl (.inl (by rw [enterEnding_routes, idle]))
  obtain ⟨freed, -⟩ := purge_done _ _ done
  rw [State.endOverlay, named]
  dsimp only
  rw [State.purgeOverlays]
  rw [if_pos done, freed] <;> rfl

theorem overlayPurged_context (r : EndReason) : (s.overlayPurged p r).context =
    { s.context with phase := .ending, tone := 0, reason := some r, endDue := none } := by
  rw [State.overlayPurged, freeEntries_context] <;> rfl

theorem overlayPurged_clips (r : EndReason) :
    (s.overlayPurged p r).clearPlayback.clips = s.clearPlayback.clips :=
  clearPlayback_clips { s.context with phase := .ending, tone := 0, reason := some r, endDue := none }
    (by rw [State.overlayPurged, freeEntries_clips] <;> rfl) rfl

theorem overlayPurged_others (r : EndReason) :
    (s.overlayPurged p r).link = s.link ∧ (s.overlayPurged p r).legs = s.legs := by
  rw [State.overlayPurged]
  exact ⟨(freeEntries_link _ _).trans (enterEnding_link _ r), (freeEntries_legs _ _).trans (enterEnding_legs _ r)⟩

theorem overlayPurged_entry (r : EndReason) {e : EntryId} (overlay : (s.entry e).overlays p) :
    (s.overlayPurged p r).entry e = {} := by
  rw [State.overlayPurged, entry_freeEntries]
  exact if_pos ((mem_purged_overlays e).mpr overlay)

/-- An overlay's end between frames (R159): its entries FREE, its playback over, and the notice told. -/
theorem endOverlay_atOnce_leaves (idle : s.routes.frame = none) (named : s.context.patch = some p) (r : EndReason) :
    (s.endOverlay r).clips = s.clearPlayback.clips ∧
      (s.endOverlay r).link.notices = (s.tellsEnd s.context p r).link.notices ∧ (s.endOverlay r).legs = s.legs ∧
      ∀ e, (s.entry e).overlays p → (s.endOverlay r).entry e = {} := by
  have context := overlayPurged_context (s := s) (p := p) r
  obtain ⟨link, legs⟩ := overlayPurged_others (s := s) (p := p) r
  obtain ⟨clips, notices⟩ := overlayEnded_leaves (s := s.overlayPurged p r) (p := p) (r := r) (by rw [context])
    (by rw [context]; exact named)
  rw [endOverlay_atOnce idle named]
  refine ⟨clips.trans (overlayPurged_clips r), notices.trans ?_, (overlayEnded_legs (s := s.overlayPurged p r)).trans legs,
    fun e overlay => (overlayEnded_entry (s := s.overlayPurged p r) e).trans (overlayPurged_entry r overlay)⟩
  rw [context]
  exact congrArg Link.notices (offer_link_of_same link ..)

/-- What an overlay's end leaves in a frame that has an entry of it (R159, R160). -/
theorem endOverlay_waits_leaves (frame : s.routes.frame.isSome = true) (named : s.context.patch = some p) (r : EndReason)
    (some : ∃ e, (s.entry e).overlays p) :
    (s.endOverlay r).context = { s.context with phase := .ending, tone := 0, reason := .some r, endDue := none } ∧
      (s.endOverlay r).link = s.link ∧ (s.endOverlay r).legs = s.legs ∧
      (∀ e, (s.entry e).overlays p → ((s.endOverlay r).entry e).state = .purging) ∧
      (s.endOverlay r).routes.purges = s.routes.purges ++ [⟨.overlayEnd, s.purged (.overlays p)⟩] ∧
      (s.endOverlay r).routes.frame = s.routes.frame := by
  obtain ⟨e, live, tag, kind⟩ := some
  obtain ⟨purge, waits⟩ := endOverlay_waits frame named r live tag kind
  obtain ⟨purges, purging, -⟩ := purge_waiting_eq waits
  rw [purge]
  exact ⟨context_of_clips (purge_clips _ _ _), purge_link .., purge_legs ..,
    fun e overlay => purging e ((mem_purged_overlays (s := s.enterEnding r) e).mpr overlay), purges, purge_frame _ _⟩

/-! ## HALT -/

theorem takeHalt_none (phase : s.context.phase = .none) :
    takeHalt h s = s.grantReply h .halt (haltResults {} none) := by
  unfold takeHalt
  dsimp only
  rw [phase]

theorem takeHalt_take (phase : s.context.phase = .waiting ∨ s.context.phase = .playing ∨ s.context.phase = .tone)
    (mode : s.context.mode = .take) :
    takeHalt h s = (s.endTake .halted).grantReply h .halt (haltResults s.context (some .halted)) := by
  unfold takeHalt
  dsimp only
  obtain phase | phase | phase := phase <;> rw [phase, mode]

theorem takeHalt_overlay (phase : s.context.phase = .playing ∨ s.context.phase = .tone)
    (mode : s.context.mode = .overlay) : takeHalt h s = (s.begin h .halt .halt).endOverlay .halted := by
  unfold takeHalt
  dsimp only
  obtain phase | phase := phase <;> rw [phase, mode]

theorem takeHalt_ending (phase : s.context.phase = .ending) (mode : s.context.mode = .overlay) :
    takeHalt h s = s.begin h .halt .halt := by
  unfold takeHalt
  dsimp only
  rw [phase, mode]

/-- HALT of a TAKE is answered at once. -/
theorem halt_take (ready : s.Ready h)
    (phase : s.context.phase = .waiting ∨ s.context.phase = .playing ∨ s.context.phase = .tone)
    (mode : s.context.mode = .take) : Completes (.halt h) s h 0x53 ([0x00, 3] ++ bytes32 s.context.played)
      (s.endTake .halted) := by
  have idle : s.link.inProgress = none := Ready.idle ready
  exact row_grants (k := .halt) (results := haltResults s.context (some .halted)) ready rfl (takeHalt_take phase mode)
    ((arbitrates_inProgress (arbitrates_endTake .halted)).trans idle)

/-- HALT of an OVERLAY between frames is answered at once. -/
theorem halt_overlay_atOnce (ready : s.Ready h) (phase : s.context.phase = .playing ∨ s.context.phase = .tone)
    (mode : s.context.mode = .overlay) (named : s.context.patch = some p) (idle : s.routes.frame = none) :
    ∃ t, exec (.halt h) s = .next t ∧
      t.replies = s.replies ++ replyTo h 0x53 ([0x00, 3] ++ bytes32 s.context.played) ∧
      t.clips = s.clearPlayback.clips ∧ t.link.inProgress = none ∧ (∀ e, (s.entry e).overlays p → t.entry e = {}) ∧
      t.link.notices = (s.tellsEnd s.context p .halted).link.notices ∧ t.legs = s.legs := by
  let u := s.begin h .halt .halt
  obtain ⟨clips, notices, legs, entries⟩ := endOverlay_atOnce_leaves (s := u) idle named .halted
  have context := overlayPurged_context (s := u) (p := p) .halted
  obtain ⟨link, -⟩ := overlayPurged_others (s := u) (p := p) .halted
  obtain ⟨ends, replies⟩ := overlayEnded_answers (s := u.overlayPurged p .halted) (p := p) (r := .halted) (k := h)
    (by rw [context]) (by rw [context]; exact named) (by rw [link] <;> rfl)
  have run : exec (.halt h) s = .next (u.endOverlay .halted) := by
    rw [exec_of_begin ready rfl, takeHalt_overlay phase mode]
  have same : u.clearPlayback.clips = s.clearPlayback.clips := clearPlayback_clips s.context rfl rfl
  rw [← endOverlay_atOnce (s := u) idle named] at ends replies
  refine ⟨_, run, replies.trans ?_, clips.trans same, ends, entries, notices.trans ?_, legs⟩
  · rw [context, State.replies, link] <;> rfl
  · rw [offer_notices, offer_notices] <;> rfl

/-- HALT of an OVERLAY in a frame that has an entry of it waits for the frame's done. -/
theorem halt_overlay_waits (ready : s.Ready h) (phase : s.context.phase = .playing ∨ s.context.phase = .tone)
    (mode : s.context.mode = .overlay) (named : s.context.patch = some p) (frame : s.routes.frame.isSome = true)
    (overlaid : ∃ e, (s.entry e).overlays p) :
    ∃ t, exec (.halt h) s = .next t ∧ t.replies = s.replies ∧ t.link.inProgress = some ⟨.halt, h, .halt⟩ ∧
      t.context = { s.context with phase := .ending, tone := 0, reason := some .halted, endDue := none } ∧
      t.link.notices = s.link.notices ∧ (∀ e, (s.entry e).overlays p → (t.entry e).state = .purging) ∧
      t.routes.purges = s.routes.purges ++ [⟨.overlayEnd, s.purged (.overlays p)⟩] ∧
      t.routes.frame = s.routes.frame := by
  obtain ⟨context, link, -, entries, purges, same⟩ :=
    endOverlay_waits_leaves (s := s.begin h .halt .halt) frame named .halted overlaid
  have run : exec (.halt h) s = .next ((s.begin h .halt .halt).endOverlay .halted) := by
    rw [exec_of_begin ready rfl, takeHalt_overlay phase mode]
  refine ⟨_, run, ?_, ?_, context, ?_, entries, purges, same⟩
  · rw [State.replies, link] <;> rfl
  · rw [link] <;> rfl
  · rw [link] <;> rfl

/-! ## The frame's done, and an end that has fallen due -/

/-- The frame's done completes the purge of an overlay's end, and with it the playback (R159, R161). -/
theorem frameDone_endsOverlay {r : EndReason} {purge : Purge} (before : Option Nat) (settled : s.Settled)
    (named : s.context.patch = some p) (reason : s.context.reason = some r) (asked : purge.requester = .overlayEnd)
    (one : s.routes.purges = [purge]) (frame : s.routes.frame.isSome = true) :
    ∃ t, exec (.frameDone before) s = .next t ∧ t.clips = s.clearPlayback.clips ∧ t.routes.purges = [] ∧
      (∀ e ∈ purge.entries, t.entry e = {}) ∧ (∀ q, (t.patch q).floor = (s.patch q).floor) ∧
      t.link.notices = (s.tellsEnd s.context p r).link.notices ∧
      (s.work ≠ some .halt → t.link.inProgress = s.link.inProgress ∧ t.replies = s.replies) ∧
      ∀ k, s.link.inProgress = some ⟨.halt, k, .halt⟩ → t.link.inProgress = none ∧
        t.replies = s.replies ++ replyTo k 0x53 (0x00 :: haltResults s.context (some r)) := by
  obtain ⟨taken, frame⟩ := Option.isSome_iff_exists.mp frame
  obtain ⟨link, clips, -, -, purges, -⟩ := handedOver_others (s := s) taken before
  have run := exec_frameDone_of_one settled frame one before
  rw [asked] at run
  have context : (s.handedOver taken before).context = s.context := context_of_clips clips
  have work : (s.handedOver taken before).work = s.work := by rw [State.work, link] <;> rfl
  have replies : (s.handedOver taken before).replies = s.replies := by rw [State.replies, link] <;> rfl
  have reasonThen : (s.handedOver taken before).context.reason = some r := by rw [context, reason]
  have namedThen : (s.handedOver taken before).context.patch = some p := by rw [context, named]
  have entry := handedOver_entry (s := s) taken before
  have patch := handedOver_patch (s := s) taken before
  set u := s.handedOver taken before
  have cleared : u.clearPlayback.clips = s.clearPlayback.clips :=
    clearPlayback_clips s.context clips rfl
  obtain ⟨clipsThen, notices⟩ := overlayEnded_leaves reasonThen namedThen
  have told : (u.tellsEnd u.context p r).link = (s.tellsEnd s.context p r).link := by
    rw [context]
    exact offer_link_of_same link ..
  refine ⟨u.overlayEnded, run, clipsThen.trans cleared, ?_, fun e named => ?_, fun q => ?_,
    notices.trans (congrArg Link.notices told), fun other => ?_, fun k halt => ?_⟩
  · rw [overlayEnded_routes, purges]
  · rw [overlayEnded_entry, entry, one]
    exact if_pos (by simpa using named)
  · rw [overlayEnded_patch, patch]
  · have noticed := noticed_offer (s := s) (.clip s.context.slot r s.context.played) none (some p)
    have same : u.overlayEnded.link = (s.tellsEnd s.context p r).link :=
      (overlayEnded_unasked reasonThen namedThen (by rwa [work])).trans told
    have progress := inProgress_of_noticed noticed
    have before := replies_of_link noticed.quiet
    rw [State.replies, same]
    exact ⟨progress, before⟩
  · obtain ⟨idle, answered⟩ := overlayEnded_answers reasonThen namedThen (k := k) (by rw [link, halt])
    refine ⟨idle, answered.trans ?_⟩
    rw [replies, context]

/-- A playback's end that has fallen due is taken by the event that tells of it (R162; log 6). -/
theorem exec_of_dueEnd {r : EndReason} (unreset : s.resetIsDue = false) (due : s.context.endDue = some r) :
    exec .clipComplete s = .next (s.endPlayback r) ∧ exec .cutToneEnd s = .next (s.endPlayback r) := by
  have settles : s.settle = s.endPlayback r := by
    rw [State.settle, unreset, State.takeDueEnd, due] <;> rfl
  exact ⟨(exec_of_happening (f := id) rfl s).trans (congrArg _ settles), (exec_of_happening (f := id) rfl s).trans (congrArg _ settles)⟩

theorem endPlayback_take {r : EndReason} (mode : s.context.mode = .take) : s.endPlayback r = s.endTake r := by
  rw [State.endPlayback, mode]

theorem endPlayback_overlay {r : EndReason} (mode : s.context.mode = .overlay) : s.endPlayback r = s.endOverlay r := by
  rw [State.endPlayback, mode]

/-- What the end of a playback leaves of the Clip Player and of the rest (R159). -/
theorem clearPlayback_leaves : s.clearPlayback.clips.memory = s.clips.memory ∧ s.clearPlayback.legs = s.legs ∧
    s.clearPlayback.patches = s.patches ∧ s.clearPlayback.routes = s.routes ∧ s.clearPlayback.link = s.link :=
  ⟨clearPlayback_keeps.memory, clearPlayback_legs s, clearPlayback_patches s, clearPlayback_routes s, clearPlayback_link s⟩

/-- Settles O55, end by end: a TAKE's passes the floor on, an OVERLAY's waits for the purge of its entries. -/
theorem playbacksEnd : Obligations.PlaybacksEnd := by
  intro h p s named
  refine ⟨?cleared, ?unplayed, ?waiting, ?take, ?overlay, ?inFrame, ?ending, ?done, ?takeDue, ?overlayDue, ?inFrameDue⟩
  case cleared =>
    obtain ⟨emptied, kept⟩ := clearPlayback_ring (s := s)
    refine ⟨clearPlayback_context, (clearPlayback_slot _).trans (if_pos rfl), fun n other => ?_, emptied, kept,
      clearPlayback_leaves⟩
    exact (clearPlayback_slot n).trans (if_neg other)
  case unplayed =>
    exact fun u ready phase => row_grants (k := .halt) ready rfl (takeHalt_none phase) (Ready.idle ready)
  case waiting =>
    intro ready phase other mode
    have completes := halt_take ready (.inl phase) mode
    rw [endTake_of_other named other, unqueue_eq] at completes
    exact completes
  case take =>
    intro ready phase mode owner
    have completes := halt_take ready (.inr phase) mode
    rw [endTake_of_owner named owner] at completes
    exact completes
  case overlay => exact fun ready phase mode idle => halt_overlay_atOnce ready phase mode named idle
  case inFrame => exact fun ready phase mode frame overlaid => halt_overlay_waits ready phase mode named frame overlaid
  case ending =>
    intro ready phase mode
    rw [exec_of_begin ready rfl, takeHalt_ending phase mode] <;> rfl
  case done =>
    intro r purge before settled phase reason asked one frame
    exact frameDone_endsOverlay before settled named reason asked one frame
  case takeDue =>
    intro unreset mode owner
    refine ⟨fun due => ?_, fun due => ?_⟩
    · obtain ⟨run, -⟩ := exec_of_dueEnd unreset due
      rw [run, endPlayback_take mode, endTake_of_owner named owner]
    · obtain ⟨-, run⟩ := exec_of_dueEnd unreset due
      rw [run, endPlayback_take mode, endTake_of_owner named owner]
  case overlayDue =>
    intro unreset mode idle unasked r due
    obtain ⟨complete, toneEnd⟩ := exec_of_dueEnd unreset due
    rw [endPlayback_overlay mode] at complete toneEnd
    obtain ⟨clips, -, legs, entries⟩ := endOverlay_atOnce_leaves idle named r
    have context := overlayPurged_context (s := s) (p := p) r
    obtain ⟨link, -⟩ := overlayPurged_others (s := s) (p := p) r
    refine ⟨_, complete, toneEnd, clips, ?_, legs, entries⟩
    rw [endOverlay_atOnce idle named, overlayEnded_unasked (p := p) (r := r) (by rw [context])
      (by rw [context]; exact named) (by rw [State.work, link]; exact unasked), context]
    exact offer_link_of_same link ..
  case inFrameDue =>
    intro unreset mode frame overlaid r due
    obtain ⟨complete, toneEnd⟩ := exec_of_dueEnd unreset due
    rw [endPlayback_overlay mode] at complete toneEnd
    obtain ⟨context, link, legs, entries, purges, -⟩ := endOverlay_waits_leaves frame named r overlaid
    exact ⟨_, complete, toneEnd, context, link, legs, entries, purges⟩

end Sys2Proof.Machine

/-! SUPPORT. What a teardown leaves: patches, floors, the link, the clips and the routes (R67). -/

namespace Sys2Proof.Machine

variable {s t u : State} {h : Header} {p : PatchId} {l : LegId}

/-! ## Patches -/

theorem setDemand_off_patches : (s.setDemand l false).patches = s.patches := by
  by_cases off : (s.leg l).demand = false
  · rw [setDemand_same off]
  · rw [setDemand_off (by simpa using off)]
    cases (s.leg l).tx.state <;> rfl

theorem demandAll_off_patches (ms : List LegId) : (s.demandAll ms fun _ => false).patches = s.patches := by
  induction ms generalizing s with
  | nil => rfl
  | cons l ms ih =>
    rw [demandAll_cons, ih]
    split
    · exact setDemand_off_patches
    · rfl

theorem clearFloor_patch (q : PatchId) :
    (s.clearFloor p).patch q = if q = p then { s.patch p with floor := {} } else s.patch q := by
  have cleared : (s.modFloor p fun _ => {}).patch q = if q = p then { s.patch p with floor := {} } else s.patch q :=
    patch_modPatch ..
  unfold State.clearFloor
  dsimp only
  split
  · exact cleared
  · rw [offerFloor_patch, cleared]
  · rw [offerFloor_patch, cleared]

theorem silenced_patch (reason : EndReason) (q : PatchId) : (s.silenced p reason).patch q =
    if q = p then { s.patch p with state := .disbanding, floor := {} } else s.patch q := by
  have ended (q : PatchId) : ((s.modPatch p fun x => { x with state := .disbanding }).endInTeardown p reason).1.patch q =
      (s.modPatch p fun x => { x with state := .disbanding }).patch q :=
    patch_of_patches (endInTeardown_patches _ _ _) q
  rw [State.silenced, demands_eq, patch_of_patches (demandAll_off_patches _), clearFloor_patch, ended, ended,
    patch_modPatch_same]
  split
  · rfl
  next other => exact patch_modPatch_ne _ _ other

/-- A patch in teardown has its lists and floor emptied, and no other patch changes (items 1 to 5 of R67). -/
theorem vacated_patch (reason : EndReason) (q : PatchId) : (s.vacated p reason).patch q =
    if q = p then { s.patch p with state := .disbanding, floor := {}, members := [], monitors := [] }
    else s.patch q := by
  rw [vacated_eq, patch_modPatch, releaseAll_patch, releaseAll_patch, silenced_patch, silenced_patch, if_pos rfl]
  split <;> rfl

theorem teardown_floor (reason : EndReason) (r : Requester) (q : PatchId) :
    ((s.teardown p reason r).1.patch q).floor = if q = p then {} else (s.patch q).floor := by
  obtain ⟨-, purged⟩ := purge_patch (s := s.untagged p reason) (.tag p) r q
  obtain ⟨-, ended⟩ := untagged_patch (s := s) p reason q
  rw [teardown_eq, purged, ended, vacated_patch]
  split <;> rfl

theorem teardown_sublist (reason : EndReason) (r : Requester) (q : PatchId) :
    ((s.teardown p reason r).1.patch q).chain.Sublist (s.patch q).chain :=
  (purge_chain _ _ q).trans (untagged_chain reason q)

/-! ## The link -/

theorem Arbitrates.noticed (work : Arbitrates s t) : Noticed s.link t.link := work.kept.link

theorem work_of_noticed (noticed : Noticed s.link t.link) : t.work = s.work := by
  rw [State.work, inProgress_of_noticed noticed, State.work]

theorem endInTeardown_noticed (reason : EndReason) : Noticed s.link (s.endInTeardown p reason).1.link := by
  have told := (arbitrates_endUnreported (s := s) reason).noticed
  unfold State.endInTeardown
  dsimp only
  split
  · split
    · exact .refl _
    · exact told
    · exact told
    · exact told
    · exact told
    · rw [enterEnding_link]; exact .refl _
    · rw [enterEnding_link]; exact .refl _
    · exact .refl _
  · exact .refl _

theorem vacated_noticed (reason : EndReason) : Noticed s.link (s.vacated p reason).link := by
  have ended : Noticed s.link ((s.modPatch p fun x => { x with state := .disbanding }).endInTeardown p reason).1.link :=
    endInTeardown_noticed (s := s.modPatch p fun x => { x with state := .disbanding }) reason
  rw [vacated_eq, modPatch_link, releaseAll_keeps (s.silenced p reason) (fun t => t.link) (fun _ _ => rfl)]
  exact (ended.trans (calm_clearFloor p).link).trans (calm_demands p _).link

/-- With no HALT waiting, the end of an overlay forms no reply. -/
theorem overlayEnded_noticed (unasked : s.work ≠ some .halt) : Noticed s.link s.overlayEnded.link := by
  have cleared : Noticed s.link s.clearPlayback.link := by rw [clearPlayback_link]; exact .refl _
  have told (c : Context) (r : EndReason) : Noticed s.link (s.clearPlayback.offerClip c r).link :=
    cleared.trans (noticed_offer ..)
  unfold State.overlayEnded
  dsimp only
  split
  next halt =>
    refine absurd (Eq.trans (work_of_noticed ?_).symm halt) unasked
    split
    · exact told _ _
    · exact cleared
  · split
    · exact told _ _
    · exact cleared

theorem purgeOverlays_noticed (unasked : s.work ≠ some .halt) : Noticed s.link (s.purgeOverlays p).link := by
  have purged : (s.purge (.overlays p) .overlayEnd).1.link = s.link := purge_link ..
  have work : (s.purge (.overlays p) .overlayEnd).1.work = s.work := by rw [State.work, purged, State.work]
  unfold State.purgeOverlays
  dsimp only
  split
  · rw [← purged]
    exact overlayEnded_noticed (by rwa [work])
  · rw [purged]
    exact .refl _

/-- A teardown that no HALT waits on forms no reply. -/
theorem teardown_noticed (unasked : s.work ≠ some .halt) (reason : EndReason) (r : Requester) :
    Noticed s.link (s.teardown p reason r).1.link := by
  have vacated := vacated_noticed (s := s) (p := p) reason
  rw [teardown_eq, purge_link, State.untagged]
  split
  · exact vacated.trans (purgeOverlays_noticed (by rwa [work_of_noticed vacated]))
  · exact vacated

/-! ## Routes and clips -/

theorem purgeOverlays_frame : (s.purgeOverlays p).routes.frame = s.routes.frame := by
  unfold State.purgeOverlays
  dsimp only
  split
  · rw [overlayEnded_routes, purge_frame]
  · exact purge_frame _ _

theorem teardown_frame (reason : EndReason) (r : Requester) :
    (s.teardown p reason r).1.routes.frame = s.routes.frame := by
  rw [teardown_eq, purge_frame, State.untagged]
  split
  · rw [purgeOverlays_frame, vacated_purges]
  · rw [vacated_purges]

/-- Between frames a teardown's purge completes at once (R140). -/
theorem teardown_atOnce (idle : s.routes.frame = none) (reason : EndReason) (r : Requester) :
    (s.teardown p reason r).2 = true := by
  have still : (s.untagged p reason).routes.frame = none := by
    have frame := teardown_frame (s := s) (p := p) reason r
    rw [teardown_eq, purge_frame, idle] at frame
    exact frame
  rw [teardown_eq, purge_betweenFrames _ _ _ still]

theorem vacated_clips (reason : EndReason) : (s.vacated p reason).clips =
    ((s.modPatch p fun x => { x with state := .disbanding }).endInTeardown p reason).1.clips := by
  rw [vacated_eq, modPatch_clips, releaseAll_keeps (s.silenced p reason) (fun t => t.clips) (fun _ _ => rfl)]
  exact (calm_demands p _).clips.trans (calm_clearFloor p).clips

theorem endInTeardown_going (going : s.context.endDue = none) (reason : EndReason) :
    (s.endInTeardown p reason).1.context.endDue = none := by
  have ended := (arbitrates_endUnreported (s := s) reason).going going
  unfold State.endInTeardown
  dsimp only
  split
  · split
    · exact going
    · exact ended
    · exact ended
    · exact ended
    · exact ended
    · rfl
    · rfl
    · exact going
  · exact going

theorem overlayEnded_context : s.overlayEnded.context = {} := by
  have cleared : s.clearPlayback.context = {} := clearPlayback_context
  unfold State.overlayEnded
  dsimp only
  split
  · rw [finish_context]
    split
    · rw [offerClip_context, cleared]
    · exact cleared
  · split
    · rw [offerClip_context, cleared]
    · exact cleared

/-- A teardown makes no playback's end due. -/
theorem teardown_going (going : s.context.endDue = none) (reason : EndReason) (r : Requester) :
    (s.teardown p reason r).1.context.endDue = none := by
  have vacated : (s.vacated p reason).context.endDue = none := by
    rw [context_of_clips (vacated_clips reason)]
    exact endInTeardown_going (s := s.modPatch p fun x => { x with state := .disbanding }) going reason
  rw [teardown_eq, context_of_clips (purge_clips _ _ _), State.untagged]
  split
  · unfold State.purgeOverlays
    dsimp only
    split
    · rw [overlayEnded_context]
    · rw [context_of_clips (purge_clips _ _ _), vacated]
  · exact vacated

/-! ## A teardown with no playback -/

theorem endInTeardown_unplayed (unplayed : s.context.phase = .none) (reason : EndReason) :
    s.endInTeardown p reason = (s, false) := by
  unfold State.endInTeardown
  dsimp only
  rw [unplayed]
  split <;> rfl

theorem untagged_unplayed (unplayed : s.context.phase = .none) (reason : EndReason) :
    s.untagged p reason = s.vacated p reason := by
  have ends : s.endsOverlay p reason = false := by
    have none := endInTeardown_unplayed (s := s.modPatch p fun x => { x with state := .disbanding }) (p := p) unplayed reason
    rw [State.endsOverlay, none]
  rw [State.untagged, ends]
  rfl

theorem vacated_clips_unplayed (unplayed : s.context.phase = .none) (reason : EndReason) :
    (s.vacated p reason).clips = s.clips := by
  rw [vacated_clips, endInTeardown_unplayed (s := s.modPatch p fun x => { x with state := .disbanding }) unplayed]
  rfl

/-- A teardown in a frame with no playback: the entries tagged with the patch are marked, and the purge waits if there is
one (R67, R138). -/
theorem teardown_inFrame (frame : s.routes.frame.isSome = true) (unplayed : s.context.phase = .none) (reason : EndReason)
    (r : Requester) : let t := (s.teardown p reason r).1
    t.clips = s.clips ∧ (∀ q, t.patch q = (s.vacated p reason).patch q) ∧
      t.routes.purges = s.routes.purges ++ (if (s.teardown p reason r).2 then [] else [⟨r, s.purged (.tag p)⟩]) ∧
      (s.purged (.tag p) ≠ [] → (s.teardown p reason r).2 = false) ∧
      ∀ e, t.entry e = if e ∈ s.purged (.tag p) then { s.entry e with state := .purging } else s.entry e := by
  have same := sameRoutes_vacated (s := s) (p := p) reason
  have entry (e : EntryId) : (s.vacated p reason).entry e = s.entry e :=
    congrArg (fun r : Routes => r.entries.get e) (vacated_purges reason)
  have frameThen : (s.vacated p reason).routes.frame.isSome = true := by rwa [vacated_purges]
  have clips := vacated_clips_unplayed (p := p) unplayed reason
  dsimp only
  rw [teardown_eq, untagged_unplayed unplayed]
  obtain ⟨-, patches, -⟩ := purge_inFrame_keeps frameThen (.tag p) r
  refine ⟨(purge_clips _ _ _).trans clips, patch_of_patches patches, ?_, fun takes => ?_, fun e => ?_⟩
  · cases done : ((s.vacated p reason).purge (.tag p) r).2 with
    | true =>
      rw [freeEntries_of_purge_inFrame frameThen _ _ done, vacated_purges]
      exact (List.append_nil _).symm
    | false =>
      rw [purge_waiting _ _ _ done, vacated_purges, same.purged]
      rfl
  · exact purge_takes frameThen (by rwa [same.purged])
  · cases done : ((s.vacated p reason).purge (.tag p) r).2 with
    | true =>
      have none : s.purged (.tag p) = [] := by
        by_contra takes
        rw [purge_takes frameThen (by rwa [same.purged])] at done
        cases done
      rw [freeEntries_of_purge_inFrame frameThen _ _ done, entry, none]
      rfl
    | false =>
      rw [purge_entry, done, same.purged, entry]
      rfl

end Sys2Proof.Machine

/-! SUPPORT. Patches torn down one after the other (R65, R67, R76), and RESET PATCHES. -/

namespace Sys2Proof.Machine

variable {s t u : State} {h : Header} {p : PatchId} {l : LegId} {ps qs ws vs : List PatchId}

/-! ## Patches torn down -/

/-- A patch that another's teardown leaves: its chain may lose the entries of an overlay. -/
structure Spared (x y : Patch) : Prop where
  fixed : y.fixed = x.fixed
  floor : y.floor = x.floor
  chain : y.chain.Sublist x.chain

theorem Spared.refl (x : Patch) : Spared x x := ⟨rfl, rfl, List.Sublist.refl _⟩

theorem Spared.trans {x y z : Patch} (first : Spared x y) (second : Spared y z) : Spared x z :=
  ⟨second.fixed.trans first.fixed, second.floor.trans first.floor, second.chain.trans first.chain⟩

theorem Spared.blank {y : Patch} (spared : Spared {} y) : y = {} := by
  have parts (x : Patch) : x = { x.fixed with floor := x.floor, chain := x.chain } := rfl
  rw [parts y, spared.fixed, spared.floor, List.sublist_nil.mp spared.chain] <;> rfl

/-- The patches ps have been torn down between s and t, and of them ws wait for their purges; the others are FREE. -/
structure TornDown (s t : State) (ps ws : List PatchId) : Prop where
  within : ws ⊆ ps
  freed : ∀ q ∈ ps, q ∉ ws → t.patch q = {}
  waits : ∀ q ∈ ws, (t.patch q).state = .disbanding ∧ (t.patch q).members = []
  others : ∀ q, q ∉ ps → Spared (s.patch q) (t.patch q)
  legs : ∀ l, (t.leg l).fixed = if ∃ q ∈ ps, l ∈ (s.patch q).members then (s.leg l).released.fixed else (s.leg l).fixed
  frame : t.routes.frame = s.routes.frame
  directory : t.directory = s.directory
  stamp : t.link.stamp = s.link.stamp
  going : s.context.endDue = none → t.context.endDue = none

theorem TornDown.refl (s : State) : TornDown s s [] [] where
  within := List.Subset.refl _
  freed _ listed := by cases listed
  waits _ listed := by cases listed
  others _ _ := .refl _
  legs l := by simp
  frame := rfl
  directory := rfl
  stamp := rfl
  going := id

/-- Work on the link's requests and replies alone. -/
theorem TornDown.told (torn : TornDown s t ps ws) (patches : u.patches = t.patches) (legs : u.legs = t.legs)
    (frame : u.routes.frame = t.routes.frame) (directory : u.directory = t.directory)
    (context : u.context = t.context) (stamp : u.link.stamp = t.link.stamp) : TornDown s u ps ws := by
  have patch := patch_of_patches patches
  have leg := leg_of_legs legs
  constructor
  case within => exact torn.within
  case freed => intro q; rw [patch]; exact torn.freed q
  case waits => intro q; rw [patch]; exact torn.waits q
  case others => intro q; rw [patch]; exact torn.others q
  case legs => intro l; rw [leg]; exact torn.legs l
  case frame => rw [frame, torn.frame]
  case directory => rw [directory, torn.directory]
  case stamp => rw [stamp, torn.stamp]
  case going => rw [context]; exact torn.going

theorem TornDown.trans (first : TornDown s t ps ws) (second : TornDown t u qs vs) (apart : ps.Disjoint qs) :
    TornDown s u (ps ++ qs) (ws ++ vs) := by
  have spared {q : PatchId} (listed : q ∈ ps) : Spared (t.patch q) (u.patch q) := second.others q (apart listed)
  have members {q : PatchId} (listed : q ∈ qs) : (t.patch q).members = (s.patch q).members :=
    members_of_fixed (first.others q fun before => apart before listed).fixed
  constructor
  case within =>
    intro q listed
    obtain before | now := List.mem_append.mp listed
    · exact List.mem_append_left _ (first.within before)
    · exact List.mem_append_right _ (second.within now)
  case freed =>
    intro q listed free
    rw [List.mem_append, not_or] at free
    obtain before | now := List.mem_append.mp listed
    · have blank := spared before
      rw [first.freed q before free.1] at blank
      exact blank.blank
    · exact second.freed q now free.2
  case waits =>
    intro q listed
    obtain before | now := List.mem_append.mp listed
    · obtain ⟨state, members⟩ := first.waits q before
      have fixed := (spared (first.within before)).fixed
      exact ⟨(state_of_fixed fixed).trans state, (members_of_fixed fixed).trans members⟩
    · exact second.waits q now
  case others =>
    intro q other
    rw [List.mem_append, not_or] at other
    exact (first.others q other.1).trans (second.others q other.2)
  case legs =>
    intro l
    have released (x : Leg) : x.released.fixed = x.fixed.released := rfl
    rw [second.legs l, released, first.legs l]
    by_cases before : ∃ q ∈ ps, l ∈ (s.patch q).members
    · have torn : ∃ q ∈ ps ++ qs, l ∈ (s.patch q).members := by
        obtain ⟨q, listed, member⟩ := before
        exact ⟨q, List.mem_append_left _ listed, member⟩
      rw [if_pos before, if_pos torn]
      split <;> rfl
    · rw [if_neg before]
      refine if_congr ⟨?_, ?_⟩ rfl rfl
      · rintro ⟨q, listed, member⟩
        rw [members listed] at member
        exact ⟨q, List.mem_append_right _ listed, member⟩
      · rintro ⟨q, listed, member⟩
        obtain earlier | now := List.mem_append.mp listed
        · exact absurd ⟨q, earlier, member⟩ before
        · rw [← members now] at member
          exact ⟨q, now, member⟩
  case frame => exact second.frame.trans first.frame
  case directory => exact second.directory.trans first.directory
  case stamp => exact second.stamp.trans first.stamp
  case going => exact second.going ∘ first.going

/-- One patch torn down, its purge waiting. -/
theorem tornDown_teardown (unasked : s.work ≠ some .halt) (reason : EndReason) (r : Requester) :
    TornDown s (s.teardown p reason r).1 [p] [p] where
  within := List.Subset.refl _
  freed q listed free := absurd listed free
  waits q listed := by
    rw [List.mem_singleton] at listed
    subst listed
    obtain ⟨members, -⟩ := teardown_lists (s := s) (p := q) reason r
    exact ⟨teardown_state reason r, members⟩
  others q other := by
    rw [List.mem_singleton] at other
    have floor := teardown_floor (s := s) (p := p) reason r q
    rw [if_neg other] at floor
    exact ⟨teardown_others reason r other, floor, teardown_sublist reason r q⟩
  legs l := by
    rw [teardown_leg_fixed]
    exact if_congr (by simp) rfl rfl
  frame := teardown_frame reason r
  directory := teardown_directory _ p reason r
  stamp := stamp_of_noticed (teardown_noticed unasked reason r)
  going going := teardown_going going reason r

theorem freePatch_patch (q : PatchId) : (s.freePatch p).patch q = if q = p then {} else s.patch q := patch_modPatch ..

/-- A patch whose purge is complete becomes FREE (R68). -/
theorem TornDown.freePatch (torn : TornDown s t ps ws) (listed : p ∈ ps) :
    TornDown s (t.freePatch p) ps (ws.filter (· != p)) := by
  constructor
  case within => exact fun q listed => torn.within (List.mem_of_mem_filter listed)
  case freed =>
    intro q named free
    rw [freePatch_patch]
    split
    · rfl
    next other => exact torn.freed q named fun waits => free (List.mem_filter.mpr ⟨waits, bne_iff_ne.mpr other⟩)
  case waits =>
    intro q waits
    obtain ⟨before, other⟩ := List.mem_filter.mp waits
    rw [freePatch_patch, if_neg (bne_iff_ne.mp other)]
    exact torn.waits q before
  case others =>
    intro q other
    rw [freePatch_patch, if_neg (by rintro rfl; exact other listed)]
    exact torn.others q other
  case legs => intro l; rw [freePatch_leg]; exact torn.legs l
  case frame => rw [freePatch_routes, torn.frame]
  case directory => rw [freePatch_directory, torn.directory]
  case stamp => rw [freePatch_link, torn.stamp]
  case going => rw [freePatch_context]; exact torn.going

/-! ## The requests that wait for resets -/

/-- A RESET PATCHES with these patches left: in progress, or answered once none is left (R76). -/
def ResetStands (h : Header) (before : List Reply) (t : State) : List PatchId → Prop
  | [] => t.link.inProgress = none ∧ t.replies = before ++ replyTo h 0x03 [0x00]
  | left => t.link.inProgress = some ⟨.reset, h, .resetPatches left⟩ ∧ t.replies = before

theorem resetStands_of_left {before : List Reply} (left : ps ≠ []) : ResetStands h before t ps ↔
    t.link.inProgress = some ⟨.reset, h, .resetPatches ps⟩ ∧ t.replies = before := by
  cases ps with
  | nil => exact absurd rfl left
  | cons p rest => exact Iff.rfl

/-- Notices leave a request as it stands. -/
theorem ResetStands.noticed {before : List Reply} (stands : ResetStands h before t ps) (noticed : Noticed t.link u.link) :
    ResetStands h before u ps := by
  have progress := inProgress_of_noticed noticed
  have replies := replies_of_link noticed.quiet
  cases ps with
  | nil => exact ⟨progress.trans stands.1, replies.trans stands.2⟩
  | cons p rest => exact ⟨progress.trans stands.1, replies.trans stands.2⟩

/-- A patch reset is struck from the patches left; the last completes the request. -/
theorem ResetStands.patchReset {before : List Reply} (stands : ResetStands h before t ps) (left : p ∈ ps) :
    ResetStands h before (t.patchReset p) (ps.filter (· != p)) := by
  obtain ⟨progress, replies⟩ := (resetStands_of_left (List.ne_nil_of_mem left)).mp stands
  have begun : (t.freePatch p).link.inProgress = some ⟨.reset, h, .resetPatches ps⟩ := by rw [freePatch_link, progress]
  have still : (t.freePatch p).replies = before := by rw [State.replies, freePatch_link]; exact replies
  have work : (t.freePatch p).work = some (.resetPatches ps) := by rw [State.work, begun] <;> rfl
  unfold State.patchReset
  dsimp only
  rw [work]
  dsimp only
  cases rest : ps.filter (· != p) with
  | nil =>
    obtain ⟨idle, answered⟩ := finish_ends begun .ok []
    exact ⟨idle, by rw [answered, still] <;> rfl⟩
  | cons q others =>
    refine ⟨?_, still⟩
    show Option.map _ (t.freePatch p).link.inProgress = _
    rw [begun] <;> rfl

theorem ResetStands.unasked {before : List Reply} (stands : ResetStands h before t ps) (left : ps ≠ []) :
    t.work ≠ some .halt := by
  obtain ⟨progress, -⟩ := (resetStands_of_left left).mp stands
  rw [State.work, progress]
  nofun

theorem patchReset_stamp : (t.patchReset p).link.stamp = t.link.stamp := by
  unfold State.patchReset
  dsimp only
  split
  · split
    · rw [finish_stamp, freePatch_link]
    · exact (congrArg Link.stamp (freePatch_link t p) :)
  · exact congrArg Link.stamp (freePatch_link t p)

theorem TornDown.patchReset (torn : TornDown s t ps ws) (listed : p ∈ ps) :
    TornDown s (t.patchReset p) ps (ws.filter (· != p)) := by
  have freed := torn.freePatch (p := p) listed
  refine freed.told ?_ (by simp) (by simp) (by simp) (by simp) (by rw [patchReset_stamp, freePatch_link])
  unfold State.patchReset
  dsimp only
  split
  · split
    · rw [finish_patches]
    · rfl
  · rfl

/-! ## The teardowns of RESET PATCHES -/

/-- The patches of RESET PATCHES whose purges wait for the frame's done. -/
def State.resetWaits (s : State) : List PatchId → List PatchId
  | [] => []
  | p :: rest =>
    let r := s.teardown p .reset (.resetPatches p)
    if r.2 then (r.1.patchReset p).resetWaits rest else p :: r.1.resetWaits rest

section
variable (rest : List PatchId)

theorem resetEach_of_done (done : (s.teardown p .reset (.resetPatches p)).2 = true) :
    s.resetEach (p :: rest) = ((s.teardown p .reset (.resetPatches p)).1.patchReset p).resetEach rest ∧
      s.resetWaits (p :: rest) = ((s.teardown p .reset (.resetPatches p)).1.patchReset p).resetWaits rest := by
  rw [State.resetEach, State.resetWaits]
  rw [done]
  exact ⟨rfl, rfl⟩

theorem resetEach_of_waits (waits : (s.teardown p .reset (.resetPatches p)).2 = false) :
    s.resetEach (p :: rest) = (s.teardown p .reset (.resetPatches p)).1.resetEach rest ∧
      s.resetWaits (p :: rest) = p :: (s.teardown p .reset (.resetPatches p)).1.resetWaits rest := by
  rw [State.resetEach, State.resetWaits]
  rw [waits]
  exact ⟨rfl, rfl⟩

end

/-- RESET PATCHES tears its patches down, and stands for those whose purges wait (R76). -/
theorem tornDown_resetEach {before : List Reply} (once : (ws ++ ps).Nodup) (stands : ResetStands h before s (ws ++ ps)) :
    TornDown s (s.resetEach ps) ps (s.resetWaits ps) ∧
      ResetStands h before (s.resetEach ps) (ws ++ s.resetWaits ps) := by
  induction ps generalizing s ws with
  | nil => exact ⟨.refl s, stands⟩
  | cons p rest ih =>
    have unasked : s.work ≠ some .halt := stands.unasked (by simp)
    have torn := tornDown_teardown (p := p) unasked .reset (.resetPatches p)
    have told := stands.noticed (teardown_noticed (p := p) unasked .reset (.resetPatches p))
    obtain ⟨-, later, across⟩ := List.nodup_append.mp once
    obtain ⟨fresh, -⟩ := List.nodup_cons.mp later
    have apart : [p].Disjoint rest := List.disjoint_singleton.mpr fresh |>.symm
    have onceRest : (ws ++ rest).Nodup := once.sublist ((List.sublist_cons_self p rest).append_left ws)
    cases done : (s.teardown p .reset (.resetPatches p)).2 with
    | true =>
      obtain ⟨run, waits⟩ := resetEach_of_done rest done
      have struck : (ws ++ p :: rest).filter (· != p) = ws ++ rest := by
        have keep {ls : List PatchId} (absent : p ∉ ls) : ls.filter (· != p) = ls :=
          List.filter_eq_self.mpr fun q listed => bne_iff_ne.mpr fun same => absent (same ▸ listed)
        rw [List.filter_append, keep fun listed => across p listed p (List.mem_cons_self ..) rfl,
          List.filter_cons_of_neg (by simp), keep fresh]
      have now := told.patchReset (p := p) (by simp)
      have freed := torn.patchReset (p := p) (List.mem_singleton_self p)
      rw [struck] at now
      rw [List.filter_cons_of_neg (by simp), List.filter_nil] at freed
      obtain ⟨tornRest, standsRest⟩ := ih onceRest now
      rw [run, waits]
      exact ⟨freed.trans tornRest apart, standsRest⟩
    | false =>
      obtain ⟨run, waits⟩ := resetEach_of_waits rest done
      have regroup (ls : List PatchId) : ws ++ p :: ls = (ws ++ [p]) ++ ls := by simp
      rw [regroup] at once told
      obtain ⟨tornRest, standsRest⟩ := ih once told
      rw [run, waits, regroup]
      exact ⟨torn.trans tornRest apart, standsRest⟩

/-- Between frames no purge of RESET PATCHES waits (R140). -/
theorem resetWaits_of_idle (idle : s.routes.frame = none) : s.resetWaits ps = [] := by
  induction ps generalizing s with
  | nil => rfl
  | cons p rest ih =>
    obtain ⟨-, waits⟩ := resetEach_of_done (s := s) rest (teardown_atOnce idle _ _)
    rw [waits]
    refine ih ?_
    rw [patchReset_routes, teardown_frame, idle]

/-! ## The purges of RESET PATCHES in a frame -/

/-- RESET PATCHES in a frame, with no playback, has asked for the purges of ws, and has changed no other entry. -/
structure AsksResets (s t : State) (ws : List PatchId) : Prop where
  clips : t.clips = s.clips
  frame : t.routes.frame = s.routes.frame
  purges : t.routes.purges = s.routes.purges ++ ws.map fun q => ⟨.resetPatches q, s.purged (.tag q)⟩
  entries : ∀ e, t.entry e =
    if ∃ q ∈ ws, e ∈ s.purged (.tag q) then { s.entry e with state := .purging } else s.entry e

theorem mem_purged_tag (e : EntryId) : e ∈ s.purged (.tag p) ↔ (s.entry e).live = true ∧ (s.entry e).tag = some p := by
  rw [mem_purged]
  simp [Selector.selects]

theorem AsksResets.purged (asks : AsksResets s t ws) {q : PatchId} (other : q ∉ ws) :
    t.purged (.tag q) = s.purged (.tag q) := by
  refine List.filter_congr fun e _ => ?_
  rw [asks.entries]
  split
  next marked =>
    obtain ⟨p, listed, taken⟩ := marked
    obtain ⟨-, tag⟩ := (mem_purged_tag e).mp taken
    have apart : p ≠ q := by
      rintro rfl
      exact other listed
    simp [Selector.selects, tag, apart]
  next => rfl

theorem AsksResets.trans (first : AsksResets s t ws) (second : AsksResets t u vs) (apart : ws.Disjoint vs) :
    AsksResets s u (ws ++ vs) where
  clips := second.clips.trans first.clips
  frame := second.frame.trans first.frame
  purges := by
    have same : (vs.map fun q => (⟨.resetPatches q, t.purged (.tag q)⟩ : Purge)) =
        vs.map fun q => ⟨.resetPatches q, s.purged (.tag q)⟩ :=
      List.map_congr_left fun q listed => by rw [first.purged fun before => apart before listed]
    rw [second.purges, first.purges, same, List.map_append, List.append_assoc]
  entries e := by
    have later : (∃ q ∈ vs, e ∈ t.purged (.tag q)) ↔ ∃ q ∈ vs, e ∈ s.purged (.tag q) :=
      exists_congr fun q => and_congr_right fun listed => by rw [first.purged fun before => apart before listed]
    rw [second.entries, first.entries]
    by_cases now : ∃ q ∈ vs, e ∈ s.purged (.tag q)
    · have both : ∃ q ∈ ws ++ vs, e ∈ s.purged (.tag q) := by
        obtain ⟨q, listed, taken⟩ := now
        exact ⟨q, List.mem_append_right _ listed, taken⟩
      rw [if_pos (later.mpr now), if_pos both]
      split <;> rfl
    · rw [if_neg fun taken => now (later.mp taken)]
      refine if_congr ⟨?_, ?_⟩ rfl rfl
      · rintro ⟨q, listed, taken⟩
        exact ⟨q, List.mem_append_left _ listed, taken⟩
      · rintro ⟨q, listed, taken⟩
        obtain before | here := List.mem_append.mp listed
        · exact ⟨q, before, taken⟩
        · exact absurd ⟨q, here, taken⟩ now

theorem AsksResets.patchReset (asks : AsksResets s t ws) : AsksResets s (t.patchReset p) ws where
  clips := (patchReset_clips _ _).trans asks.clips
  frame := by rw [patchReset_routes, asks.frame]
  purges := by rw [patchReset_routes, asks.purges]
  entries e := by rw [patchReset_entry, asks.entries]

theorem asksResets_teardown (frame : s.routes.frame.isSome = true) (unplayed : s.context.phase = .none) :
    AsksResets s (s.teardown p .reset (.resetPatches p)).1
      (if (s.teardown p .reset (.resetPatches p)).2 then [] else [p]) := by
  obtain ⟨clips, -, purges, takes, entries⟩ := teardown_inFrame (p := p) frame unplayed .reset (.resetPatches p)
  cases done : (s.teardown p .reset (.resetPatches p)).2 with
  | true =>
    have none : s.purged (.tag p) = [] := by
      by_contra some
      rw [takes some] at done
      cases done
    rw [done] at purges
    refine ⟨clips, teardown_frame _ _, purges, fun e => ?_⟩
    rw [entries, none]
    simp
  | false =>
    rw [done] at purges
    exact ⟨clips, teardown_frame _ _, purges, fun e => by rw [entries]; simp⟩

/-- What RESET PATCHES asks of the routes in a frame, with no playback (R67, R138). -/
theorem asksResets_resetEach (once : ps.Nodup) (frame : s.routes.frame.isSome = true)
    (unplayed : s.context.phase = .none) : AsksResets s (s.resetEach ps) (s.resetWaits ps) ∧
      (s.resetWaits ps).Sublist ps ∧ ∀ q ∈ ps, s.purged (.tag q) ≠ [] → q ∈ s.resetWaits ps := by
  induction ps generalizing s with
  | nil =>
    refine ⟨⟨rfl, rfl, (List.append_nil _).symm, fun e => (if_neg ?_).symm⟩, List.Sublist.refl _, nofun⟩
    rintro ⟨q, listed, -⟩
    cases listed
  | cons p rest ih =>
    obtain ⟨fresh, onceRest⟩ := List.nodup_cons.mp once
    have asks := asksResets_teardown (p := p) frame unplayed
    obtain ⟨-, -, -, takes, -⟩ := teardown_inFrame (p := p) frame unplayed .reset (.resetPatches p)
    have apart {ls : List PatchId} (within : ls.Sublist rest) : [p].Disjoint ls := by
      rw [List.disjoint_comm, List.disjoint_singleton]
      exact fun listed => fresh (within.subset listed)
    have distinct {q : PatchId} (listed : q ∈ rest) : q ∉ [p] := fun same =>
      fresh (List.mem_singleton.mp same ▸ listed)
    cases done : (s.teardown p .reset (.resetPatches p)).2 with
    | true =>
      obtain ⟨run, waits⟩ := resetEach_of_done rest done
      rw [done] at asks
      have reset := asks.patchReset (p := p)
      obtain ⟨asksRest, within, all⟩ := ih (s := (s.teardown p .reset (.resetPatches p)).1.patchReset p) onceRest
        (by rw [reset.frame]; exact frame) (by rw [context_of_clips reset.clips]; exact unplayed)
      rw [run, waits]
      refine ⟨reset.trans asksRest (List.disjoint_nil_left _), within.cons p, fun q listed some => ?_⟩
      obtain rfl | listed := List.mem_cons.mp listed
      · rw [takes some] at done
        cases done
      · exact all q listed (by rwa [reset.purged List.not_mem_nil])
    | false =>
      obtain ⟨run, waits⟩ := resetEach_of_waits rest done
      rw [done] at asks
      obtain ⟨asksRest, within, all⟩ := ih (s := (s.teardown p .reset (.resetPatches p)).1) onceRest
        (by rw [asks.frame]; exact frame) (by rw [context_of_clips asks.clips]; exact unplayed)
      rw [run, waits]
      refine ⟨asks.trans asksRest (apart within), within.cons₂ p, fun q listed some => ?_⟩
      · obtain rfl | later := List.mem_cons.mp listed
        · exact List.mem_cons_self ..
        · exact List.mem_cons_of_mem _ (all q later (by rwa [asks.purged (distinct later)]))

end Sys2Proof.Machine

/-! SUPPORT. RESET PATCHES, from its taking to the frame's done that completes it (R76). -/

namespace Sys2Proof.Machine

variable {s t u : State} {h : Header} {p : PatchId} {l : LegId} {ps ws : List PatchId}

/-- Requesters are told in the order of their purges (R139). -/
theorem exec_frameDone {taken : List Taken} (settled : s.Settled) (frame : s.routes.frame = some taken)
    (before : Option Nat) : exec (.frameDone before) s =
      .next (s.routes.purges.foldl (fun s r => s.tell r.requester) (s.handedOver taken before)) := by
  obtain ⟨purges, -⟩ := delivered_same (s := s) taken before
  rw [exec_of_settled settled rfl, takeFrameDone_of_frame frame, completePurges_eq, purges] <;> rfl

/-- The patches of RESET PATCHES become FREE as their purges complete, and the last completes the request (R76). -/
theorem foldl_patchReset {before : List Reply} (once : ws.Nodup) (stands : ResetStands h before s ws) :
    ResetStands h before (ws.foldl State.patchReset s) [] ∧
      (∀ q, (ws.foldl State.patchReset s).patch q = if q ∈ ws then {} else s.patch q) ∧
      (ws.foldl State.patchReset s).routes = s.routes := by
  induction ws generalizing s with
  | nil => exact ⟨stands, fun q => (if_neg List.not_mem_nil).symm, rfl⟩
  | cons p rest ih =>
    obtain ⟨fresh, onceRest⟩ := List.nodup_cons.mp once
    have struck : (p :: rest).filter (· != p) = rest := by
      rw [List.filter_cons_of_neg (by simp)]
      exact List.filter_eq_self.mpr fun q listed => bne_iff_ne.mpr fun same => fresh (same ▸ listed)
    have now := stands.patchReset (p := p) (List.mem_cons_self ..)
    rw [struck] at now
    obtain ⟨standsThen, patches, routes⟩ := ih onceRest now
    refine ⟨standsThen, fun q => ?_, routes.trans (patchReset_routes _ _)⟩
    rw [List.foldl_cons, patches, patchReset_patch]
    by_cases here : q = p
    · simp [here]
    · simp [here]

theorem TornDown.of_begin {k : Kind} {w : Work} (torn : TornDown (s.begin h k w) t ps ws) : TornDown s t ps ws :=
  ⟨torn.within, torn.freed, torn.waits, torn.others, torn.legs, torn.frame, torn.directory, torn.stamp, torn.going⟩

/-- The ACTIVE patches. -/
def State.activePatches (s : State) : List PatchId := allPatches.filter fun p => (s.patch p).state = .active

theorem mem_activePatches (q : PatchId) : q ∈ s.activePatches ↔ (s.patch q).state = .active := by
  simp [State.activePatches, allPatches]

theorem activePatches_nodup : s.activePatches.Nodup := (List.nodup_finRange 12).filter _

/-- The state in which the teardowns of RESET PATCHES begin. -/
abbrev State.resetting (s : State) (h : Header) : State := s.begin h .reset (.resetPatches s.activePatches)

theorem takeResetPatches_of_none (inactive : s.activePatches = []) :
    takeResetPatches h s = s.grantReply h .reset [] := by
  unfold takeResetPatches
  rw [show (allPatches.filter fun p => (s.patch p).state = .active) = [] from inactive]

theorem takeResetPatches_of_some (active : s.activePatches ≠ []) :
    takeResetPatches h s = (s.resetting h).resetEach s.activePatches := by
  obtain ⟨p, rest, named⟩ := List.exists_cons_of_ne_nil active
  unfold takeResetPatches
  rw [show (allPatches.filter fun p => (s.patch p).state = .active) = p :: rest from named]
  dsimp only
  rw [State.resetting, named]

/-- RESET PATCHES tears every ACTIVE patch down, and stands for those whose purges wait. -/
theorem exec_resetPatches (ready : s.Ready h) : ∃ t, exec (.resetPatches h) s = .next t ∧
    TornDown s t s.activePatches ((s.resetting h).resetWaits s.activePatches) ∧
    ResetStands h s.replies t ((s.resetting h).resetWaits s.activePatches) ∧
    (s.activePatches ≠ [] → t = (s.resetting h).resetEach s.activePatches) := by
  by_cases inactive : s.activePatches = []
  · have idle : s.link.inProgress = none := Ready.idle ready
    obtain ⟨t, done, silent, replies⟩ :=
      row_grants (i := .resetPatches h) ready rfl (takeResetPatches_of_none inactive) idle
    have legs := congrArg State.legs silent
    have patches := congrArg State.patches silent
    have frame := congrArg (fun u : State => u.routes.frame) silent
    have directory := congrArg State.directory silent
    have context := congrArg State.context silent
    have progress := congrArg (fun u : State => u.link.inProgress) silent
    rw [inactive]
    exact ⟨t, done, (TornDown.refl s).told patches legs frame directory context (stamp_of_silent silent),
      ⟨progress.trans idle, replies⟩, fun active => absurd rfl active⟩
  · have run := exec_of_begin (i := .resetPatches h) ready rfl
    rw [takeResetPatches_of_some inactive] at run
    have stands : ResetStands h s.replies (s.resetting h) ([] ++ s.activePatches) :=
      (resetStands_of_left inactive).mpr ⟨rfl, rfl⟩
    obtain ⟨torn, standsThen⟩ := tornDown_resetEach activePatches_nodup stands
    exact ⟨_, run, torn.of_begin, standsThen, fun _ => rfl⟩

/-- Once every ACTIVE patch is torn down none is ACTIVE, and no leg is a member. -/
theorem TornDown.none_active (law : PatchLaw s) (torn : TornDown s t s.activePatches ws) :
    (∀ p, (t.patch p).state ≠ .active ∧ (t.patch p).members = []) ∧ (∀ l, (t.leg l).membership = none) ∧
      ∀ l, (s.leg l).membership.isSome = true → (t.leg l).talk = false := by
  have left (l : LegId) (joined : (s.leg l).membership.isSome = true) :
      (t.leg l).fixed = (s.leg l).released.fixed := by
    obtain ⟨p, member⟩ := Option.isSome_iff_exists.mp joined
    have listed := (law.membership l p).mp member
    have active := law.active p (.inl (List.ne_nil_of_mem listed))
    rw [torn.legs, if_pos ⟨p, (mem_activePatches p).mpr active, listed⟩]
  refine ⟨fun p => ?_, fun l => ?_, fun l joined => congrArg Leg.talk (left l joined)⟩
  · by_cases active : (s.patch p).state = .active
    · by_cases waits : p ∈ ws
      · obtain ⟨state, members⟩ := torn.waits p waits
        rw [state]
        exact ⟨nofun, members⟩
      · rw [torn.freed p ((mem_activePatches p).mpr active) waits]
        exact ⟨nofun, rfl⟩
    · have fixed := (torn.others p fun listed => active ((mem_activePatches p).mp listed)).fixed
      obtain ⟨members, -⟩ := law.lists_empty active
      rw [state_of_fixed fixed, members_of_fixed fixed]
      exact ⟨active, members⟩
  · by_cases joined : (s.leg l).membership.isSome = true
    · exact (congrArg Leg.membership (left l joined) :)
    · have fixed := torn.legs l
      have apart : (s.leg l).membership = none := by simpa using joined
      split at fixed
      · exact membership_of_fixed fixed
      · exact (membership_of_fixed fixed).trans apart

theorem settings_of_fixed {x y : Leg} (same : x.fixed = y.fixed) : x.config = y.config ∧ x.binding = y.binding ∧
    x.park = y.park ∧ x.aux = y.aux ∧ x.emergency = y.emergency :=
  ⟨show x.fixed.config = y.fixed.config by rw [same], show x.fixed.binding = y.fixed.binding by rw [same],
    show x.fixed.park = y.fixed.park by rw [same], show x.fixed.aux = y.fixed.aux by rw [same],
    show x.fixed.emergency = y.fixed.emergency by rw [same]⟩

/-- What a teardown leaves of a leg's record (R8, R67). -/
theorem TornDown.leg_kept (torn : TornDown s t ps ws) (l : LegId) : (t.leg l).config = (s.leg l).config ∧
    (t.leg l).binding = (s.leg l).binding ∧ (t.leg l).park = (s.leg l).park ∧ (t.leg l).aux = (s.leg l).aux ∧
    (t.leg l).emergency = (s.leg l).emergency := by
  have fixed := torn.legs l
  split at fixed
  · have kept := settings_of_fixed fixed
    exact kept
  · exact settings_of_fixed fixed

/-- The frame's done completes RESET PATCHES (R76, R139). -/
theorem frameDone_resets {taken : List Taken} (torn : TornDown s t ps ws) (once : ws.Nodup) (some : ws ≠ [])
    (stands : ResetStands h s.replies t ws) (asks : AsksResets s t ws) (going : t.context.endDue = none)
    (frame : t.routes.frame = .some taken) (alone : s.routes.purges = []) (before : Option Nat) :
    ∃ u, exec (.frameDone before) t = .next u ∧ u.routes.frame = none ∧ u.routes.purges = [] ∧
      (∀ q ∈ ps, u.patch q = {}) ∧ (∀ q ∈ ws, ∀ e ∈ s.purged (.tag q), u.entry e = {}) ∧ u.link.inProgress = none ∧
      u.replies = s.replies ++ replyTo h 0x03 [0x00] := by
  obtain ⟨progress, -⟩ := (resetStands_of_left some).mp stands
  obtain ⟨link, -, -, ended, none, -⟩ := handedOver_others (s := t) taken before
  have run := exec_frameDone (settled_of_begun progress nofun going) frame before
  have purges : t.routes.purges = ws.map fun q => ⟨.resetPatches q, s.purged (.tag q)⟩ := by
    rw [asks.purges, alone, List.nil_append]
  have tells : t.routes.purges.foldl (fun s r => s.tell r.requester) (t.handedOver taken before) =
      ws.foldl State.patchReset (t.handedOver taken before) := by
    rw [purges, List.foldl_map] <;> rfl
  rw [tells] at run
  have standsThen : ResetStands h s.replies (t.handedOver taken before) ws :=
    stands.noticed (by rw [link]; exact .refl _)
  obtain ⟨⟨idle, replies⟩, patches, routes⟩ := foldl_patchReset once standsThen
  refine ⟨_, run, by rw [routes, ended], by rw [routes, none], fun q listed => ?_, fun q waits e taken => ?_, idle, replies⟩
  · rw [patches]
    split
    · rfl
    next free => rw [handedOver_patch, torn.freed q listed free] <;> rfl
  · have entry := congrArg (fun r : Routes => r.entries.get e) routes
    refine entry.trans ((handedOver_entry _ _ e).trans (if_pos ?_))
    rw [purges, List.mem_flatMap]
    exact ⟨_, List.mem_map_of_mem waits, taken⟩

/-- Settles O6: between frames every teardown completes at once, and in a frame the request waits for its purges. -/
theorem resetPatchesFreesEveryActivePatch : Obligations.ResetPatchesFreesEveryActivePatch := by
  refine ⟨fun h s ready idle law => ?_, fun h p s ready inFrame unplayed law active takes => ?_⟩
  · obtain ⟨t, run, torn, stands, -⟩ := exec_resetPatches ready
    rw [resetWaits_of_idle (s := s.resetting h) idle] at torn stands
    obtain ⟨inactive, apart, unlatched⟩ := torn.none_active law
    refine ⟨t, run, fun p => (inactive p).1, fun p other => ?_, apart, unlatched, torn.leg_kept, torn.directory, torn.stamp,
      stands.1, stands.2⟩
    obtain ⟨fixed, floor, -⟩ := torn.others p fun listed => other ((mem_activePatches p).mp listed)
    exact ⟨fixed, floor⟩
  · have due : s.context.endDue = none := Ready.due ready
    obtain ⟨taken, frame⟩ := Option.isSome_iff_exists.mp inFrame
    have listed := (mem_activePatches p).mpr active
    obtain ⟨t, run, torn, stands, same⟩ := exec_resetPatches ready
    obtain ⟨asks, within, all⟩ :=
      asksResets_resetEach (s := s.resetting h) activePatches_nodup inFrame unplayed
    rw [← same (List.ne_nil_of_mem listed)] at asks
    have waits := all p listed takes
    have asked : AsksResets s t ((s.resetting h).resetWaits s.activePatches) :=
      ⟨asks.clips, asks.frame, asks.purges, asks.entries⟩
    have once : ((s.resetting h).resetWaits s.activePatches).Nodup := activePatches_nodup.sublist within
    obtain ⟨inactive, apart, -⟩ := torn.none_active law
    set ws := (s.resetting h).resetWaits s.activePatches
    obtain ⟨progress, replies⟩ := (resetStands_of_left (List.ne_nil_of_mem waits)).mp stands
    obtain ⟨state, -⟩ := torn.waits p waits
    refine ⟨t, run, replies, by rw [progress] <;> rfl, state, inactive, apart, ?_, fun e took => ?_, fun alone before => ?_⟩
    · rw [asked.purges]
      exact List.mem_append_right _ (List.mem_map.mpr ⟨p, waits, rfl⟩)
    · rw [asked.entries, if_pos ⟨p, waits, took⟩]
    · obtain ⟨u, done, ended, none, freed, entries, answered⟩ := frameDone_resets torn once (List.ne_nil_of_mem waits)
        stands asked (torn.going due) (torn.frame.trans frame) alone before
      exact ⟨u, done, ended, none, fun q active => freed q ((mem_activePatches q).mpr active), entries p waits, answered⟩

end Sys2Proof.Machine

/-! SUPPORT. The walks of DISBAND and REVOKE and the next tick: how many purges are asked for before it (R139; log 7), and
the walk of DISBAND between frames (R65–R68). -/

namespace Sys2Proof.Machine

variable {s t u : State} {h : Header} {p : PatchId} {l : LegId} {ps qs ws : List PatchId}

/-! ## The purges asked for before the next tick -/

/-- How many purges a walk asks for between frames before the next tick; none where no tick comes first. The first purge of
a request is not one of those counted by the walk (R139; log 7). -/
def State.budget (s : State) (further : Bool) : Option Nat :=
  if further then s.walk.beforeTick else s.walk.beforeTick.map (· + 1)

/-- The place of the next tick moved. -/
abbrev State.paced (s : State) (before : Option Nat) : State := { s with walk := { s.walk with beforeTick := before } }

theorem asksPurge_of_budget {further : Bool} (left : s.budget further ≠ some 0) :
    ∃ before, (s.paced before).budget true = (s.budget further).map (· - 1) ∧
      (s.routes.frame = none → s.asksPurge further = some (s.paced before)) := by
  unfold State.budget at left ⊢
  unfold State.asksPurge
  cases further with
  | false =>
    refine ⟨s.walk.beforeTick, ?_, fun _ => rfl⟩
    show s.walk.beforeTick = (s.walk.beforeTick.map (· + 1)).map (· - 1)
    cases s.walk.beforeTick <;> rfl
  | true =>
    refine ⟨s.walk.beforeTick.map (· - 1), rfl, fun idle => ?_⟩
    rw [idle]
    cases place : s.walk.beforeTick with
    | none =>
      have same : s.paced none = s := by rw [← place]
      exact congrArg some same.symm
    | some n =>
      cases n with
      | zero => exact absurd place left
      | succ n => rfl

theorem asksPurge_of_spent {further : Bool} (idle : s.routes.frame = none) (spent : s.budget further = some 0) :
    s.asksPurge further = none := by
  unfold State.budget at spent
  unfold State.asksPurge
  cases further with
  | false =>
    cases place : s.walk.beforeTick with
    | none => simp [place] at spent
    | some n => simp [place] at spent
  | true =>
    have place : s.walk.beforeTick = some 0 := spent
    rw [idle, place]
    rfl

/-! ## The walk of DISBAND -/

theorem TornDown.paced {before : Option Nat} (torn : TornDown (s.paced before) t ps ws) : TornDown s t ps ws :=
  ⟨torn.within, torn.freed, torn.waits, torn.others, torn.legs, torn.frame, torn.directory, torn.stamp, torn.going⟩

/-- The test of DISBAND on a patch that others' teardowns have left (R66). -/
theorem TornDown.holdsEmergency (torn : TornDown s t ps ws) {q : PatchId} (other : q ∉ ps) :
    t.holdsEmergency q = s.holdsEmergency q := by
  unfold State.holdsEmergency
  rw [members_of_fixed (torn.others q other).fixed]
  refine List.any_congr rfl fun l => ?_
  obtain ⟨-, -, -, -, emergency⟩ := torn.leg_kept l
  rw [emergency]

theorem TornDown.state (torn : TornDown s t ps ws) {q : PatchId} (other : q ∉ ps) :
    (t.patch q).state = (s.patch q).state := state_of_fixed (torn.others q other).fixed

/-- A patch passes the test of DISBAND (R65, R66). -/
def State.passes (s : State) (force : Bool) (q : PatchId) : Prop := force = true ∨ s.holdsEmergency q = false

/-- The ACTIVE ones of a list of patches. -/
def State.activeOf (s : State) (ps : List PatchId) : List PatchId := ps.filter fun q => (s.patch q).state = .active

theorem mem_activeOf (q : PatchId) : q ∈ s.activeOf ps ↔ q ∈ ps ∧ (s.patch q).state = .active := by
  simp [State.activeOf]

theorem activeOf_congr (same : ∀ q ∈ ps, (t.patch q).state = (s.patch q).state) : t.activeOf ps = s.activeOf ps :=
  List.filter_congr fun q listed => by rw [same q listed]

theorem activeOf_cons_active (active : (s.patch p).state = .active) : s.activeOf (p :: ps) = p :: s.activeOf ps :=
  List.filter_cons_of_pos (by simpa using active)

theorem activeOf_cons_other (other : (s.patch p).state ≠ .active) : s.activeOf (p :: ps) = s.activeOf ps :=
  List.filter_cons_of_neg (by simpa using other)

/-- DISBAND passes over the patches of its range that are not ACTIVE (R65). -/
theorem disbandWalk_over {force further : Bool} (post : List PatchId) (done : Nat)
    (inactive : ∀ q ∈ ps, (s.patch q).state ≠ .active) :
    s.disbandWalk force further (ps ++ post) done = s.disbandWalk force further post (done + ps.length) := by
  induction ps generalizing done with
  | nil => rfl
  | cons p rest ih =>
    rw [List.cons_append, disbandWalk_passes (inactive p (List.mem_cons_self ..)),
      ih _ fun q listed => inactive q (List.mem_cons_of_mem _ listed), List.length_cons]
    congr 1
    omega

/-- A patch torn down whose purge has completed is FREE (R68). -/
theorem tornDown_freed (unasked : s.work ≠ some .halt) (reason : EndReason) (r : Requester) :
    TornDown s ((s.teardown p reason r).1.freePatch p) [p] [] ∧
      Noticed s.link ((s.teardown p reason r).1.freePatch p).link := by
  have freed := (tornDown_teardown (p := p) unasked reason r).freePatch (List.mem_singleton_self p)
  rw [List.filter_cons_of_neg (by simp), List.filter_nil] at freed
  refine ⟨freed, ?_⟩
  rw [freePatch_link]
  exact teardown_noticed unasked reason r

/-- Between frames DISBAND tears down every ACTIVE patch that it reaches, passes its test, and asks for the purge of before
the next tick (R65, R67, R139). -/
theorem disbandWalk_through {force further : Bool} (post : List PatchId) (done : Nat) (once : ps.Nodup)
    (idle : s.routes.frame = none) (unasked : s.work ≠ some .halt)
    (passes : ∀ q ∈ ps, (s.patch q).state = .active → s.passes force q)
    (affords : ∀ n ∈ s.budget further, (s.activeOf ps).length ≤ n) :
    ∃ u more, s.disbandWalk force further (ps ++ post) done = u.disbandWalk force more post (done + ps.length) ∧
      TornDown s u (s.activeOf ps) [] ∧ Noticed s.link u.link ∧ u.walk.due = s.walk.due ∧
      u.budget more = (s.budget further).map (· - (s.activeOf ps).length) := by
  induction ps generalizing s further done with
  | nil => exact ⟨s, further, rfl, .refl s, .refl _, rfl, by simp [State.activeOf]⟩
  | cons p rest ih =>
    obtain ⟨fresh, onceRest⟩ := List.nodup_cons.mp once
    have count : done + 1 + rest.length = done + (p :: rest).length := by
      rw [List.length_cons]
      omega
    by_cases active : (s.patch p).state = .active
    · rw [activeOf_cons_active active] at affords ⊢
      have left : s.budget further ≠ some 0 := fun spent => by
        have none := affords 0 spent
        simp at none
      obtain ⟨before, spends, asks⟩ := asksPurge_of_budget left
      let v := s.paced before
      let w := (v.teardown p .disbanded .disband).1.freePatch p
      obtain ⟨tornV, noticed⟩ := tornDown_freed (s := v) (p := p) unasked .disbanded .disband
      have torn : TornDown s w [p] [] := tornV.paced
      have alone {q : PatchId} (listed : q ∈ rest) : q ∉ [p] := fun same => fresh (List.mem_singleton.mp same ▸ listed)
      have same : w.activeOf rest = s.activeOf rest := activeOf_congr fun q listed => torn.state (alone listed)
      have walk : w.walk = v.walk := (freePatch_walk _ _).trans (teardown_walk _ _ _ _)
      have budget : w.budget true = (s.budget further).map (· - 1) := by
        rw [← spends, State.budget, walk] <;> rfl
      have step : s.disbandWalk force further (p :: rest ++ post) done =
          w.disbandWalk force true (rest ++ post) (done + 1) := by
        rw [List.cons_append, disbandWalk_tearsDown active (passes p (List.mem_cons_self ..) active) (asks idle),
          if_pos (teardown_atOnce (s := v) idle _ _)]
      obtain ⟨u, more, run, tornRest, noticedRest, due, spent⟩ := ih (s := w) (further := true) (done + 1) onceRest
        (torn.frame.trans idle) (by rw [work_of_noticed (s := v) noticed]; exact unasked)
        (fun q listed going => (passes q (List.mem_cons_of_mem _ listed) (torn.state (alone listed) ▸ going)).imp id
          (torn.holdsEmergency (alone listed)).trans)
        (fun n room => by
          rw [budget, Option.mem_map] at room
          obtain ⟨m, room, rfl⟩ := room
          have bound := affords m room
          rw [List.length_cons] at bound
          rw [same]
          omega)
      rw [same] at tornRest spent
      refine ⟨u, more, ?_, torn.trans tornRest ?_, noticed.trans noticedRest, due.trans (by rw [walk] : w.walk.due = v.walk.due), ?_⟩
      · rw [step, run, count]
      · rw [List.disjoint_comm, List.disjoint_singleton]
        exact fun listed => fresh ((mem_activeOf p).mp listed).1
      · rw [spent, budget, Option.map_map, List.length_cons]
        refine congrArg (fun f => Option.map f _) (funext fun n => ?_)
        show n - 1 - _ = n - (_ + 1)
        omega
    · rw [activeOf_cons_other active] at affords ⊢
      obtain ⟨u, more, run, rest⟩ := ih (further := further) (done + 1) onceRest idle unasked
        (fun q listed => passes q (List.mem_cons_of_mem _ listed)) affords
      refine ⟨u, more, ?_, rest⟩
      rw [List.cons_append, disbandWalk_passes active, run, count]

end Sys2Proof.Machine

/-! SUPPORT. DISBAND: its range, and what of it is done when the walk ends, halts or waits for the tick (R65–R68). -/

namespace Sys2Proof.Machine

variable {s t u : State} {h : Header} {p q : PatchId} {l : LegId} {ps ws : List PatchId}

/-! ## Lists -/

/-- An increasing list, split at one of its members. -/
theorem split_of_mem {n : Nat} {ls : List (Fin n)} {a : Fin n} (sorted : ls.Pairwise (· < ·)) (listed : a ∈ ls) :
    ls = ls.filter (· < a) ++ a :: ls.filter (a < ·) := by
  obtain ⟨pre, post, rfl⟩ := List.append_of_mem listed
  obtain ⟨-, later, across⟩ := List.pairwise_append.mp sorted
  obtain ⟨above, -⟩ := List.pairwise_cons.mp later
  have below (b : Fin n) (before : b ∈ pre) : b < a := across b before a (List.mem_cons_self ..)
  have preSelf : pre.filter (· < a) = pre := List.filter_eq_self.mpr fun b before => decide_eq_true (below b before)
  have preNone : pre.filter (a < ·) = [] := List.filter_eq_nil_iff.mpr fun b before => by simp [(below b before).le]
  have postSelf : post.filter (a < ·) = post := List.filter_eq_self.mpr fun b after => decide_eq_true (above b after)
  have postNone : post.filter (· < a) = [] := List.filter_eq_nil_iff.mpr fun b after => by simp [(above b after).le]
  simp [preSelf, preNone, postSelf, postNone]

/-- A list split at the place of one of the members that a test lets through. -/
theorem split_of_filter {α : Type} {test : α → Bool} {ls : List α} {m : Nat} {a : α} (place : (ls.filter test)[m]? = some a) :
    ∃ pre post, ls = pre ++ a :: post ∧ pre.filter test = (ls.filter test).take m ∧ test a = true := by
  induction ls generalizing m with
  | nil => simp at place
  | cons b rest ih =>
    cases passes : test b with
    | false =>
      rw [List.filter_cons_of_neg (by simp [passes])] at place ⊢
      obtain ⟨pre, post, split, taken, passed⟩ := ih place
      refine ⟨b :: pre, post, by rw [split, List.cons_append], ?_, passed⟩
      rw [List.filter_cons_of_neg (by simp [passes]), taken]
    | true =>
      rw [List.filter_cons_of_pos passes] at place ⊢
      cases m with
      | zero =>
        obtain rfl : b = a := by simpa using place
        exact ⟨[], rest, rfl, rfl, passes⟩
      | succ m =>
        obtain ⟨pre, post, split, taken, passed⟩ := ih (m := m) (by simpa using place)
        refine ⟨b :: pre, post, by rw [split, List.cons_append], ?_, passed⟩
        rw [List.filter_cons_of_pos passes, taken, List.take_succ_cons]

/-! ## Ranges -/

theorem patchRange_sorted (first count : Nat) : (patchRange first count).Pairwise (· < ·) :=
  (List.pairwise_lt_finRange 12).filter _

theorem mem_patchRange {first count : Nat} (positive : 1 ≤ first) (q : PatchId) :
    q ∈ patchRange (first - 1) count ↔ first ≤ q.val + 1 ∧ q.val + 1 < first + count := by
  unfold patchRange
  rw [List.mem_filter]
  simp only [allPatches, List.mem_finRange, true_and, decide_eq_true_eq]
  omega

theorem length_patchRange {first count : Nat} (within : first + count ≤ 12) : (patchRange first count).length = count := by
  have all : ∀ f c : Fin 13, f.val + c.val ≤ 12 → (patchRange f.val c.val).length = c.val := by decide
  exact all ⟨first, by omega⟩ ⟨count, by omega⟩ within

/-- The part of a range below one of its patches is a range. -/
theorem patchRange_below {first count : Nat} (listed : p.val < first + count) :
    (patchRange first count).filter (· < p) = patchRange first (p.val - first) := by
  unfold patchRange
  rw [List.filter_filter]
  refine List.filter_congr fun q _ => ?_
  rw [← Bool.decide_and]
  refine decide_eq_decide.mpr ?_
  rw [Fin.lt_def]
  omega

/-! ## What the patches torn down leave -/

/-- The ACTIVE ones of a list of patches, torn down and FREE again. -/
theorem TornDown.inside (torn : TornDown s t (s.activeOf ps) []) (law : PatchLaw s) (listed : q ∈ ps) :
    (t.patch q).state ≠ .active ∧ (t.patch q).members = [] ∧ ((s.patch q).state = .active → (t.patch q).fixed = {}) := by
  by_cases active : (s.patch q).state = .active
  · rw [torn.freed q ((mem_activeOf q).mpr ⟨listed, active⟩) List.not_mem_nil]
    exact ⟨nofun, rfl, fun _ => rfl⟩
  · have fixed := (torn.others q fun reached => active ((mem_activeOf q).mp reached).2).fixed
    obtain ⟨members, -⟩ := law.lists_empty active
    rw [state_of_fixed fixed, members_of_fixed fixed]
    exact ⟨active, members, fun now => absurd now active⟩

theorem TornDown.outside (torn : TornDown s t (s.activeOf ps) ws) (other : q ∉ ps) :
    (t.patch q).fixed = (s.patch q).fixed ∧ (t.patch q).floor = (s.patch q).floor := by
  obtain ⟨fixed, floor, -⟩ := torn.others q fun reached => other ((mem_activeOf q).mp reached).1
  exact ⟨fixed, floor⟩

/-- The members of the patches torn down leave them, and no other leg changes its membership. -/
theorem TornDown.membership (torn : TornDown s t (s.activeOf ps) ws) (law : PatchLaw s) (l : LegId) :
    (t.leg l).membership = match (s.leg l).membership with
      | some q => if q ∈ ps then none else some q
      | none => none := by
  have fixed := torn.legs l
  cases joined : (s.leg l).membership with
  | none =>
    split at fixed
    · exact membership_of_fixed fixed
    · exact (membership_of_fixed fixed).trans joined
  | some q =>
    have member := (law.membership l q).mp joined
    have active := law.active q (.inl (List.ne_nil_of_mem member))
    dsimp only
    by_cases listed : q ∈ ps
    · rw [if_pos ⟨q, (mem_activeOf q).mpr ⟨listed, active⟩, member⟩] at fixed
      rw [if_pos listed]
      exact membership_of_fixed fixed
    · have stays : ¬ ∃ r ∈ s.activeOf ps, l ∈ (s.patch r).members := by
        rintro ⟨r, reached, named⟩
        have same : some r = some q := ((law.membership l r).mpr named).symm.trans joined
        obtain rfl := Option.some.inj same
        exact listed ((mem_activeOf r).mp reached).1
      rw [if_neg stays] at fixed
      rw [if_neg listed]
      exact (membership_of_fixed fixed).trans joined

/-! ## The walk from its beginning -/

section
variable {first count options : Byte}

/-- The range of DISBAND, in ascending order. -/
abbrev disbandRange (first count : Byte) : List PatchId := patchRange (first.toNat - 1) count.toNat

/-- A DISBAND begun. -/
abbrev State.disbandBegun (s : State) (h : Header) (first count options : Byte) : State :=
  s.begin h .disband (.disband none (disbandRange first count) 0 (options.getLsbD 0))

theorem exec_disband (ready : s.Ready h) (low : 1 ≤ first.toNat) (some : 1 ≤ count.toNat)
    (high : first.toNat + count.toNat ≤ 13) : exec (.disband h first count options) s =
      .next ((s.disbandBegun h first count options).disbandWalk (options.getLsbD 0) false (disbandRange first count) 0) := by
  rw [exec_of_begin ready rfl]
  exact congrArg _ (if_pos ⟨low, some, high⟩)

theorem holdsEmergency_eq_false_iff :
    s.holdsEmergency q = false ↔ ∀ l ∈ (s.patch q).members, (s.leg l).emergency = none := by
  simp [State.holdsEmergency]

/-- DISBAND between frames, from its taking to the patches of its range that are left. -/
theorem disband_through {pre post : List PatchId} (ready : s.Ready h) (low : 1 ≤ first.toNat) (some : 1 ≤ count.toNat)
    (high : first.toNat + count.toNat ≤ 13) (idle : s.routes.frame = none)
    (split : disbandRange first count = pre ++ post)
    (passes : ∀ q ∈ pre, (s.patch q).state = .active → s.passes (options.getLsbD 0) q)
    (paced : s.Paced (s.activeOf pre).length) :
    ∃ u more, exec (.disband h first count options) s =
        .next (u.disbandWalk (options.getLsbD 0) more post pre.length) ∧ TornDown s u (s.activeOf pre) [] ∧
      u.link.inProgress = .some ⟨.disband, h, .disband none (disbandRange first count) 0 (options.getLsbD 0)⟩ ∧
      u.replies = s.replies ∧ u.walk.due = s.walk.due ∧
      u.budget more = (s.walk.beforeTick.map (· + 1)).map (· - (s.activeOf pre).length) := by
  have once : (pre ++ post).Nodup := split ▸ (patchRange_sorted _ _).imp fun below => below.ne
  obtain ⟨u, more, walk, torn, noticed, due, budget⟩ := disbandWalk_through
    (s := s.disbandBegun h first count options) (further := false) post 0 (List.nodup_append.mp once).1 idle
    (nofun) passes fun n room => by
      obtain ⟨m, place, rfl⟩ := Option.mem_map.mp room
      exact paced m place
  obtain ⟨begun, replies⟩ := begun_of_noticed noticed
  refine ⟨u, more, ?_, torn.of_begin, begun, replies, due, budget⟩
  rw [exec_disband ready low some high, ← Nat.zero_add pre.length, ← walk, split]

theorem finish_torn {r : Result} {results : List Byte} (torn : TornDown s t ps ws) :
    TornDown s (t.finish r results) ps ws :=
  torn.told (finish_patches _ _ _) (finish_legs _ _ _) (by rw [finish_routes]) (finish_directory _ _ _)
    (finish_context _ _ _) (finish_stamp _ _)

/-- DISBAND between frames whose purges are all asked for before the next tick (R65, R68). -/
theorem disband_completes (ready : s.Ready h) (low : 1 ≤ first.toNat) (some : 1 ≤ count.toNat)
    (high : first.toNat + count.toNat ≤ 13) (idle : s.routes.frame = none)
    (passes : ∀ q ∈ disbandRange first count, (s.patch q).state = .active → s.passes (options.getLsbD 0) q)
    (paced : s.Paced (s.activeOf (disbandRange first count)).length) :
    ∃ t, exec (.disband h first count options) s = .next t ∧ t.link.inProgress = none ∧
      t.replies = s.replies ++ replyTo h 0x33 [0x00, count, 0] ∧
      TornDown s t (s.activeOf (disbandRange first count)) [] := by
  obtain ⟨u, more, run, torn, begun, replies, -⟩ := disband_through ready low some high idle
    (List.append_nil _).symm passes paced
  obtain ⟨ends, answered⟩ := finish_ends begun .ok [byte (disbandRange first count).length, 0]
  refine ⟨_, run, ends, answered.trans ?_, finish_torn torn⟩
  rw [replies, length_patchRange (by omega), byte, BitVec.ofNat_toNat, BitVec.setWidth_eq] <;> rfl

/-- DISBAND between frames that halts at a member's emergency (R66). -/
theorem disband_halts {pre post : List PatchId} (ready : s.Ready h) (low : 1 ≤ first.toNat) (some : 1 ≤ count.toNat)
    (high : first.toNat + count.toNat ≤ 13) (unforced : options.getLsbD 0 = false) (idle : s.routes.frame = none)
    (split : disbandRange first count = pre ++ p :: post)
    (passes : ∀ q ∈ pre, (s.patch q).state = .active → s.passes (options.getLsbD 0) q)
    (paced : s.Paced (s.activeOf pre).length) (active : (s.patch p).state = .active) (held : s.holdsEmergency p = true) :
    ∃ t, exec (.disband h first count options) s = .next t ∧ t.link.inProgress = none ∧
      t.replies = s.replies ++ replyTo h 0x33 [0x01, byte pre.length, byte (p.val + 1)] ∧
      TornDown s t (s.activeOf pre) [] := by
  obtain ⟨u, more, run, torn, begun, replies, -⟩ := disband_through ready low some high idle split passes paced
  have once : (pre ++ p :: post).Nodup := split ▸ (patchRange_sorted _ _).imp fun below => below.ne
  obtain ⟨-, -, across⟩ := List.nodup_append.mp once
  have apart : p ∉ s.activeOf pre := fun reached =>
    across p ((mem_activeOf p).mp reached).1 p (List.mem_cons_self ..) rfl
  obtain ⟨ends, answered⟩ := finish_ends begun .halted [byte pre.length, byte (patchNumber p)]
  rw [unforced, disbandWalk_halts ((torn.state apart).trans active) ((torn.holdsEmergency apart).trans held)] at run
  refine ⟨_, run, ends, answered.trans ?_, finish_torn torn⟩
  rw [replies] <;> rfl

end

end Sys2Proof.Machine

/-! SUPPORT. The tick that a walk waits for, and the walk of DISBAND in a frame (R65–R68, R132, R139). -/

namespace Sys2Proof.Machine

variable {s t u : State} {h : Header} {p q : PatchId} {l : LegId} {ps ws : List PatchId}

/-! ## The tick -/

/-- What the tick leaves of the request in progress, with its walk, and of the patches and legs that the walk looks at. -/
structure TickLeaves (s t : State) : Prop where
  progress : t.link.inProgress = s.link.inProgress
  walk : t.walk = s.walk
  patches : ∀ q, (t.patch q).fixed = (s.patch q).fixed
  membership : ∀ l, (t.leg l).membership = (s.leg l).membership
  emergency : ∀ l, (t.leg l).emergency = (s.leg l).emergency

theorem TickLeaves.trans (first : TickLeaves s t) (second : TickLeaves t u) : TickLeaves s u where
  progress := second.progress.trans first.progress
  walk := second.walk.trans first.walk
  patches q := (second.patches q).trans (first.patches q)
  membership l := (second.membership l).trans (first.membership l)
  emergency l := (second.emergency l).trans (first.emergency l)

theorem TickLeaves.work (leaves : TickLeaves s t) : t.work = s.work := by
  rw [State.work, leaves.progress, State.work]

theorem Arbitrates.tickLeaves (work : Arbitrates s t) : TickLeaves s t where
  progress := arbitrates_inProgress work
  walk := work.kept.walk
  patches q := (work.kept.patches q).1
  membership l := membership_of_fixed (work.kept.legs l)
  emergency l := by
    obtain ⟨-, -, -, -, emergency⟩ := settings_of_fixed (work.kept.legs l)
    exact emergency

theorem tickLeaves_of_tables (progress : t.link.inProgress = s.link.inProgress) (walk : t.walk = s.walk)
    (patches : ∀ q, (t.patch q).fixed = (s.patch q).fixed) (legs : t.legs = s.legs) : TickLeaves s t :=
  ⟨progress, walk, patches, fun l => by rw [leg_of_legs legs], fun l => by rw [leg_of_legs legs]⟩

theorem tickLeaves_purgeOverlays (unasked : s.work ≠ some .halt) : TickLeaves s (s.purgeOverlays p) := by
  refine tickLeaves_of_tables (inProgress_of_noticed (purgeOverlays_noticed unasked)) ?_
    (fun q => (purgeOverlays_patch p q).1) ?_
  all_goals
    unfold State.purgeOverlays
    dsimp only
    split
  · rw [overlayEnded_walk, purge_walk]
  · rw [purge_walk]
  · rw [overlayEnded_legs, purge_legs]
  · rw [purge_legs]

theorem tickLeaves_endBeforeTick (unasked : s.work ≠ some .halt) : TickLeaves s s.endBeforeTick := by
  have still : TickLeaves s s := tickLeaves_of_tables rfl rfl (fun _ => rfl) rfl
  unfold State.endBeforeTick State.takeDueEnd State.endPlayback
  split
  · split
    next r due =>
      split
      · exact (arbitrates_endTake r).tickLeaves
      · unfold State.endOverlay
        split
        next p named =>
          have ending : TickLeaves s (s.enterEnding r) := tickLeaves_of_tables rfl rfl (fun _ => rfl) rfl
          exact ending.trans (tickLeaves_purgeOverlays unasked)
        next => exact still
    next => exact still
  · exact still

section
variable (inbound : Vector Block 20) (order : List LegId)

/-- The state of a tick in which a walk that waited for it goes on. -/
def State.tickTaken (s : State) : State := (((s.framed inbound).endBeforeTick).setPeaks inbound).voxEvents order

theorem exec_frameStart_walk (settled : s.Settled) (idle : s.routes.frame = none) :
    exec (.frameStart inbound order) s = .next (s.tickTaken inbound order).walkOn := by
  rw [exec_of_settled settled rfl, takeFrameStart, idle] <;> rfl

theorem framed_work : (s.framed inbound).work = s.work := by
  rw [State.work, framed_eq] <;> rfl

theorem tickLeaves_tickTaken (unasked : s.work ≠ some .halt) : TickLeaves s (s.tickTaken inbound order) := by
  have framed : TickLeaves s (s.framed inbound) := by
    refine ⟨by rw [framed_eq], framed_walk inbound, fun q => ?_, fun l => ?_, fun l => ?_⟩
    · rw [framed_patch] <;> rfl
    · rw [framed_leg] <;> rfl
    · rw [framed_leg] <;> rfl
  have ended : TickLeaves (s.framed inbound) (s.framed inbound).endBeforeTick :=
    tickLeaves_endBeforeTick (by rwa [framed_work])
  obtain ⟨walk, -, patches, -, link, -⟩ := setPeaks_others (s := (s.framed inbound).endBeforeTick) inbound
  have peaked : TickLeaves (s.framed inbound).endBeforeTick ((s.framed inbound).endBeforeTick.setPeaks inbound) := by
    refine ⟨by rw [link], walk, fun q => by rw [patch_of_patches patches], fun l => ?_, fun l => ?_⟩
    · rw [setPeaks_leg]
    · rw [setPeaks_leg]
  exact ((framed.trans ended).trans peaked).trans (arbitrates_voxEvents order).tickLeaves

theorem tickTaken_frame : (s.tickTaken inbound order).routes.frame.isSome = true := by
  rw [State.tickTaken, (frameStart_keeps inbound order).frame, framed_frame]
  rfl

end

/-- The test of DISBAND on a patch in the tick (R66). -/
theorem TickLeaves.holdsEmergency (leaves : TickLeaves s t) (q : PatchId) : t.holdsEmergency q = s.holdsEmergency q := by
  unfold State.holdsEmergency
  rw [members_of_fixed (leaves.patches q)]
  exact List.any_congr rfl fun l => by rw [leaves.emergency]

/-! ## The walk of DISBAND in a frame -/

theorem tornDown_setWork (w : Work) (torn : TornDown s t ps ws) : TornDown s (t.setWork w) ps ws :=
  torn.told (setWork_patches _ _) (setWork_legs _ _) rfl (setWork_directory _ _) (setWork_context _ _) rfl


/-- In a frame the walk of DISBAND waits for no tick: it tears patches of its list down, and ends, halts, or waits for a
purge (R65–R68, R139). -/
theorem disbandWalk_inFrame {force further : Bool} (done : Nat) (once : ps.Nodup) (frame : s.routes.frame.isSome = true)
    (unasked : s.work ≠ some .halt) : ∃ qs ws, TornDown s (s.disbandWalk force further ps done) qs ws ∧ qs ⊆ ps ∧
      (s.disbandWalk force further ps done).walk = s.walk ∧
      ∀ p ∈ ps.head?, (s.patch p).state = .active → s.passes force p → p ∈ qs := by
  induction ps generalizing s further done with
  | nil => exact ⟨[], [], finish_torn (.refl s), List.Subset.refl _, finish_walk _ _ _, nofun⟩
  | cons p rest ih =>
    obtain ⟨fresh, onceRest⟩ := List.nodup_cons.mp once
    have none : ([] : List PatchId) ⊆ p :: rest := List.nil_subset _
    by_cases active : (s.patch p).state = .active
    · by_cases passes : s.passes force p
      · have step := disbandWalk_tearsDown (force := force) (rest := rest) (done := done) active passes
          (asksPurge_inFrame s (further := further) frame)
        have walk : (s.teardown p .disbanded .disband).1.walk = s.walk := teardown_walk _ _ _ _
        rw [step]
        split
        next complete =>
          obtain ⟨freed, noticed⟩ := tornDown_freed (p := p) unasked .disbanded .disband
          obtain ⟨qs, ws, torn, within, still, -⟩ := ih (further := true) (done + 1) onceRest
            (s := (s.teardown p .disbanded .disband).1.freePatch p) (by rw [freed.frame]; exact frame)
            (by rw [work_of_noticed noticed]; exact unasked)
          have apart : [p].Disjoint qs := by
            rw [List.disjoint_comm, List.disjoint_singleton]
            exact fun listed => fresh (within listed)
          refine ⟨[p] ++ qs, [] ++ ws, freed.trans torn apart, List.cons_subset_cons p within, ?_, fun q first _ _ => ?_⟩
          · rw [still, freePatch_walk, walk]
          · obtain rfl : p = q := by simpa using first
            exact List.mem_cons_self ..
        next =>
          refine ⟨[p], [p], tornDown_setWork _ (tornDown_teardown unasked _ _), by simp, ?_, fun q first _ _ => ?_⟩
          · rw [setWork_walk, walk]
          · simpa using Eq.symm (by simpa using first : p = q)
      · obtain ⟨unforced, held⟩ : force = false ∧ s.holdsEmergency p = true := by
          simpa [State.passes] using passes
        subst unforced
        rw [disbandWalk_halts active held]
        refine ⟨[], [], finish_torn (.refl s), none, finish_walk _ _ _, fun q first _ passing => ?_⟩
        obtain rfl : p = q := by simpa using first
        exact absurd passing passes
    · rw [disbandWalk_passes active]
      obtain ⟨qs, ws, torn, within, still, -⟩ := ih (further := further) (done + 1) onceRest frame unasked
      refine ⟨qs, ws, torn, fun q listed => List.mem_cons_of_mem _ (within listed), still, fun q first going => ?_⟩
      obtain rfl : p = q := by simpa using first
      exact absurd going active

end Sys2Proof.Machine

/-! SUPPORT. DISBAND: a walk that waits, for the tick or for its purge, goes on (R65–R68, R139). -/

namespace Sys2Proof.Machine

variable {s t u : State} {h : Header} {p q : PatchId} {l : LegId} {ps ws : List PatchId}

/-! ## A walk that waits for the tick -/

theorem waitForTick_waits {k : Kind} {work : Work} (begun : s.link.inProgress = some ⟨k, h, work⟩) (w : Work) :
    (s.waitForTick w).link.inProgress = some ⟨k, h, w⟩ ∧ (s.waitForTick w).replies = s.replies ∧
      (s.waitForTick w).walk.due = true := by
  refine ⟨?_, rfl, rfl⟩
  show s.link.inProgress.map _ = _
  rw [begun] <;> rfl

theorem tornDown_waitForTick (w : Work) (torn : TornDown s t ps ws) : TornDown s (t.waitForTick w) ps ws :=
  torn.told rfl rfl rfl rfl rfl rfl

/-- The walk that waited for the tick no longer does. -/
abbrev State.walkTaken (s : State) : State := { s with walk := { s.walk with due := false } }

theorem walkOn_of_disband {force : Bool} {done : Nat} (due : s.walk.due = true)
    (work : s.work = some (.disband none ps done force)) : s.walkOn = s.walkTaken.disbandWalk force false ps done := by
  have still : s.walkTaken.work = some (.disband none ps done force) := work
  rw [State.walkOn, if_pos due]
  dsimp only
  rw [still]

/-- A DISBAND that waited for the tick goes on in its step, with the patch it had come to (R139; log 7). -/
theorem disband_goesOn {force : Bool} {done : Nat} {k : Kind}
    (begun : s.link.inProgress = some ⟨k, h, .disband none (q :: ps) done force⟩) (due : s.walk.due = true)
    (going : s.context.endDue = none) (idle : s.routes.frame = none) (once : (q :: ps).Nodup)
    (active : (s.patch q).state = .active) (passes : s.passes force q) (inbound : Vector Block 20)
    (order : List LegId) : ∃ v, exec (.frameStart inbound order) s = .next v ∧ v.walk.due = false ∧
      (v.patch q).state ≠ .active ∧ (v.patch q).members = [] ∧
      ∀ l ∈ (s.patch q).members, (v.leg l).membership = none := by
  have work : s.work = some (.disband none (q :: ps) done force) := by rw [State.work, begun] <;> rfl
  have unasked : s.work ≠ some .halt := by rw [work]; nofun
  have leaves := tickLeaves_tickTaken inbound order unasked
  have frame := tickTaken_frame (s := s) inbound order
  have run := exec_frameStart_walk inbound order (settled_of_begun begun nofun going) idle
  set w := s.tickTaken inbound order
  rw [walkOn_of_disband (by rw [leaves.walk, due]) (leaves.work.trans work)] at run
  have passing : w.passes force q := passes.imp id (leaves.holdsEmergency q).trans
  obtain ⟨qs, ws, torn, -, walk, first⟩ := disbandWalk_inFrame (s := w.walkTaken) (force := force) (further := false) done
    once frame (by rw [show w.walkTaken.work = w.work from rfl, leaves.work]; exact unasked)
  have reached : q ∈ qs := first q rfl ((state_of_fixed (leaves.patches q)).trans active) passing
  have members : (w.patch q).members = (s.patch q).members := members_of_fixed (leaves.patches q)
  have gone : (((w.walkTaken.disbandWalk force false (q :: ps) done).patch q).state ≠ .active) ∧
      ((w.walkTaken.disbandWalk force false (q :: ps) done).patch q).members = [] := by
    by_cases waits : q ∈ ws
    · obtain ⟨state, none⟩ := torn.waits q waits
      rw [state]
      exact ⟨nofun, none⟩
    · rw [torn.freed q reached waits]
      exact ⟨nofun, rfl⟩
  refine ⟨_, run, by rw [walk], gone.1, gone.2, fun l member => ?_⟩
  have fixed := torn.legs l
  rw [if_pos ⟨q, reached, show l ∈ (w.patch q).members from members ▸ member⟩] at fixed
  exact membership_of_fixed fixed

section
variable {first count options : Byte}

/-- DISBAND between frames that reaches more patches than it asks purges for before the next tick (R139; log 7). -/
theorem disband_waits {n : Nat} (ready : s.Ready h) (low : 1 ≤ first.toNat) (some : 1 ≤ count.toNat)
    (high : first.toNat + count.toNat ≤ 13) (idle : s.routes.frame = none) (place : s.walk.beforeTick = .some n)
    (passes : ∀ q ∈ s.activeOf (disbandRange first count), s.passes (options.getLsbD 0) q)
    (next : (s.activeOf (disbandRange first count))[n + 1]? = .some q) :
    ∃ t post done, exec (.disband h first count options) s = .next t ∧ t.replies = s.replies ∧
      t.link.inProgress = .some ⟨.disband, h, .disband none (q :: post) done (options.getLsbD 0)⟩ ∧ t.walk.due = true ∧
      TornDown s t ((s.activeOf (disbandRange first count)).take (n + 1)) [] ∧ (q :: post).Nodup ∧
      t.context.endDue = none ∧ t.routes.frame = none ∧ q ∉ (s.activeOf (disbandRange first count)).take (n + 1) ∧
      (s.patch q).state = .active := by
  have due : s.context.endDue = none := Ready.due ready
  have reached := (mem_activeOf q).mp (List.mem_of_getElem? next)
  obtain ⟨pre, post, split, taken, -⟩ := split_of_filter next
  have taken : s.activeOf pre = (s.activeOf (disbandRange first count)).take (n + 1) := taken
  have once : (pre ++ q :: post).Nodup := split ▸ (patchRange_sorted _ _).imp fun below => below.ne
  obtain ⟨-, later, across⟩ := List.nodup_append.mp once
  have fresh : q ∉ s.activeOf pre := fun listed =>
    across q ((mem_activeOf q).mp listed).1 q (List.mem_cons_self ..) rfl
  have length : (s.activeOf pre).length = n + 1 := by
    obtain ⟨within, -⟩ := List.getElem?_eq_some_iff.mp next
    rw [taken, List.length_take]
    omega
  have all (r : PatchId) (listed : r ∈ pre) (active : (s.patch r).state = .active) : s.passes (options.getLsbD 0) r := by
    refine passes r ((mem_activeOf r).mpr ⟨?_, active⟩)
    rw [split]
    exact List.mem_append_left _ listed
  obtain ⟨u, more, run, torn, begun, replies, -, budget⟩ := disband_through ready low some high idle split all
    fun m room => by
      rw [place] at room
      obtain rfl : n = m := by simpa using room
      exact length.le
  have spent : u.budget more = .some 0 := by
    rw [budget, place, length]
    simp
  rw [disbandWalk_waits ((torn.state fresh).trans reached.2)
    ((passes q ((mem_activeOf q).mpr reached)).imp id (torn.holdsEmergency fresh).trans)
    (asksPurge_of_spent (torn.frame.trans idle) spent)] at run
  obtain ⟨waits, same, tick⟩ := waitForTick_waits begun
    (.disband none (q :: post) pre.length (options.getLsbD 0))
  refine ⟨_, post, pre.length, run, same.trans replies, waits, tick, ?_, later, torn.going due, torn.frame.trans idle,
    taken ▸ fresh, reached.2⟩
  rw [← taken]
  exact tornDown_waitForTick _ torn

end

end Sys2Proof.Machine

/-! SUPPORT. DISBAND in a frame that a torn-down patch's entries feed, and DISBAND as a whole (R65–R68). -/

namespace Sys2Proof.Machine

variable {s t u : State} {h : Header} {p q : PatchId} {l : LegId} {ps ws : List PatchId}

/-! ## The frame's done -/

theorem handedOver_leg (taken : List Taken) (before : Option Nat) (l : LegId) :
    (s.handedOver taken before).leg l = (s.leg l).takeFrame l (mix taken l) := by
  obtain ⟨-, -, -, -, -, legs⟩ := purgesFreed_others (s := (s.deliver taken).frameEnded before)
  rw [State.handedOver, State.frameOver, leg_of_legs legs, frameEnded_leg, deliver_leg]

theorem takeFrame_kept (frame : Block) (x : Leg) : (x.takeFrame l frame).emergency = x.emergency ∧
    (x.takeFrame l frame).membership = x.membership ∧ (x.takeFrame l frame).binding = x.binding := by
  unfold Leg.takeFrame
  dsimp only
  split <;> exact ⟨rfl, rfl, rfl⟩

/-- The state in which the walk of DISBAND goes on at the frame's done, with the patch it waited for FREE. -/
def State.disbandResumed (s : State) (taken : List Taken) (before : Option Nat) (p : PatchId) : State :=
  (s.handedOver taken before).freePatch p

section
variable (taken : List Taken) (before : Option Nat)

theorem disbandResumed_patch (q : PatchId) : (s.disbandResumed taken before p).patch q =
    if q = p then {} else { s.patch q with
      chain := (s.patch q).chain.filter fun e => !(s.routes.purges.flatMap Purge.entries).contains e } := by
  rw [State.disbandResumed, freePatch_patch, handedOver_patch]

theorem disbandResumed_other (other : q ≠ p) :
    ((s.disbandResumed taken before p).patch q).fixed = (s.patch q).fixed := by
  rw [disbandResumed_patch, if_neg other]
  rfl

theorem disbandResumed_passes {force : Bool} (other : q ≠ p) (passes : s.passes force q) :
    (s.disbandResumed taken before p).passes force q := by
  refine passes.imp id fun clear => ?_
  rw [holdsEmergency_eq_false_iff] at clear ⊢
  rw [members_of_fixed (disbandResumed_other taken before other)]
  intro l member
  obtain ⟨emergency, -⟩ := takeFrame_kept (l := l) (mix taken l) (s.leg l)
  rw [State.disbandResumed, freePatch_leg, handedOver_leg, emergency, clear l member]

theorem disbandResumed_rest : (s.disbandResumed taken before p).link = s.link ∧
    (s.disbandResumed taken before p).routes.frame = none ∧ (s.disbandResumed taken before p).routes.purges = [] ∧
    (s.disbandResumed taken before p).walk = { s.walk with beforeTick := before } ∧
    (s.disbandResumed taken before p).context = s.context := by
  obtain ⟨link, clips, -, ended, none, walk⟩ := handedOver_others (s := s) taken before
  rw [State.disbandResumed]
  exact ⟨(freePatch_link _ _).trans link, by rw [freePatch_routes, ended], by rw [freePatch_routes, none],
    (freePatch_walk _ _).trans walk, (freePatch_context _ _).trans (context_of_clips clips)⟩

theorem disbandResumed_entry (e : EntryId) : (s.disbandResumed taken before p).entry e =
    if e ∈ s.routes.purges.flatMap Purge.entries then {} else s.entry e := by
  rw [State.disbandResumed, freePatch_entry, handedOver_entry]

end

/-- The frame's done tells a DISBAND whose purge it completes, and the walk goes on (R139). -/
theorem frameDone_resumes {taken : List Taken} {k : Kind} {force : Bool} {done : Nat} {es : List EntryId}
    (begun : s.link.inProgress = some ⟨k, h, .disband (some p) ps done force⟩) (going : s.context.endDue = none)
    (frame : s.routes.frame = some taken) (one : s.routes.purges = [⟨.disband, es⟩]) (before : Option Nat) :
    exec (.frameDone before) s =
      .next ((s.disbandResumed taken before p).disbandWalk force true ps (done + 1)) := by
  obtain ⟨link, -⟩ := handedOver_others (s := s) taken before
  have work : (s.handedOver taken before).work = some (.disband (some p) ps done force) := by
    rw [State.work, link, begun] <;> rfl
  rw [exec_frameDone_of_one (settled_of_begun begun nofun going) frame one before, State.tell, work] <;> rfl

/-! ## DISBAND in a frame -/

section
variable {first count options : Byte}

/-- The state of a DISBAND that waits for the purge of its first ACTIVE patch. -/
def State.disbandHeld (s : State) (h : Header) (first count options : Byte) (p : PatchId) (post : List PatchId)
    (done : Nat) : State :=
  ((s.disbandBegun h first count options).teardown p .disbanded .disband).1.setWork
    (.disband (some p) post done (options.getLsbD 0))

/-- DISBAND in a frame tears its first ACTIVE patch down, and waits for the purge of its entries (R67, R138). -/
theorem disband_holds {pre post : List PatchId} (ready : s.Ready h) (low : 1 ≤ first.toNat) (some : 1 ≤ count.toNat)
    (high : first.toNat + count.toNat ≤ 13) (frame : s.routes.frame.isSome = true) (unplayed : s.context.phase = .none)
    (split : disbandRange first count = pre ++ p :: post) (free : ∀ q ∈ pre, (s.patch q).state ≠ .active)
    (active : (s.patch p).state = .active) (passes : s.passes (options.getLsbD 0) p) (takes : s.purged (.tag p) ≠ []) :
    exec (.disband h first count options) s = .next (s.disbandHeld h first count options p post pre.length) := by
  let b := s.disbandBegun h first count options
  have waits : (b.teardown p .disbanded .disband).2 = false := by
    obtain ⟨-, -, -, waits, -⟩ := teardown_inFrame (s := b) (p := p) frame unplayed .disbanded .disband
    exact waits takes
  rw [exec_disband ready low some high, split, disbandWalk_over (s := b) _ _ free, Nat.zero_add,
    disbandWalk_tearsDown (s := b) active passes (asksPurge_first b)]
  exact congrArg _ (if_neg (by rw [waits]; nofun))

/-- What a DISBAND that waits for its first purge has left (R67, R138). -/
theorem disbandHeld_leaves (post : List PatchId) (done : Nat) (frame : s.routes.frame.isSome = true)
    (unplayed : s.context.phase = .none) (takes : s.purged (.tag p) ≠ []) :
    let t := s.disbandHeld h first count options p post done
    t.replies = s.replies ∧
      t.link.inProgress = .some ⟨.disband, h, .disband (.some p) post done (options.getLsbD 0)⟩ ∧
      (∀ q, t.patch q = if q = p then
        { s.patch p with state := .disbanding, floor := {}, members := [], monitors := [] } else s.patch q) ∧
      (∀ l, (t.leg l).fixed = if l ∈ (s.patch p).members then (s.leg l).released.fixed else (s.leg l).fixed) ∧
      t.routes.purges = s.routes.purges ++ [⟨.disband, s.purged (.tag p)⟩] ∧
      (∀ e ∈ s.purged (.tag p), (t.entry e).state = .purging) ∧ t.routes.frame = s.routes.frame ∧
      t.context = s.context := by
  let b := s.disbandBegun h first count options
  obtain ⟨clips, patches, purges, waits, entries⟩ :=
    teardown_inFrame (s := b) (p := p) frame unplayed .disbanded .disband
  rw [waits takes] at purges
  obtain ⟨begun, replies⟩ := begun_of_noticed (teardown_noticed (s := b) (p := p) nofun .disbanded .disband)
  refine ⟨replies, ?_, fun q => ?_, fun l => ?_, purges, fun e took => ?_, teardown_frame _ _, context_of_clips clips⟩
  · show Option.map _ (b.teardown p .disbanded .disband).1.link.inProgress = _
    rw [begun] <;> rfl
  · exact (patches q).trans (vacated_patch _ q)
  · exact teardown_leg_fixed (s := b) .disbanded .disband l
  · exact congrArg Entry.state ((entries e).trans (if_pos took))

end

end Sys2Proof.Machine

/-! SUPPORT. DISBAND as a whole (R65–R68, R139). -/

namespace Sys2Proof.Machine

variable {s t u : State} {h : Header} {p q : PatchId} {l : LegId} {e : EntryId} {ps ws : List PatchId}

/-! ## FREE entries stay FREE -/

theorem purge_blank (blank : s.entry e = {}) (sel : Selector) (r : Requester) : (s.purge sel r).1.entry e = {} := by
  rw [purge_entry, if_neg, blank]
  rw [mem_purged, blank]
  exact fun taken => Bool.noConfusion taken.1

theorem teardown_blank (blank : s.entry e = {}) (reason : EndReason) (r : Requester) :
    (s.teardown p reason r).1.entry e = {} := by
  have vacated : (s.vacated p reason).entry e = {} :=
    (congrArg (fun r : Routes => r.entries.get e) (vacated_purges reason)).trans blank
  rw [teardown_eq]
  refine purge_blank ?_ _ _
  unfold State.untagged State.purgeOverlays
  dsimp only
  split
  · split
    · rw [overlayEnded_entry]
      exact purge_blank vacated _ _
    · exact purge_blank vacated _ _
  · exact vacated

theorem removeMember_blank (blank : s.entry e = {}) (r : Requester) : (s.removeMember p l r).1.entry e = {} := by
  have still : (s.takenOut p l).entry e = {} := by
    rw [(arbitrates_takenOut p l).kept.idle e (by rw [modPatch_entry, blank]; rfl), modPatch_entry, blank]
  rw [removeMember_eq, modLeg_entry]
  exact purge_blank still _ _

/-- No walk reserves an entry. -/
theorem walksKeep_blank (e : EntryId) : WalksKeep fun s => s.entry e = {} where
  place _ _ blank := blank
  finish s r results blank := (finish_entry s r results e).trans blank
  rests s w _ blank := (setWork_entry s w e).trans blank
  tears _ p reason r blank _ _ := (freePatch_entry _ p e).trans (teardown_blank blank reason r)
  disbands _ p _ _ _ blank _ _ := (setWork_entry _ _ e).trans (teardown_blank blank _ _)
  resets _ p blank _ _ := teardown_blank blank _ _
  unbinds s l left a blank _ := (revokeLeg_entry s l left a e).trans blank
  removes _ l p r blank _ _ := removeMember_blank blank r
  revokes _ l p _ _ _ blank _ _ := (setWork_entry _ _ e).trans (removeMember_blank blank _)

/-! ## The walk at the frame's done -/

section
variable {taken : List Taken} {before : Option Nat} {force : Bool} {done : Nat}

/-- The walk of DISBAND at the frame's done, with every purge it asks for before the next tick (R68, R139). -/
theorem disbandResumed_completes {work : Work} (once : (p :: ps).Nodup)
    (begun : s.link.inProgress = some ⟨.disband, h, work⟩) (unasked : work ≠ .halt)
    (passes : ∀ q ∈ ps, (s.patch q).state = .active → s.passes force q)
    (paced : ∀ n ∈ before, (s.activeOf ps).length ≤ n) :
    let u := (s.disbandResumed taken before p).disbandWalk force true ps done
    u.routes.frame = none ∧ u.routes.purges = [] ∧
      (∀ e ∈ s.routes.purges.flatMap Purge.entries, u.entry e = {}) ∧ u.link.inProgress = none ∧
      u.replies = s.replies ++ replyTo h 0x33 [0x00, byte (done + ps.length), 0] ∧ u.patch p = {} ∧
      ∀ q ∈ s.activeOf ps, u.patch q = {} := by
  obtain ⟨fresh, onceRest⟩ := List.nodup_cons.mp once
  have other {q : PatchId} (listed : q ∈ ps) : q ≠ p := fun same => fresh (same ▸ listed)
  obtain ⟨link, idle, settled, walk, -⟩ := disbandResumed_rest (s := s) (p := p) taken before
  have same (q : PatchId) (other : q ≠ p) := disbandResumed_other (s := s) taken before other
  have tests (q : PatchId) (listed : q ∈ ps) := disbandResumed_passes (s := s) (force := force) taken before (other listed)
  have entry := disbandResumed_entry (s := s) (p := p) taken before
  have freed : (s.disbandResumed taken before p).patch p = {} := (disbandResumed_patch taken before p).trans (if_pos rfl)
  set x := s.disbandResumed taken before p
  have active : x.activeOf ps = s.activeOf ps := activeOf_congr fun q listed => state_of_fixed (same q (other listed))
  obtain ⟨u, more, run, torn, noticed, -, -⟩ := disbandWalk_through (s := x) (force := force) (further := true) [] done
    onceRest idle (by rw [State.work, link, begun]; exact fun halt => unasked (Option.some.inj halt))
    (fun q listed going => tests q listed (passes q listed (state_of_fixed (same q (other listed)) ▸ going)))
    (fun n room => by
      rw [active]
      refine paced n ?_
      have budget : x.budget true = before := by rw [State.budget, walk] <;> rfl
      rwa [budget] at room)
  rw [active] at torn
  rw [List.append_nil] at run
  have between := (walksKeep_over []).disbandWalk force ps true done x ⟨idle, settled, nofun⟩
  have replies := replies_of_link noticed.quiet
  obtain ⟨ends, answered⟩ := finish_ends
    ((inProgress_of_noticed noticed).trans (by rw [link, begun])) .ok [byte (done + ps.length), 0]
  refine ⟨between.frame, between.settled, fun e named => ?_, ?_, ?_, ?_, fun q reached => ?_⟩
  · exact (walksKeep_blank e).disbandWalk force ps true done x ((entry e).trans (if_pos named))
  · rw [run]
    exact ends
  · rw [run]
    refine answered.trans ?_
    rw [replies, State.replies, link] <;> rfl
  · have spared := torn.others p fun reached => fresh ((mem_activeOf p).mp reached).1
    rw [freed] at spared
    rw [run, State.disbandWalk, finish_patch, spared.blank]
  · rw [run, State.disbandWalk, finish_patch, torn.freed q reached List.not_mem_nil]

/-- The walk of DISBAND at a frame's done that no purge is asked for behind waits for the tick (R139; log 7). -/
theorem disbandResumed_waits {pre post : List PatchId} {work : Work} (fresh : p ∉ pre ++ q :: post)
    (begun : s.link.inProgress = some ⟨.disband, h, work⟩) (free : ∀ r ∈ pre, (s.patch r).state ≠ .active)
    (active : (s.patch q).state = .active) (passes : s.passes force q) :
    let u := (s.disbandResumed taken (some 0) p).disbandWalk force true (pre ++ q :: post) done
    u = (s.disbandResumed taken (some 0) p).waitForTick (.disband none (q :: post) (done + pre.length) force) := by
  have other {r : PatchId} (listed : r ∈ pre ++ q :: post) : r ≠ p := fun same => fresh (same ▸ listed)
  obtain ⟨-, idle, -, walk, -⟩ := disbandResumed_rest (s := s) (p := p) taken (some 0)
  have same (r : PatchId) (other : r ≠ p) := disbandResumed_other (s := s) taken (some 0) other
  have tested := disbandResumed_passes (s := s) (force := force) taken (some 0) (other (by simp)) passes
  dsimp only
  rw [disbandWalk_over, disbandWalk_waits ((state_of_fixed (same q (other (by simp)))).trans active) tested]
  · refine asksPurge_of_spent idle ?_
    rw [State.budget, walk] <;> rfl
  · intro r listed
    rw [state_of_fixed (same r (other (List.mem_append_left _ listed)))]
    exact free r listed

end

end Sys2Proof.Machine

/-! SUPPORT. DISBAND in the words of its statement (R65–R68, R139). -/

namespace Sys2Proof.Machine

variable {s t u : State} {h : Header} {p q : PatchId} {l : LegId} {ps ws : List PatchId}

/-! ## The range of the statement -/

/-- The ACTIVE patches that the numbers from first to below last reach. -/
theorem activeOf_range {first last : Nat} (low : 1 ≤ first) (ordered : first ≤ last) :
    ((List.finRange 12).filter fun q => first ≤ q.val + 1 ∧ q.val + 1 < last ∧ (s.patch q).state = .active) =
      s.activeOf (patchRange (first - 1) (last - first)) := by
  unfold State.activeOf patchRange
  rw [List.filter_filter]
  refine List.filter_congr fun q _ => ?_
  rw [← Bool.decide_and]
  refine decide_eq_decide.mpr ⟨fun ⟨above, below, active⟩ => ⟨active, ?_⟩, fun ⟨active, above, below⟩ => ⟨?_, ?_, active⟩⟩
  all_goals omega

/-- The memberships that patches torn down leave, by a test for those patches. -/
theorem TornDown.membership_by (torn : TornDown s t (s.activeOf ps) ws) (law : PatchLaw s) {test : PatchId → Prop}
    [DecidablePred test] (named : ∀ q, q ∈ ps ↔ test q) (l : LegId) :
    (t.leg l).membership = match (s.leg l).membership with
      | some q => if test q then none else some q
      | none => none := by
  rw [torn.membership law l]
  cases (s.leg l).membership with
  | none => rfl
  | some q => exact if_congr (named q) rfl rfl

theorem begin_finish_replied {k : Kind} (idle : s.link.inProgress = none) (w : Work) (r : Result) (results : List Byte) :
    Replied h k.code (r.code :: results) s ((s.begin h k w).finish r results) := by
  obtain ⟨silent, replies⟩ := finish_replied ⟨k, h, w⟩ r results (s := s.begin h k w) rfl
  have same : ({ s with link := { s.link with inProgress := none } } : State) = s := by rw [← idle]
  refine ⟨silent.trans (congrArg State.silent same), replies.trans ?_⟩
  exact congrArg (fun u : State => u.replies ++ _) same

section
variable {first count options : Byte}

/-- The patches of a range pass DISBAND's test, with FORCE or with no member in emergency (R66). -/
theorem passes_of_clear (clear : options.getLsbD 0 = true ∨ ∀ l ∈ (s.patch q).members, (s.leg l).emergency = none) :
    s.passes (options.getLsbD 0) q := clear.imp id holdsEmergency_eq_false_iff.mpr

theorem holdsEmergency_of_flag (flag : ∃ l ∈ (s.patch q).members, (s.leg l).emergency.isSome = true) :
    s.holdsEmergency q = true := List.any_eq_true.mpr flag

theorem mem_disbandRange (low : 1 ≤ first.toNat) (q : PatchId) : q ∈ disbandRange first count ↔
    first.toNat ≤ q.val + 1 ∧ q.val + 1 < first.toNat + count.toNat := mem_patchRange low q

/-- The range of DISBAND split at one of its patches. -/
theorem disbandRange_split (listed : p ∈ disbandRange first count) : disbandRange first count =
    (disbandRange first count).filter (· < p) ++ p :: (disbandRange first count).filter (p < ·) :=
  split_of_mem (patchRange_sorted _ _) listed

theorem disbandRange_below (low : 1 ≤ first.toNat) (listed : p ∈ disbandRange first count) :
    (disbandRange first count).filter (· < p) = patchRange (first.toNat - 1) (p.val + 1 - first.toNat) := by
  obtain ⟨from_, upto⟩ := (mem_disbandRange low p).mp listed
  rw [patchRange_below (by omega)]
  congr 1
  omega

/-- DISBAND of a range with no ACTIVE patch (R65). -/
theorem disband_none (ready : s.Ready h) (low : 1 ≤ first.toNat) (some : 1 ≤ count.toNat)
    (high : first.toNat + count.toNat ≤ 13) (free : ∀ q ∈ disbandRange first count, (s.patch q).state ≠ .active) :
    Completes (.disband h first count options) s h 0x33 [0x00, count, 0] s := by
  have idle : s.link.inProgress = none := Ready.idle ready
  have walk := disbandWalk_over (s := s.disbandBegun h first count options) (force := options.getLsbD 0)
    (further := false) [] 0 free
  have run := exec_disband (options := options) ready low some high
  rw [List.append_nil] at walk
  rw [walk, Nat.zero_add, length_patchRange (by omega), State.disbandWalk, byte, BitVec.ofNat_toNat,
    BitVec.setWidth_eq] at run
  exact ⟨_, run, begin_finish_replied (k := .disband) idle _ .ok _⟩

/-- DISBAND that halts at the first ACTIVE patch of its range (R66). -/
theorem disband_halts_first (ready : s.Ready h) (low : 1 ≤ first.toNat) (some : 1 ≤ count.toNat)
    (high : first.toNat + count.toNat ≤ 13) (unforced : options.getLsbD 0 = false)
    (listed : p ∈ disbandRange first count) (active : (s.patch p).state = .active) (held : s.holdsEmergency p = true)
    (free : ∀ q ∈ (disbandRange first count).filter (· < p), (s.patch q).state ≠ .active) :
    Completes (.disband h first count options) s h 0x33
      [0x01, BitVec.ofNat 8 (p.val + 1 - first.toNat), BitVec.ofNat 8 (p.val + 1)] s := by
  have idle : s.link.inProgress = none := Ready.idle ready
  obtain ⟨from_, upto⟩ := (mem_disbandRange low p).mp listed
  have split := disbandRange_split listed
  have walk := disbandWalk_over (s := s.disbandBegun h first count options) (force := false) (further := false)
    (p :: (disbandRange first count).filter (p < ·)) 0 free
  rw [← split, Nat.zero_add, disbandRange_below low listed, length_patchRange (by omega),
    disbandWalk_halts (s := s.disbandBegun h first count options) active held] at walk
  have run := exec_disband (options := options) ready low some high
  rw [unforced, walk] at run
  exact ⟨_, run, begin_finish_replied (k := .disband) idle _ .halted _⟩

/-! ## DISBAND that waits in a frame -/

/-- The test of DISBAND looks at the members of the patch and their emergency flags (R66). -/
theorem passes_of_kept {force : Bool} (patch : t.patch q = s.patch q)
    (emergency : ∀ l, (t.leg l).emergency = (s.leg l).emergency) (passes : s.passes force q) : t.passes force q := by
  refine passes.imp id fun clear => ?_
  rw [holdsEmergency_eq_false_iff] at clear ⊢
  rw [patch]
  exact fun l member => (emergency l).trans (clear l member)

theorem emergency_of_released {x y : Leg} {member : Prop} [Decidable member]
    (fixed : y.fixed = if member then x.released.fixed else x.fixed) : y.emergency = x.emergency := by
  split at fixed
  all_goals
    obtain ⟨-, -, -, -, emergency⟩ := settings_of_fixed fixed
    exact emergency

section
variable {pre post : List PatchId} {taken : List Taken}

/-- The frame's done completes a DISBAND whose further purges are all asked for before the next tick (R139). -/
theorem disbandHeld_completes (ready : s.Ready h) (low : 1 ≤ first.toNat) (high : first.toNat + count.toNat ≤ 13)
    (frame : s.routes.frame = some taken) (unplayed : s.context.phase = .none)
    (split : disbandRange first count = pre ++ p :: post) (free : ∀ q ∈ pre, (s.patch q).state ≠ .active)
    (active : (s.patch p).state = .active)
    (passes : ∀ q ∈ disbandRange first count, (s.patch q).state = .active → s.passes (options.getLsbD 0) q)
    (takes : s.purged (.tag p) ≠ []) (alone : s.routes.purges = []) (before : Option Nat)
    (paced : ∀ n ∈ before, (s.activeOf (disbandRange first count)).length ≤ n + 1) :
    ∃ u, exec (.frameDone before) (s.disbandHeld h first count options p post pre.length) = .next u ∧
      u.routes.frame = none ∧ u.routes.purges = [] ∧ (∀ e ∈ s.purged (.tag p), u.entry e = {}) ∧
      u.link.inProgress = none ∧ u.replies = s.replies ++ replyTo h 0x33 [0x00, count, 0] ∧
      ∀ q ∈ s.activeOf (disbandRange first count), u.patch q = {} := by
  have due : s.context.endDue = none := Ready.due ready
  have once : (pre ++ p :: post).Nodup := split ▸ (patchRange_sorted _ _).imp fun below => below.ne
  obtain ⟨-, onceRest, -⟩ := List.nodup_append.mp once
  obtain ⟨fresh, -⟩ := List.nodup_cons.mp onceRest
  obtain ⟨replies, begun, patches, legs, purges, -, same, context⟩ := disbandHeld_leaves (s := s) (h := h)
    (options := options) (first := first) (count := count) post pre.length (by rw [frame]; rfl) unplayed takes
  set t := s.disbandHeld h first count options p post pre.length
  have other {q : PatchId} (listed : q ∈ post) : t.patch q = s.patch q :=
    (patches q).trans (if_neg (ne_of_mem_of_not_mem listed fresh))
  have one : t.routes.purges = [⟨.disband, s.purged (.tag p)⟩] := by rw [purges, alone, List.nil_append]
  have reached : s.activeOf (disbandRange first count) = p :: s.activeOf post := by
    have none : s.activeOf pre = [] := List.filter_eq_nil_iff.mpr fun q listed => by simpa using free q listed
    rw [split, State.activeOf, List.filter_append]
    exact (congrArg (· ++ _) none).trans (activeOf_cons_active active)
  have still : t.activeOf post = s.activeOf post := activeOf_congr fun q listed => by rw [other listed]
  have tests (q : PatchId) (listed : q ∈ post) (going : (t.patch q).state = .active) :
      t.passes (options.getLsbD 0) q := by
    rw [other listed] at going
    exact passes_of_kept (other listed) (fun l => emergency_of_released (legs l))
      (passes q (by rw [split]; simp [listed]) going)
  have run := frameDone_resumes begun (by rw [context, due]) (same.trans frame) one before
  obtain ⟨ended, none, entries, idle, answered, freed, others⟩ := disbandResumed_completes (taken := taken)
    (before := before) (done := pre.length + 1) onceRest begun nofun tests fun n room => by
      have bound := paced n room
      rw [reached, List.length_cons] at bound
      rw [still]
      omega
  refine ⟨_, run, ended, none, fun e took => entries e (by rw [one]; simpa using took), idle, ?_, fun q listed => ?_⟩
  · have length : pre.length + 1 + post.length = count.toNat := by
      have all : (disbandRange first count).length = count.toNat := length_patchRange (by omega)
      rw [split, List.length_append, List.length_cons] at all
      omega
    rw [answered, replies, length, byte, BitVec.ofNat_toNat, BitVec.setWidth_eq]
  · rw [reached] at listed
    obtain rfl | listed := List.mem_cons.mp listed
    · exact freed
    · exact others q (still.symm ▸ listed)

/-- The frame's done with no further purge before the next tick: DISBAND waits for the tick, and goes on in its step with
its next ACTIVE patch (R139; log 7). -/
theorem disbandHeld_waits {mid rest : List PatchId} (ready : s.Ready h) (frame : s.routes.frame = some taken)
    (unplayed : s.context.phase = .none) (split : disbandRange first count = pre ++ p :: (mid ++ q :: rest))
    (free : ∀ r ∈ mid, (s.patch r).state ≠ .active) (active : (s.patch q).state = .active)
    (passes : s.passes (options.getLsbD 0) q) (takes : s.purged (.tag p) ≠ []) (alone : s.routes.purges = []) :
    ∃ u, exec (.frameDone (some 0)) (s.disbandHeld h first count options p (mid ++ q :: rest) pre.length) = .next u ∧
      u.routes.frame = none ∧ u.routes.purges = [] ∧ u.patch p = {} ∧ (u.patch q).fixed = (s.patch q).fixed ∧
      u.replies = s.replies ∧ u.walk.due = true ∧ u.link.inProgress.map InProgress.kind = some .disband ∧
      ∀ inbound order, ∃ v, exec (.frameStart inbound order) u = .next v ∧ v.walk.due = false ∧
        (v.patch q).state ≠ .active ∧ (v.patch q).members = [] := by
  have due : s.context.endDue = none := Ready.due ready
  have once : (pre ++ p :: (mid ++ q :: rest)).Nodup := split ▸ (patchRange_sorted _ _).imp fun below => below.ne
  obtain ⟨-, onceRest, -⟩ := List.nodup_append.mp once
  obtain ⟨fresh, onceLater⟩ := List.nodup_cons.mp onceRest
  obtain ⟨-, onceLast, -⟩ := List.nodup_append.mp onceLater
  obtain ⟨replies, begun, patches, legs, purges, -, same, context⟩ := disbandHeld_leaves (s := s) (h := h)
    (options := options) (first := first) (count := count) (mid ++ q :: rest) pre.length (by rw [frame]; rfl) unplayed takes
  set t := s.disbandHeld h first count options p (mid ++ q :: rest) pre.length
  have apart {r : PatchId} (listed : r ∈ mid ++ q :: rest) : r ≠ p := ne_of_mem_of_not_mem listed fresh
  have other {r : PatchId} (listed : r ∈ mid ++ q :: rest) : t.patch r = s.patch r :=
    (patches r).trans (if_neg (apart listed))
  have here : q ∈ mid ++ q :: rest := by simp
  have one : t.routes.purges = [⟨.disband, s.purged (.tag p)⟩] := by rw [purges, alone, List.nil_append]
  have test : t.passes (options.getLsbD 0) q :=
    passes_of_kept (other here) (fun l => emergency_of_released (legs l)) passes
  have run := frameDone_resumes begun (by rw [context, due]) (same.trans frame) one (some 0)
  rw [disbandResumed_waits fresh begun (fun r listed => by rw [other (List.mem_append_left _ listed)]; exact free r listed)
    (by rw [other here]; exact active) test] at run
  obtain ⟨link, ended, none, -, still⟩ := disbandResumed_rest (s := t) (p := p) taken (some 0)
  have tested := disbandResumed_passes (s := t) taken (some 0) (apart here) test
  have freed : (t.disbandResumed taken (some 0) p).patch p = {} := (disbandResumed_patch taken (some 0) p).trans (if_pos rfl)
  have kept := disbandResumed_other (s := t) taken (some 0) (apart here)
  set x := t.disbandResumed taken (some 0) p
  clear_value x
  obtain ⟨waits, unanswered, tick⟩ := waitForTick_waits (s := x) (by rw [link, begun])
    (.disband .none (q :: rest) (pre.length + 1 + mid.length) (options.getLsbD 0))
  refine ⟨_, run, ended, none, freed, kept.trans (by rw [other here]), ?_, tick, by rw [waits] <;> rfl, fun inbound order => ?_⟩
  · rw [unanswered, State.replies, link]
    exact replies
  · obtain ⟨v, goes, walk, inactive, members, -⟩ := disband_goesOn waits tick
      (show x.context.endDue = .none by rw [still, context, due]) ended onceLast
      ((state_of_fixed kept).trans (by rw [other here]; exact active)) tested inbound order
    exact ⟨v, goes, walk, inactive, members⟩

end

end

end Sys2Proof.Machine

/-! SUPPORT. DISBAND settled (R65–R68, R139). -/

namespace Sys2Proof.Machine

variable {s t u : State} {h : Header} {p q : PatchId} {l : LegId}

/-- Settles O36: between frames the walk runs to its end, to a halt or to the tick; in a frame it waits for its purge. -/
theorem disbandFreesTheRangeOrHalts : Obligations.DisbandFreesTheRangeOrHalts := by
  unfold Obligations.DisbandFreesTheRangeOrHalts
  intro reached
  have reachedBelow (s : State) {first last : Nat} (low : 1 ≤ first) (ordered : first ≤ last) :
      reached s first last = s.activeOf (patchRange (first - 1) (last - first)) := activeOf_range low ordered
  have reachedAll (s : State) {first count : Byte} (low : 1 ≤ first.toNat) :
      reached s first.toNat (first.toNat + count.toNat) = s.activeOf (disbandRange first count) := by
    rw [reachedBelow s low (by omega), Nat.add_sub_cancel_left]
  refine ⟨?frees, ?halts, ?inFrame, ?tick⟩
  case frees =>
    intro h first count options s ready low some high idle law paced clear
    rw [reachedAll s low] at paced
    have listed := mem_disbandRange (first := first) (count := count) low
    have passes (q : PatchId) (ranged : q ∈ disbandRange first count) (active : (s.patch q).state = .active) :
        s.passes (options.getLsbD 0) q := by
      obtain ⟨above, below⟩ := (listed q).mp ranged
      exact passes_of_clear (clear.imp id fun each => each q above below active)
    obtain ⟨t, run, idle, replies, torn⟩ := disband_completes ready low some high idle passes paced
    refine ⟨t, run, replies, idle, fun p above below => torn.inside law ((listed p).mpr ⟨above, below⟩), fun p outside => ?_,
      fun l => ?_, torn.directory⟩
    · exact torn.outside fun ranged => by
        obtain ⟨above, below⟩ := (listed p).mp ranged
        omega
    · obtain ⟨-, binding, -, -, emergency⟩ := torn.leg_kept l
      exact ⟨binding, emergency, torn.membership_by law listed l⟩
  case halts =>
    intro h first count options s ready low some high
    have listed := mem_disbandRange (first := first) (count := count) low
    refine ⟨fun free => disband_none ready low some high fun q ranged => ?_,
      fun p unforced above below active flag => ⟨fun free => ?_, fun idle law paced clear => ?_⟩⟩
    · obtain ⟨above, below⟩ := (listed q).mp ranged
      rw [free q above below]
      nofun
    all_goals
      have held := holdsEmergency_of_flag flag
      have here := (listed p).mpr ⟨above, below⟩
    · refine disband_halts_first ready low some high unforced here active held fun q before => ?_
      obtain ⟨ranged, lower⟩ := List.mem_filter.mp before
      obtain ⟨from_, -⟩ := (listed q).mp ranged
      rw [free q (of_decide_eq_true lower) from_]
      nofun
    · have split := disbandRange_split here
      have length : (patchRange (first.toNat - 1) (p.val + 1 - first.toNat)).length = p.val + 1 - first.toNat :=
        length_patchRange (by omega)
      have below (q : PatchId) : q ∈ patchRange (first.toNat - 1) (p.val + 1 - first.toNat) ↔
          first.toNat ≤ q.val + 1 ∧ q < p := by
        rw [mem_patchRange low, Fin.lt_def]
        omega
      rw [disbandRange_below low here] at split
      rw [reachedBelow s low above] at paced
      obtain ⟨t, run, idle, replies, torn⟩ := disband_halts ready low some high unforced idle split
        (fun q ranged going => by
          obtain ⟨from_, lower⟩ := (below q).mp ranged
          exact passes_of_clear (.inr (clear q lower from_ going))) paced active held
      rw [length] at replies
      refine ⟨t, run, idle, replies, fun q lower from_ => torn.inside law ((below q).mpr ⟨from_, lower⟩),
        fun q outside => ?_, fun l => torn.membership_by law below l⟩
      exact torn.outside fun ranged => by
        obtain ⟨from_, lower⟩ := (below q).mp ranged
        obtain reached | under := outside
        · exact absurd lower (not_lt.mpr reached)
        · omega
  case inFrame =>
    intro h first count options p s ready low some high inFrame unplayed law above below clear free active takes
    have listed := mem_disbandRange (first := first) (count := count) low
    have here := (listed p).mpr ⟨above, below⟩
    have split := disbandRange_split here
    have passes (q : PatchId) (ranged : q ∈ disbandRange first count) (active : (s.patch q).state = .active) :
        s.passes (options.getLsbD 0) q := by
      obtain ⟨above, below⟩ := (listed q).mp ranged
      exact passes_of_clear (clear.imp id fun each => each q above below active)
    have inactive (q : PatchId) (before : q ∈ (disbandRange first count).filter (· < p)) : (s.patch q).state ≠ .active := by
      obtain ⟨ranged, lower⟩ := List.mem_filter.mp before
      obtain ⟨from_, -⟩ := (listed q).mp ranged
      rw [free q (of_decide_eq_true lower) from_]
      nofun
    obtain ⟨taken, frame⟩ := Option.isSome_iff_exists.mp inFrame
    obtain ⟨replies, begun, patches, legs, purges, purging, same, -⟩ := disbandHeld_leaves (s := s) (h := h)
      (options := options) (first := first) (count := count) ((disbandRange first count).filter (p < ·))
      ((disbandRange first count).filter (· < p)).length inFrame unplayed takes
    have torn := (patches p).trans (if_pos rfl)
    refine ⟨_, disband_holds ready low some high inFrame unplayed split inactive active (passes p here active) takes, replies,
      by rw [begun] <;> rfl, by rw [torn], by rw [torn], by rw [torn], by rw [torn], fun l member => ?_,
      fun q other => (patches q).trans (if_neg other), purges, purging, fun alone => ⟨fun before paced => ?_,
        fun q later under going free => ?_⟩⟩
    · have fixed := legs l
      rw [if_pos member] at fixed
      exact ⟨membership_of_fixed fixed, (congrArg Leg.talk fixed :)⟩
    · rw [reachedAll s low] at paced ⊢
      exact disbandHeld_completes ready low high frame unplayed split inactive active passes takes alone before paced
    · have ranged : q ∈ disbandRange first count := (listed q).mpr ⟨by rw [Fin.lt_def] at later; omega, under⟩
      have after : q ∈ (disbandRange first count).filter (p < ·) :=
        List.mem_filter.mpr ⟨ranged, decide_eq_true later⟩
      have splitAfter := split_of_mem ((patchRange_sorted _ _).filter _) after
      rw [splitAfter] at split ⊢
      refine disbandHeld_waits ready frame unplayed split (fun r between => ?_) going (passes q ranged going) takes alone
      obtain ⟨afterP, beforeQ⟩ := List.mem_filter.mp between
      obtain ⟨-, aboveP⟩ := List.mem_filter.mp afterP
      rw [free r (of_decide_eq_true aboveP) (of_decide_eq_true beforeQ)]
      nofun
  case tick =>
    intro h first count options n s ready low some high idle law place clear more
    rw [reachedAll s low] at clear more ⊢
    have passes (q : PatchId) (ranged : q ∈ s.activeOf (disbandRange first count)) : s.passes (options.getLsbD 0) q :=
      passes_of_clear (clear.imp id fun each => each q ranged)
    obtain ⟨t, post, done, run, replies, waits, due, torn, once, going, still, fresh, active⟩ := disband_waits (h := h)
      ready low some high idle place passes (List.getElem?_eq_getElem more)
    refine ⟨t, run, replies, by rw [waits] <;> rfl, due, fun q taken => ⟨?_, fun l member => ?_⟩, fun q left => ?_,
      fun q next inbound order => ?_⟩
    · rw [torn.freed q taken List.not_mem_nil] <;> rfl
    · have fixed := torn.legs l
      rw [if_pos ⟨q, taken, member⟩] at fixed
      exact membership_of_fixed fixed
    · have once : (s.activeOf (disbandRange first count)).Nodup :=
        ((patchRange_sorted _ _).imp fun below => below.ne).filter _
      rw [← List.take_append_drop (n + 1) (s.activeOf (disbandRange first count))] at once
      obtain ⟨-, -, apart⟩ := List.nodup_append.mp once
      obtain ⟨fixed, floor, -⟩ := torn.others q fun taken => apart q taken q left rfl
      exact ⟨fixed, floor⟩
    · obtain rfl : _ = q := Option.some.inj ((List.getElem?_eq_getElem more).symm.trans next)
      have members := members_of_fixed (torn.others _ fresh).fixed
      obtain ⟨v, goes, walk, inactive, none, gone⟩ := disband_goesOn waits due going still once
        ((torn.state fresh).trans active)
        ((passes _ (List.getElem_mem more)).imp id (torn.holdsEmergency fresh).trans) inbound order
      exact ⟨v, goes, walk, inactive, none, fun l member => gone l (by rw [members]; exact member)⟩

end Sys2Proof.Machine

/-! SUPPORT. REVOKE: the legs of an agency unbound one after the other (R43–R45). -/

namespace Sys2Proof.Machine

variable {s t u : State} {h : Header} {p : PatchId} {l m : LegId} {ls ms : List LegId} {a : AgencyId}

/-! ## No leg faults by a walk -/

/-- No transmit machine has gone to FAULT. -/
def SoundStays (s t : State) : Prop := ∀ m, (t.leg m).tx.state = .fault → (s.leg m).tx.state = .fault

theorem SoundStays.trans (first : SoundStays s t) (second : SoundStays t u) : SoundStays s u :=
  fun m fault => first m (second m fault)

theorem demanded_sound (on : Bool) (x : Leg) (fault : (x.demanded on).tx.state = .fault) : x.tx.state = .fault := by
  unfold Leg.demanded at fault
  split at fault
  · exact fault
  · dsimp only at fault
    split at fault
    next =>
      obtain ⟨tx, -⟩ := keyed_fields { x with demand := true }
      have asserted := leadTx_keyAsserted { x with demand := true }
      rw [← tx, fault] at asserted
      cases asserted
    next => cases fault
    next => cases fault
    next => cases fault
    next => exact fault

theorem setDemand_off_leg (m : LegId) : (s.setDemand l false).leg m = s.leg m ∨
    m = l ∧ ∃ tx, (s.setDemand l false).leg m = { s.leg l with demand := false, tx } ∧
      (tx.state = .fault → (s.leg l).tx.state = .fault) := by
  by_cases off : (s.leg l).demand = false
  · rw [setDemand_same off]
    exact .inl rfl
  · rw [setDemand_off (by simpa using off)]
    by_cases here : m = l
    · subst here
      refine .inr ⟨rfl, ?_⟩
      cases state : (s.leg m).tx.state with
      | lead | on => exact ⟨_, leg_modLeg_same _ _ _, nofun⟩
      | off | tail | lockout | fault => exact ⟨_, leg_modLeg_same _ _ _, fun fault => state.symm.trans fault⟩
    · left
      cases (s.leg l).tx.state with
      | lead | on => exact leg_modLeg_ne _ _ here
      | off | tail | lockout | fault => exact leg_modLeg_ne _ _ here

theorem soundStays_setDemand_off : SoundStays s (s.setDemand l false) := by
  intro m fault
  obtain same | ⟨rfl, tx, record, sound⟩ := setDemand_off_leg (s := s) (l := l) m
  · rwa [same] at fault
  · rw [record] at fault
    exact sound fault

theorem soundStays_pass : SoundStays s (s.pass p) := by
  intro m fault
  unfold State.pass at fault
  split at fault
  · rw [grant_record] at fault
    split at fault
    · exact demanded_sound _ _ fault
    · exact fault
  · rw [enterIdle_leg] at fault
    split at fault
    · exact demanded_sound _ _ fault
    · exact fault

theorem soundStays_takenOut : SoundStays s (s.takenOut p l) := by
  have left : SoundStays s ((s.modPatch p fun x => { x with members := x.members.filter (· != l) }).leaveFloor p l) := by
    unfold State.leaveFloor
    split
    · exact soundStays_pass
    · exact fun _ => id
  exact left.trans soundStays_setDemand_off

theorem soundStays_removeMember (r : Requester) : SoundStays s (s.removeMember p l r).1 := by
  intro m fault
  rw [removeMember_legs] at fault
  split at fault
  next here => exact here ▸ soundStays_takenOut l fault
  next => exact soundStays_takenOut m fault

/-! ## A leg unbound -/

theorem revokeLeg_others (left : Option PatchId) (other : m ≠ l) : (s.revokeLeg l left a).leg m = s.leg m := by
  rw [State.revokeLeg, offer_leg, maskedChange_leg_ne _ other]
  obtain same | ⟨here, -⟩ := setDemand_off_leg (s := s) (l := l) m
  · exact same
  · exact absurd here other

theorem revokeLeg_unbinds (left : Option PatchId) : let x := (s.revokeLeg l left a).leg l
    x.binding = none ∧ x.membership = (s.leg l).membership ∧ x.tx.state ≠ .fault ∧ x.emergency = (s.leg l).emergency ∧
      x.park = (s.leg l).park ∧ x.config = (s.leg l).config := by
  let y := (s.setDemand l false).leg l
  have unheard : ((s.revokeLeg l left a).leg l).unheard = ({ y with binding := none } : Leg).dropFault.unheard := by
    rw [State.revokeLeg, offer_leg, maskedChange_unheard]
  obtain ⟨txState, -, fixed⟩ := dropFault_fields { y with binding := none }
  have kept : ((s.revokeLeg l left a).leg l).fixed = ({ y with binding := none } : Leg).fixed :=
    (congrArg Leg.fixed unheard).trans fixed
  have before : y.fixed = (s.leg l).fixed := (calm_setDemand l false).legs l
  obtain ⟨config, -, park, -, emergency⟩ := settings_of_fixed before
  obtain ⟨configThen, binding, parkThen, -, emergencyThen⟩ := settings_of_fixed kept
  have member : y.membership = (s.leg l).membership := membership_of_fixed before
  have memberThen := membership_of_fixed kept
  refine ⟨binding, memberThen.trans member, fun fault => ?_,
    emergencyThen.trans emergency, parkThen.trans park, configThen.trans config⟩
  have state : ((s.revokeLeg l left a).leg l).tx.state = _ := (congrArg (fun x : Leg => x.tx.state) unheard).trans txState
  rw [state] at fault
  split at fault
  next => cases fault
  next sound => exact sound fault

theorem revokeLeg_noticed (left : Option PatchId) : Noticed s.link (s.revokeLeg l left a).link := by
  have unbound := calm_writeBinding_link (s := s.setDemand l false) l fun x => { x with binding := none }.dropFault
  rw [setDemand_off_link] at unbound
  exact unbound.trans (noticed_offer _ _ _)

/-- The REVOKED notice is in the queue, or the gap flag tells of its loss (R44, R185). -/
theorem revokeLeg_tells (left : Option PatchId) : (s.revokeLeg l left a).link.gap = true ∨
    (⟨.revoked a, s.link.stamp, some l, left⟩ : Notice) ∈ (s.revokeLeg l left a).link.notices := by
  have unbound := calm_writeBinding_link (s := s.setDemand l false) l fun x => { x with binding := none }.dropFault
  have stamp := stamp_of_noticed unbound
  rw [setDemand_off_link] at stamp
  rw [State.revokeLeg, offer_link, stamp]
  split
  · exact .inr (List.mem_append_right _ (List.mem_singleton_self _))
  · exact .inl rfl

theorem soundStays_revokeLeg (left : Option PatchId) : SoundStays s (s.revokeLeg l left a) := by
  intro m fault
  by_cases here : m = l
  · subst here
    obtain ⟨-, -, sound, -⟩ := revokeLeg_unbinds (s := s) (l := m) (a := a) left
    exact absurd fault sound
  · rwa [revokeLeg_others left here] at fault

end Sys2Proof.Machine

/-! SUPPORT. The walk of REVOKE (R43–R45, R139). -/

namespace Sys2Proof.Machine

variable {s t u x : State} {h : Header} {p : PatchId} {l m : LegId} {ls ms : List LegId} {a : AgencyId}

/-! ## Legs unbound -/

/-- The legs ls of an agency have been unbound between s and t, with their notices, and have left their patches. -/
structure Unbound (a : AgencyId) (s t : State) (ls : List LegId) : Prop where
  legs : ∀ l ∈ ls, (t.leg l).binding = none ∧ (t.leg l).membership = none ∧ (t.leg l).tx.state ≠ .fault ∧
    (t.link.gap = true ∨ (⟨.revoked a, s.link.stamp, some l, (s.leg l).membership⟩ : Notice) ∈ t.link.notices)
  others : ∀ l, l ∉ ls → (t.leg l).fixed = (s.leg l).fixed
  kept : ∀ l, (t.leg l).emergency = (s.leg l).emergency ∧ (t.leg l).park = (s.leg l).park ∧
    (t.leg l).config = (s.leg l).config
  sound : SoundStays s t
  noticed : Noticed s.link t.link
  frame : t.routes.frame = s.routes.frame
  directory : t.directory = s.directory
  due : t.walk.due = s.walk.due
  going : s.context.endDue = none → t.context.endDue = none

theorem Unbound.refl (a : AgencyId) (s : State) : Unbound a s s [] where
  legs _ listed := by cases listed
  others _ _ := rfl
  kept _ := ⟨rfl, rfl, rfl⟩
  sound _ := id
  noticed := .refl _
  frame := rfl
  directory := rfl
  due := rfl
  going := id

theorem Unbound.membership (unbound : Unbound a s t ls) (other : l ∉ ls) : (t.leg l).membership = (s.leg l).membership :=
  membership_of_fixed (unbound.others l other)

theorem Unbound.trans (first : Unbound a s t ls) (second : Unbound a t u ms) (apart : ls.Disjoint ms) :
    Unbound a s u (ls ++ ms) where
  legs l listed := by
    by_cases now : l ∈ ms
    · obtain ⟨binding, membership, state, told⟩ := second.legs l now
      rw [first.membership fun before => apart before now, stamp_of_noticed first.noticed] at told
      exact ⟨binding, membership, state, told⟩
    · have before : l ∈ ls := (List.mem_append.mp listed).resolve_right now
      obtain ⟨binding, membership, state, told⟩ := first.legs l before
      have fixed := second.others l now
      exact ⟨(binding_eq_of_fixed fixed).trans binding, (membership_of_fixed fixed).trans membership,
        fun fault => state (second.sound l fault), told.imp second.noticed.gap (second.noticed.grows.subset ·)⟩
  others l other := by
    rw [List.mem_append, not_or] at other
    exact (second.others l other.2).trans (first.others l other.1)
  kept l := by
    obtain ⟨emergency, park, config⟩ := first.kept l
    obtain ⟨emergencyThen, parkThen, configThen⟩ := second.kept l
    exact ⟨emergencyThen.trans emergency, parkThen.trans park, configThen.trans config⟩
  sound := first.sound.trans second.sound
  noticed := first.noticed.trans second.noticed
  frame := second.frame.trans first.frame
  directory := second.directory.trans first.directory
  due := second.due.trans first.due
  going := second.going ∘ first.going

/-- A leg that has left its patch between s and t, or was in none, and is not unbound yet. -/
structure Removed (s t : State) (l : LegId) : Prop where
  others : ∀ m, m ≠ l → (t.leg m).fixed = (s.leg m).fixed
  apart : (t.leg l).membership = none
  binding : (t.leg l).binding = (s.leg l).binding
  kept : (t.leg l).emergency = (s.leg l).emergency ∧ (t.leg l).park = (s.leg l).park ∧
    (t.leg l).config = (s.leg l).config
  sound : SoundStays s t
  noticed : Noticed s.link t.link
  frame : t.routes.frame = s.routes.frame
  directory : t.directory = s.directory
  walk : t.walk = s.walk
  going : s.context.endDue = none → t.context.endDue = none

theorem removed_alone (alone : (s.leg l).membership = none) : Removed s s l :=
  ⟨fun _ _ => rfl, alone, rfl, ⟨rfl, rfl, rfl⟩, fun _ => id, .refl _, rfl, rfl, rfl, id⟩

theorem removed_removeMember (r : Requester) : Removed s (s.removeMember p l r).1 l := by
  have left := removeMember_leg_fixed (s := s) (p := p) (l := l) r l
  rw [if_pos rfl] at left
  obtain ⟨config, binding, park, -, emergency⟩ := settings_of_fixed left
  have membership := membership_of_fixed left
  refine ⟨fun m other => ?_, membership, binding, ⟨emergency, park, config⟩, soundStays_removeMember r,
    removeMember_noticed r, removeMember_frame r, removeMember_directory _ p l r, removeMember_walk _ p l r,
    removeMember_going r⟩
  rw [removeMember_leg_fixed, if_neg other]

/-- A leg of the revoke list unbound, once it has left its patch or was in none (R44). -/
theorem Removed.unbinds (removed : Removed s t l) (a : AgencyId) :
    Unbound a s (t.revokeLeg l (s.leg l).membership a) [l] := by
  obtain ⟨binding, membership, sound, emergency, park, config⟩ :=
    revokeLeg_unbinds (s := t) (l := l) (a := a) (s.leg l).membership
  constructor
  case legs =>
    intro m listed
    rw [List.mem_singleton] at listed
    subst listed
    have told := revokeLeg_tells (s := t) (l := m) (a := a) (s.leg m).membership
    rw [stamp_of_noticed removed.noticed] at told
    exact ⟨binding, membership.trans removed.apart, sound, told⟩
  case others =>
    intro m other
    rw [List.mem_singleton] at other
    rw [revokeLeg_others _ other]
    exact removed.others m other
  case kept =>
    intro m
    by_cases here : m = l
    · subst here
      obtain ⟨emergencyBefore, parkBefore, configBefore⟩ := removed.kept
      exact ⟨emergency.trans emergencyBefore, park.trans parkBefore, config.trans configBefore⟩
    · rw [revokeLeg_others _ here]
      obtain ⟨configSame, -, parkSame, -, emergencySame⟩ := settings_of_fixed (removed.others m here)
      exact ⟨emergencySame, parkSame, configSame⟩
  case sound => exact removed.sound.trans (soundStays_revokeLeg _)
  case noticed => exact removed.noticed.trans (revokeLeg_noticed _)
  case frame => rw [revokeLeg_routes, removed.frame]
  case directory => rw [revokeLeg_directory, removed.directory]
  case due => rw [revokeLeg_walk, removed.walk]
  case going => rw [revokeLeg_context]; exact removed.going

theorem Unbound.paced {before : Option Nat} (unbound : Unbound a (s.paced before) t ls) : Unbound a s t ls :=
  ⟨unbound.legs, unbound.others, unbound.kept, unbound.sound, unbound.noticed, unbound.frame, unbound.directory,
    unbound.due, unbound.going⟩

theorem Unbound.boundThrough (unbound : Unbound a s t ls) (other : l ∉ ls) : t.boundThrough a l = s.boundThrough a l := by
  rw [State.boundThrough, binding_eq_of_fixed (unbound.others l other), State.boundThrough]

/-! ## The walk -/

/-- The members among a list of legs. -/
def State.joinedOf (s : State) (ls : List LegId) : List LegId := ls.filter fun l => (s.leg l).membership.isSome

theorem mem_joinedOf : l ∈ s.joinedOf ls ↔ l ∈ ls ∧ (s.leg l).membership.isSome = true := by
  rw [State.joinedOf, List.mem_filter]

theorem joinedOf_congr (same : ∀ l ∈ ls, (t.leg l).membership = (s.leg l).membership) : t.joinedOf ls = s.joinedOf ls :=
  List.filter_congr fun l listed => by rw [same l listed]

theorem joinedOf_cons_joined (joined : (s.leg l).membership = some p) : s.joinedOf (l :: ls) = l :: s.joinedOf ls :=
  List.filter_cons_of_pos (by rw [joined]; rfl)

theorem joinedOf_cons_alone (alone : (s.leg l).membership = none) : s.joinedOf (l :: ls) = s.joinedOf ls :=
  List.filter_cons_of_neg (by rw [alone]; nofun)

/-- REVOKE unbinds the legs that are no members as it comes to them (R44). -/
theorem revokeWalk_over {further : Bool} {total : Nat} (post : List LegId) (once : ls.Nodup) (alone : s.joinedOf ls = []) :
    ∃ u, s.revokeWalk further a total (ls ++ post) = u.revokeWalk further a total post ∧ Unbound a s u ls ∧
      u.routes = s.routes ∧ u.walk = s.walk := by
  induction ls generalizing s with
  | nil => exact ⟨s, rfl, .refl a s, rfl, rfl⟩
  | cons l rest ih =>
    obtain ⟨fresh, onceRest⟩ := List.nodup_cons.mp once
    cases joined : (s.leg l).membership with
    | some p =>
      rw [joinedOf_cons_joined joined] at alone
      cases alone
    | none =>
      have first := (removed_alone joined).unbinds a
      rw [joined] at first
      have same : (s.revokeLeg l none a).joinedOf rest = [] := by
        rw [joinedOf_cons_alone joined] at alone
        rw [← alone]
        exact joinedOf_congr fun m listed =>
          first.membership fun here => fresh (List.mem_singleton.mp here ▸ listed)
      obtain ⟨u, run, unbound, routes, walk⟩ := ih onceRest same
      have apart : [l].Disjoint rest := by rwa [List.disjoint_comm, List.disjoint_singleton]
      refine ⟨u, ?_, first.trans unbound apart, routes.trans (revokeLeg_routes _ _ _ _),
        walk.trans (revokeLeg_walk _ _ _ _)⟩
      rw [List.cons_append, revokeWalk_unbinds joined, run]

/-- Between frames REVOKE removes and unbinds every leg whose purge it asks for before the next tick (R44, R139). -/
theorem revokeWalk_through {further : Bool} {total : Nat} (post : List LegId) (once : ls.Nodup)
    (idle : s.routes.frame = none) (affords : ∀ n ∈ s.budget further, (s.joinedOf ls).length ≤ n) :
    ∃ u more, s.revokeWalk further a total (ls ++ post) = u.revokeWalk more a total post ∧ Unbound a s u ls ∧
      u.budget more = (s.budget further).map (· - (s.joinedOf ls).length) := by
  induction ls generalizing s further with
  | nil => exact ⟨s, further, rfl, .refl a s, by simp [State.joinedOf]⟩
  | cons l rest ih =>
    obtain ⟨fresh, onceRest⟩ := List.nodup_cons.mp once
    have apart : [l].Disjoint rest := by rwa [List.disjoint_comm, List.disjoint_singleton]
    have alone {m : LegId} (listed : m ∈ rest) : m ∉ [l] := fun here => fresh (List.mem_singleton.mp here ▸ listed)
    cases joined : (s.leg l).membership with
    | none =>
      rw [joinedOf_cons_alone joined] at affords ⊢
      have first := (removed_alone joined).unbinds a
      rw [joined] at first
      have same : (s.revokeLeg l none a).joinedOf rest = s.joinedOf rest :=
        joinedOf_congr fun m listed => first.membership (alone listed)
      have budget : (s.revokeLeg l none a).budget further = s.budget further := by
        rw [State.budget, revokeLeg_walk, State.budget]
      obtain ⟨u, more, run, unbound, spent⟩ := ih (s := s.revokeLeg l none a) (further := further) onceRest
        (first.frame.trans idle) (by rwa [budget, same])
      refine ⟨u, more, ?_, first.trans unbound apart, by rw [spent, budget, same]⟩
      rw [List.cons_append, revokeWalk_unbinds joined, run]
    | some p =>
      rw [joinedOf_cons_joined joined] at affords ⊢
      have left : s.budget further ≠ some 0 := fun spent => by
        have none := affords 0 spent
        simp at none
      obtain ⟨before, spends, asks⟩ := asksPurge_of_budget left
      let v := s.paced before
      let w := (v.removeMember p l .revoke).1.revokeLeg l (some p) a
      have first : Unbound a s w [l] := by
        have removed := (removed_removeMember (s := v) (p := p) (l := l) .revoke).unbinds a
        rw [show (v.leg l).membership = some p from joined] at removed
        exact removed.paced
      have same : w.joinedOf rest = s.joinedOf rest :=
        joinedOf_congr fun m listed => first.membership (alone listed)
      have walk : w.walk = v.walk := (revokeLeg_walk _ _ _ _).trans (removeMember_walk _ _ _ _)
      have budget : w.budget true = (s.budget further).map (· - 1) := by
        rw [← spends, State.budget, walk] <;> rfl
      obtain ⟨u, more, run, unbound, spent⟩ := ih (s := w) (further := true) onceRest (first.frame.trans idle)
        (fun n room => by
          rw [budget, Option.mem_map] at room
          obtain ⟨m, room, rfl⟩ := room
          have bound := affords m room
          rw [List.length_cons] at bound
          rw [same]
          omega)
      refine ⟨u, more, ?_, first.trans unbound apart, ?_⟩
      · rw [List.cons_append, revokeWalk_removes joined (asks idle),
          if_pos (removeMember_atOnce (s := v) .revoke (.inl idle)), run]
      · rw [spent, budget, same, Option.map_map, List.length_cons]
        refine congrArg (fun f => Option.map f _) (funext fun n => ?_)
        show n - 1 - _ = n - (_ + 1)
        omega

end Sys2Proof.Machine

/-! SUPPORT. REVOKE, from its taking to its reply, its wait for a purge, or its wait for the tick (R43–R45, R139). -/

namespace Sys2Proof.Machine

variable {s t u : State} {h : Header} {p : PatchId} {l m q : LegId} {ls ms : List LegId} {a : AgencyId}

/-! ## The taking -/

/-- A REVOKE begun: the agency withdrawn, and its list fixed (R43). -/
def State.revokeBegun (s : State) (h : Header) (a : AgencyId) : State :=
  (s.modAgency a fun x => { x with valid := false }.bumped).begin h .revoke
    (.revoke none (s.revokeList a) a (s.revokeList a).length)

theorem exec_revoke {agency : Byte} (ready : s.Ready h) (named : agency.toNat = a.val) :
    exec (.revoke h agency) s =
      .next ((s.revokeBegun h a).revokeWalk false a (s.revokeList a).length (s.revokeList a)) := by
  rw [exec_of_begin ready rfl]
  unfold takeRevoke
  rw [agencyOf_eq_some_iff.mpr named] <;> rfl

theorem revokeBegun_agency (b : AgencyId) : (s.revokeBegun h a).agency b =
    if b = a then { s.agency a with valid := false, generation := (s.agency a).generation + 1 } else s.agency b := by
  rw [State.revokeBegun, begin_agency]
  split
  next here => rw [here, agency_modAgency_same] <;> rfl
  next other => exact agency_modAgency_ne _ _ other

theorem mem_revokeList : l ∈ s.revokeList a ↔ ((s.leg l).binding.any fun b => b.agency = a) = true := by
  rw [State.revokeList, List.mem_filter]
  exact and_iff_right (List.mem_finRange l)

theorem revokeList_sorted : (s.revokeList a).Pairwise (· < ·) := (List.pairwise_lt_finRange 20).filter _

theorem revokeList_nodup : (s.revokeList a).Nodup := revokeList_sorted.imp fun below => below.ne

/-- The members of the revoke list, in the words of the statement. -/
theorem joined_eq : ((List.finRange 20).filter fun l =>
    ((s.leg l).binding.any fun b => b.agency = a) && (s.leg l).membership.isSome) = s.joinedOf (s.revokeList a) := by
  rw [State.joinedOf, State.revokeList, List.filter_filter]
  exact List.filter_congr fun l _ => Bool.and_comm _ _

theorem finish_gap (r : Result) (results : List Byte) : (s.finish r results).link.gap = s.link.gap := by
  cases begun : s.link.inProgress with
  | none => rw [State.finish, begun]
  | some p =>
    obtain ⟨silent, -⟩ := finish_replied p r results begun
    have gap := congrArg (fun u : State => u.link.gap) silent
    exact gap

/-! ## The walk inside a tick -/

theorem teardown_apart (apart : (s.leg l).membership = none) (reason : EndReason) (r : Requester) :
    ((s.teardown p reason r).1.leg l).membership = none := by
  have fixed := teardown_leg_fixed (s := s) (p := p) reason r l
  split at fixed
  · exact membership_of_fixed fixed
  · exact (membership_of_fixed fixed).trans apart

theorem removeMember_apart (apart : (s.leg l).membership = none) (r : Requester) :
    ((s.removeMember p m r).1.leg l).membership = none := by
  have removed := removed_removeMember (s := s) (p := p) (l := m) r
  by_cases here : l = m
  · exact here ▸ removed.apart
  · exact (membership_of_fixed (removed.others l here)).trans apart

theorem revokeLeg_apart (apart : (s.leg l).membership = none) (left : Option PatchId) :
    ((s.revokeLeg m left a).leg l).membership = none := by
  by_cases here : l = m
  · subst here
    obtain ⟨-, membership, -⟩ := revokeLeg_unbinds (s := s) (l := l) (a := a) left
    exact membership.trans apart
  · rw [revokeLeg_others left here]
    exact apart

/-- No walk puts a leg into a patch. -/
theorem walksKeep_apart (l : LegId) : WalksKeep fun s => (s.leg l).membership = none where
  place _ _ apart := apart
  finish s r results apart := by rw [finish_leg]; exact apart
  rests s w _ apart := by rw [setWork_leg]; exact apart
  tears s p reason r apart _ _ := by rw [freePatch_leg]; exact teardown_apart apart reason r
  disbands s p _ _ _ apart _ _ := by rw [setWork_leg]; exact teardown_apart apart _ _
  resets s p apart _ _ := teardown_apart apart _ _
  unbinds s m left a apart _ := revokeLeg_apart apart left
  removes s m p r apart _ _ := removeMember_apart apart r
  revokes s m p _ _ _ apart _ _ := by rw [setWork_leg]; exact removeMember_apart apart _

/-- In a frame the walk of REVOKE waits for no tick (R139). -/
theorem revokeWalk_inFrame {further : Bool} {total : Nat} (frame : s.routes.frame.isSome = true) :
    (s.revokeWalk further a total ls).walk = s.walk := by
  induction ls generalizing s further with
  | nil => exact finish_walk _ _ _
  | cons l rest ih =>
    cases joined : (s.leg l).membership with
    | none => rw [revokeWalk_unbinds joined, ih (by rwa [revokeLeg_routes]), revokeLeg_walk]
    | some p =>
      rw [revokeWalk_removes joined (asksPurge_inFrame s frame)]
      split
      · rw [ih (by rwa [revokeLeg_routes, removeMember_frame]), revokeLeg_walk, removeMember_walk]
      · rw [setWork_walk, removeMember_walk]

/-- The member that the walk of REVOKE comes to in a frame leaves its patch. -/
theorem revokeWalk_takes {further : Bool} {total : Nat} (frame : s.routes.frame.isSome = true)
    (joined : (s.leg l).membership = some p) :
    ((s.revokeWalk further a total (l :: ls)).leg l).membership = none := by
  have removed := removed_removeMember (s := s) (p := p) (l := l) .revoke
  rw [revokeWalk_removes joined (asksPurge_inFrame s frame)]
  split
  · exact (walksKeep_apart l).revokeWalk a total ls true _ (revokeLeg_apart removed.apart _)
  · rw [setWork_leg]
    exact removed.apart

theorem walkOn_of_revoke {total : Nat} (due : s.walk.due = true) (work : s.work = some (.revoke none ls a total)) :
    s.walkOn = s.walkTaken.revokeWalk false a total ls := by
  have still : s.walkTaken.work = some (.revoke none ls a total) := work
  rw [State.walkOn, if_pos due]
  dsimp only
  rw [still]

/-- A REVOKE that waited for the tick goes on in its step, with the leg it had come to (R139; log 7). -/
theorem revoke_goesOn {k : Kind} {total : Nat} (begun : s.link.inProgress = some ⟨k, h, .revoke none (l :: ls) a total⟩)
    (due : s.walk.due = true) (going : s.context.endDue = none) (idle : s.routes.frame = none)
    (joined : (s.leg l).membership = some p) (inbound : Vector Block 20) (order : List LegId) :
    ∃ v, exec (.frameStart inbound order) s = .next v ∧ v.walk.due = false ∧ (v.leg l).membership = none := by
  have work : s.work = some (.revoke none (l :: ls) a total) := by rw [State.work, begun] <;> rfl
  have leaves := tickLeaves_tickTaken inbound order (s := s) (by rw [work]; nofun)
  have frame := tickTaken_frame (s := s) inbound order
  have run := exec_frameStart_walk inbound order (settled_of_begun begun nofun going) idle
  set w := s.tickTaken inbound order
  rw [walkOn_of_revoke (by rw [leaves.walk, due]) (leaves.work.trans work)] at run
  refine ⟨_, run, ?_, revokeWalk_takes (s := w.walkTaken) frame ((leaves.membership l).trans joined)⟩
  rw [revokeWalk_inFrame (s := w.walkTaken) frame]

end Sys2Proof.Machine

/-! SUPPORT. REVOKE settled (R43–R45, R139). -/

namespace Sys2Proof.Machine

variable {s t u : State} {h : Header} {p : PatchId} {l m q : LegId} {ls ms pre post : List LegId} {a : AgencyId}

/-! ## What the legs unbound leave -/

theorem noticed_begun {work : Work} {k : Kind} (noticed : Noticed s.link t.link)
    (begun : s.link.inProgress = some ⟨k, h, work⟩) :
    t.link.inProgress = some ⟨k, h, work⟩ ∧ t.replies = s.replies :=
  ⟨(inProgress_of_noticed noticed).trans begun, replies_of_link noticed.quiet⟩

/-- REVOKE between frames, from its taking to the legs of its list that are left. -/
theorem revoke_through {agency : Byte} (ready : s.Ready h) (named : agency.toNat = a.val) (idle : s.routes.frame = none)
    (split : s.revokeList a = pre ++ post) (paced : s.Paced (s.joinedOf pre).length) :
    ∃ u more, exec (.revoke h agency) s = .next (u.revokeWalk more a (s.revokeList a).length post) ∧
      Unbound a (s.revokeBegun h a) u pre ∧
      u.budget more = (s.walk.beforeTick.map (· + 1)).map (· - (s.joinedOf pre).length) := by
  have once : (pre ++ post).Nodup := split ▸ revokeList_nodup
  obtain ⟨u, more, run, unbound, spent⟩ := revokeWalk_through (s := s.revokeBegun h a) (a := a) (further := false)
    (total := (s.revokeList a).length) post (List.nodup_append.mp once).1 idle fun n room => by
      obtain ⟨m, place, rfl⟩ := Option.mem_map.mp room
      exact paced m place
  refine ⟨u, more, ?_, unbound, spent⟩
  rw [exec_revoke ready named, ← run]
  exact congrArg (fun ls => Host.Outcome.next ((s.revokeBegun h a).revokeWalk false a (s.revokeList a).length ls)) split

theorem revoke_agencies (directory : t.directory = (s.revokeBegun h a).directory) :
    t.agency a = { s.agency a with valid := false, generation := (s.agency a).generation + 1 } ∧
      (∀ b, b ≠ a → t.agency b = s.agency b) ∧ t.directory.plans = s.directory.plans := by
  have agency (b : AgencyId) : t.agency b = (s.revokeBegun h a).agency b :=
    congrArg (fun d : Directory => d.agencies.get b) directory
  refine ⟨?_, fun b other => ?_, ?_⟩
  · rw [agency, revokeBegun_agency, if_pos rfl]
  · rw [agency, revokeBegun_agency, if_neg other]
  · rw [directory] <;> rfl

/-! ## REVOKE that waits in a frame -/

/-- The state of a REVOKE that waits for the purge of its first member. -/
def State.revokeHeld (s : State) (a : AgencyId) (l : LegId) (p : PatchId) (post : List LegId) (total : Nat) : State :=
  (s.removeMember p l .revoke).1.setWork (.revoke (some (l, p)) post a total)

/-- REVOKE in a frame that feeds its first member: the legs before it are unbound, and it has left its patch. -/
theorem revoke_holds {agency : Byte} (ready : s.Ready h) (named : agency.toNat = a.val)
    (frame : s.routes.frame.isSome = true) (split : s.revokeList a = pre ++ l :: post) (alone : s.joinedOf pre = [])
    (joined : (s.leg l).membership = some p) (takes : s.purged (.dest p l) ≠ []) :
    ∃ u, exec (.revoke h agency) s = .next (u.revokeHeld a l p post (s.revokeList a).length) ∧
      Unbound a (s.revokeBegun h a) u pre ∧ u.routes = s.routes ∧ u.purged (.dest p l) = s.purged (.dest p l) ∧
      (u.removeMember p l .revoke).2 = false := by
  have once : (pre ++ l :: post).Nodup := split ▸ revokeList_nodup
  obtain ⟨onceBefore, -, across⟩ := List.nodup_append.mp once
  have fresh : l ∉ pre := fun listed => across l listed l (List.mem_cons_self ..) rfl
  obtain ⟨u, run, unbound, routes, -⟩ := revokeWalk_over (s := s.revokeBegun h a) (a := a) (further := false)
    (total := (s.revokeList a).length) (l :: post) onceBefore alone
  have same : u.purged (.dest p l) = s.purged (.dest p l) := by
    refine List.filter_congr fun e _ => ?_
    rw [show u.entry e = s.entry e from congrArg (fun r : Routes => r.entries.get e) routes]
  have waits : (u.removeMember p l .revoke).2 = false :=
    removeMember_waits .revoke (by rw [routes]; exact frame) (by rwa [same])
  refine ⟨u, ?_, unbound, routes, same, waits⟩
  rw [exec_revoke ready named]
  refine congrArg _ (Eq.trans (congrArg (fun ls => (s.revokeBegun h a).revokeWalk false a (s.revokeList a).length ls) split) (run.trans ?_))
  rw [revokeWalk_removes ((unbound.membership fresh).trans joined) (asksPurge_first u)]
  exact if_neg (by rw [waits]; nofun)

/-- The frame's done tells a REVOKE whose purge it completes: the leg is unbound, and the walk goes on (R44, R139). -/
theorem frameDone_revokes {taken : List Taken} {k : Kind} {total : Nat} {es : List EntryId}
    (begun : s.link.inProgress = some ⟨k, h, .revoke (some (l, p)) ls a total⟩) (going : s.context.endDue = none)
    (frame : s.routes.frame = some taken) (one : s.routes.purges = [⟨.revoke, es⟩]) (before : Option Nat) :
    exec (.frameDone before) s =
      .next (((s.handedOver taken before).revokeLeg l (some p) a).revokeWalk true a total ls) := by
  obtain ⟨link, -⟩ := handedOver_others (s := s) taken before
  have work : (s.handedOver taken before).work = some (.revoke (some (l, p)) ls a total) := by
    rw [State.work, link, begun] <;> rfl
  rw [exec_frameDone_of_one (settled_of_begun begun nofun going) frame one before, State.tell, work] <;> rfl

/-- The walk of REVOKE at the frame's done, with every purge it asks for before the next tick (R44, R139). -/
theorem revokeResumed_completes {taken : List Taken} {before : Option Nat} {total : Nat} {work : Work}
    (once : (l :: ls).Nodup) (begun : s.link.inProgress = some ⟨.revoke, h, work⟩)
    (apart : (s.leg l).membership = none) (paced : ∀ n ∈ before, (s.joinedOf ls).length ≤ n) :
    let u := ((s.handedOver taken before).revokeLeg l (some p) a).revokeWalk true a total ls
    u.routes.frame = none ∧ u.routes.purges = [] ∧
      (∀ e ∈ s.routes.purges.flatMap Purge.entries, u.entry e = {}) ∧ u.link.inProgress = none ∧
      u.replies = s.replies ++ replyTo h 0x22 [0x00, byte total] ∧
      (∀ m ∈ l :: ls, (u.leg m).binding = none ∧ (u.leg m).membership = none) ∧
      ∀ m, m ∉ l :: ls → (u.leg m).binding = (s.leg m).binding ∧ (u.leg m).membership = (s.leg m).membership := by
  obtain ⟨fresh, onceRest⟩ := List.nodup_cons.mp once
  obtain ⟨link, -, -, ended, none, walk⟩ := handedOver_others (s := s) taken before
  have leg (m : LegId) := handedOver_leg (s := s) taken before m
  have entry (e : EntryId) := handedOver_entry (s := s) taken before e
  let v := s.handedOver taken before
  let w := v.revokeLeg l (some p) a
  have handed (m : LegId) : (v.leg m).binding = (s.leg m).binding ∧ (v.leg m).membership = (s.leg m).membership := by
    obtain ⟨-, membership, binding⟩ := takeFrame_kept (l := m) (mix taken m) (s.leg m)
    rw [leg]
    exact ⟨binding, membership⟩
  have others {m : LegId} (other : m ≠ l) : w.leg m = v.leg m := revokeLeg_others _ other
  obtain ⟨binding, membership, -⟩ := revokeLeg_unbinds (s := v) (l := l) (a := a) (some p)
  have same : w.joinedOf ls = s.joinedOf ls := joinedOf_congr fun m listed => by
    rw [others (ne_of_mem_of_not_mem listed fresh)]
    exact (handed m).2
  have frame : w.routes.frame = .none := (congrArg Routes.frame (revokeLeg_routes _ _ _ _)).trans ended
  have budget : w.budget true = before := by
    rw [State.budget, revokeLeg_walk, walk] <;> rfl
  obtain ⟨u, more, run, unbound, -⟩ := revokeWalk_through (s := w) (a := a) (further := true) (total := total) [] onceRest
    frame (by rw [budget, same]; exact paced)
  rw [List.append_nil] at run
  have between := (walksKeep_over []).revokeWalk a total ls true w
    ⟨frame, (congrArg Routes.purges (revokeLeg_routes _ _ _ _)).trans none, nofun⟩
  have noticed : Noticed v.link u.link := (revokeLeg_noticed (some p)).trans unbound.noticed
  obtain ⟨still, replies⟩ := noticed_begun noticed (by rw [link, begun])
  obtain ⟨ends, answered⟩ := finish_ends still .ok [byte total]
  have leaves (m : LegId) : ((w.revokeWalk true a total ls).leg m) = u.leg m := by
    rw [run, State.revokeWalk, finish_leg]
  refine ⟨between.frame, between.settled, fun e named => ?_, ?_, ?_, fun m listed => ?_, fun m other => ?_⟩
  · refine (walksKeep_blank e).revokeWalk a total ls true w ((revokeLeg_entry _ _ _ _ _).trans ?_)
    exact (entry e).trans (if_pos named)
  · rw [run]
    exact ends
  · rw [run]
    refine answered.trans ?_
    rw [replies, State.replies, link] <;> rfl
  · rw [leaves]
    obtain rfl | later := List.mem_cons.mp listed
    · have fixed := unbound.others m fresh
      have handedApart := (handed m).2
      exact ⟨(binding_eq_of_fixed fixed).trans binding, (membership_of_fixed fixed).trans
        (membership.trans (handedApart.trans apart))⟩
    · obtain ⟨bindingThen, membershipThen, -⟩ := unbound.legs m later
      exact ⟨bindingThen, membershipThen⟩
  · rw [List.mem_cons, not_or] at other
    have fixed := unbound.others m other.2
    rw [others other.1] at fixed
    obtain ⟨bindingBefore, membershipBefore⟩ := handed m
    rw [leaves]
    exact ⟨(binding_eq_of_fixed fixed).trans bindingBefore, (membership_of_fixed fixed).trans membershipBefore⟩

end Sys2Proof.Machine

/-! SUPPORT. REVOKE in the words of its statement (R43–R45, R139). -/

namespace Sys2Proof.Machine

variable {s t u : State} {h : Header} {p : PatchId} {l m q : LegId} {ls ms pre post : List LegId} {a : AgencyId}

/-- REVOKE between frames whose purges are all asked for before the next tick (R43–R45). -/
theorem revoke_completes {agency : Byte} (ready : s.Ready h) (named : agency.toNat = a.val)
    (idle : s.routes.frame = none) (paced : s.Paced (s.joinedOf (s.revokeList a)).length) :
    ∃ u, exec (.revoke h agency) s = .next (u.finish .ok [byte (s.revokeList a).length]) ∧
      Unbound a (s.revokeBegun h a) u (s.revokeList a) := by
  obtain ⟨u, more, run, unbound, -⟩ := revoke_through ready named idle (List.append_nil _).symm paced
  exact ⟨u, run, unbound⟩

/-- REVOKE between frames with more members than it asks purges for before the next tick (R139; log 7). -/
theorem revoke_waits {agency : Byte} {n : Nat} (ready : s.Ready h) (named : agency.toNat = a.val)
    (idle : s.routes.frame = none) (place : s.walk.beforeTick = some n)
    (next : (s.joinedOf (s.revokeList a))[n + 1]? = some q) :
    ∃ u pre post p, exec (.revoke h agency) s = .next
        (u.waitForTick (.revoke none (q :: post) a (s.revokeList a).length)) ∧
      Unbound a (s.revokeBegun h a) u pre ∧ s.revokeList a = pre ++ q :: post ∧
      s.joinedOf pre = (s.joinedOf (s.revokeList a)).take (n + 1) ∧ (u.leg q).membership = some p := by
  obtain ⟨pre, post, split, taken, member⟩ := split_of_filter next
  obtain ⟨p, joined⟩ := Option.isSome_iff_exists.mp member
  have taken : s.joinedOf pre = (s.joinedOf (s.revokeList a)).take (n + 1) := taken
  have once : (pre ++ q :: post).Nodup := split ▸ revokeList_nodup
  obtain ⟨-, -, across⟩ := List.nodup_append.mp once
  have fresh : q ∉ pre := fun listed => across q listed q (List.mem_cons_self ..) rfl
  have length : (s.joinedOf pre).length = n + 1 := by
    obtain ⟨within, -⟩ := List.getElem?_eq_some_iff.mp next
    rw [taken, List.length_take]
    omega
  obtain ⟨u, more, run, unbound, budget⟩ := revoke_through ready named idle split fun m room => by
    rw [place] at room
    obtain rfl : n = m := by simpa using room
    exact length.le
  have joinedThen : (u.leg q).membership = some p := (unbound.membership fresh).trans joined
  have spent : u.budget more = some 0 := by
    rw [budget, place, length]
    simp
  rw [revokeWalk_waits joinedThen (asksPurge_of_spent (unbound.frame.trans idle) spent)] at run
  exact ⟨u, pre, post, p, run, unbound, split, taken, joinedThen⟩

/-- The bindings and memberships while REVOKE waits for its first member's purge (R44). -/
theorem revokeHeld_legs (unbound : Unbound a (s.revokeBegun h a) u pre)
    (earlier : ∀ m, m ∈ pre ↔ m < l ∧ ((s.leg m).binding.any fun b => b.agency = a) = true)
    (before : ∀ m, m < l → ((s.leg m).binding.any fun b => b.agency = a) = true → (s.leg m).membership = none) :
    (∀ m, ((u.removeMember p l .revoke).1.leg m).binding =
      if m < l ∧ ((s.leg m).binding.any fun b => b.agency = a) = true then none else (s.leg m).binding) ∧
    ∀ m, m ≠ l → ((u.removeMember p l .revoke).1.leg m).membership = (s.leg m).membership := by
  have removed := removed_removeMember (s := u) (p := p) (l := l) .revoke
  refine ⟨fun m => ?_, fun m other => ?_⟩
  · have same : ((u.removeMember p l .revoke).1.leg m).binding = (u.leg m).binding := by
      by_cases here : m = l
      · exact here ▸ removed.binding
      · exact binding_eq_of_fixed (removed.others m here)
    rw [same]
    by_cases listed : m ∈ pre
    · obtain ⟨binding, -⟩ := unbound.legs m listed
      rw [binding, if_pos ((earlier m).mp listed)]
    · rw [if_neg fun first => listed ((earlier m).mpr first)]
      exact binding_eq_of_fixed (unbound.others m listed)
  · rw [membership_of_fixed (removed.others m other)]
    by_cases listed : m ∈ pre
    · obtain ⟨-, none, -⟩ := unbound.legs m listed
      obtain ⟨lower, bound⟩ := (earlier m).mp listed
      rw [none, before m lower bound]
    · exact unbound.membership listed

/-- The legs of the revoke list from one of them on. -/
theorem mem_revokeList_from (bound : ((s.leg l).binding.any fun b => b.agency = a) = true) :
    m ∈ l :: (s.revokeList a).filter (l < ·) ↔ ¬ m < l ∧ ((s.leg m).binding.any fun b => b.agency = a) = true := by
  rw [List.mem_cons, List.mem_filter, mem_revokeList, decide_eq_true_eq, not_lt, le_iff_eq_or_lt]
  refine ⟨fun listed => ?_, fun ⟨order, bound⟩ => order.imp Eq.symm fun above => ⟨bound, above⟩⟩
  obtain rfl | ⟨boundToo, above⟩ := listed
  · exact ⟨.inl rfl, bound⟩
  · exact ⟨.inr above, boundToo⟩

/-- The frame's done completes a REVOKE whose further purges are all asked for before the next tick (R44, R139). -/
theorem revokeHeld_completes {taken : List Taken} {total : Nat} {es : List EntryId} (once : (l :: post).Nodup)
    (progress : (u.revokeHeld a l p post total).link.inProgress =
      some ⟨.revoke, h, .revoke (some (l, p)) post a total⟩)
    (going : (u.revokeHeld a l p post total).context.endDue = none)
    (frame : (u.revokeHeld a l p post total).routes.frame = some taken)
    (one : (u.revokeHeld a l p post total).routes.purges = [⟨.revoke, es⟩])
    (apart : ((u.revokeHeld a l p post total).leg l).membership = none)
    (memberships : ∀ m ∈ post, ((u.revokeHeld a l p post total).leg m).membership = (s.leg m).membership)
    (before : Option Nat) (paced : ∀ n ∈ before, (s.joinedOf post).length ≤ n) :
    let t := u.revokeHeld a l p post total
    ∃ v, exec (.frameDone before) t = .next v ∧ v.routes.frame = none ∧ v.routes.purges = [] ∧
      (∀ e ∈ es, v.entry e = {}) ∧ v.link.inProgress = none ∧
      v.replies = t.replies ++ replyTo h 0x22 [0x00, byte total] ∧
      (∀ m ∈ l :: post, (v.leg m).binding = none ∧ (v.leg m).membership = none) ∧
      ∀ m, m ∉ l :: post → (v.leg m).binding = (t.leg m).binding ∧ (v.leg m).membership = (t.leg m).membership := by
  obtain ⟨ended, none, entries, rest⟩ := revokeResumed_completes (p := p) (a := a) (taken := taken) (before := before)
    (total := total) once progress apart (by rwa [joinedOf_congr memberships])
  exact ⟨_, frameDone_revokes progress going frame one before, ended, none,
    fun e took => entries e (by rw [one]; simpa using took), rest⟩

/-- Settles O30: between frames the walk runs to its end or to the tick; in a frame it waits for its purge. -/
theorem revokeUnbindsEveryLegOfTheAgency : Obligations.RevokeUnbindsEveryLegOfTheAgency := by
  unfold Obligations.RevokeUnbindsEveryLegOfTheAgency
  intro joined
  have members (s : State) (a : AgencyId) : joined s a = s.joinedOf (s.revokeList a) := joined_eq
  refine ⟨?completes, ?inFrame, ?tick⟩
  case completes =>
    intro h agency a s ready named idle paced
    rw [members] at paced
    obtain ⟨u, run, unbound⟩ := revoke_completes ready named idle paced
    obtain ⟨begun, replies⟩ := noticed_begun unbound.noticed rfl
    obtain ⟨ends, answered⟩ := finish_ends begun .ok [byte (s.revokeList a).length]
    obtain ⟨withdrawn, others, plans⟩ := revoke_agencies (t := u.finish .ok [byte (s.revokeList a).length])
      ((finish_directory _ _ _).trans unbound.directory)
    refine ⟨_, run, ends, ?_, withdrawn, others, plans, fun l => ?_⟩
    · rw [answered, replies] <;> rfl
    · rw [finish_leg, finish_gap, finish_notices]
      obtain ⟨emergency, park, config⟩ := unbound.kept l
      refine ⟨emergency, park, config, fun bound => unbound.legs l (mem_revokeList.mpr bound), fun free => ?_⟩
      have fixed := unbound.others l fun listed => by
        rw [mem_revokeList.mp listed] at free
        cases free
      exact ⟨binding_eq_of_fixed fixed, membership_of_fixed fixed⟩
  case inFrame =>
    intro h agency a l p s ready named inFrame bound before joinedNow takes
    have due : s.context.endDue = none := Ready.due ready
    obtain ⟨taken, frame⟩ := Option.isSome_iff_exists.mp inFrame
    have split := split_of_mem revokeList_sorted (mem_revokeList.mpr bound)
    have once : ((s.revokeList a).filter (· < l) ++ l :: (s.revokeList a).filter (l < ·)).Nodup := split ▸ revokeList_nodup
    obtain ⟨-, onceRest, across⟩ := List.nodup_append.mp once
    obtain ⟨fresh, -⟩ := List.nodup_cons.mp onceRest
    have earlier (m : LegId) : m ∈ (s.revokeList a).filter (· < l) ↔
        m < l ∧ ((s.leg m).binding.any fun b => b.agency = a) = true := by
      rw [List.mem_filter, mem_revokeList, decide_eq_true_eq, and_comm]
    have alone : s.joinedOf ((s.revokeList a).filter (· < l)) = [] :=
      List.filter_eq_nil_iff.mpr fun m listed => by
        obtain ⟨lower, boundToo⟩ := (earlier m).mp listed
        rw [before m lower boundToo]
        nofun
    obtain ⟨u, run, unbound, routes, purged, waits⟩ := revoke_holds ready named inFrame split alone joinedNow takes
    have removed := removed_removeMember (s := u) (p := p) (l := l) .revoke
    have demand := removeMember_demand (s := u) (p := p) (l := l) .revoke
    have purges := removeMember_purges .revoke waits
    have purging (e : EntryId) := removeMember_purging (e := e) .revoke waits
    obtain ⟨begun, replies⟩ := noticed_begun (unbound.noticed.trans removed.noticed) rfl
    have progress : (u.revokeHeld a l p ((s.revokeList a).filter (l < ·)) (s.revokeList a).length).link.inProgress =
        some ⟨.revoke, h, .revoke (some (l, p)) ((s.revokeList a).filter (l < ·)) a (s.revokeList a).length⟩ := by
      show Option.map _ (u.removeMember p l .revoke).1.link.inProgress = _
      rw [begun] <;> rfl
    have apart : l ∉ (s.revokeList a).filter (· < l) := fun listed => across l listed l (List.mem_cons_self ..) rfl
    obtain ⟨withdrawn, -⟩ := revoke_agencies (t := u.revokeHeld a l p ((s.revokeList a).filter (l < ·)) (s.revokeList a).length)
      (removed.directory.trans unbound.directory)
    obtain ⟨bindings, memberships⟩ := revokeHeld_legs (p := p) unbound earlier before
    refine ⟨_, run, replies, by rw [progress] <;> rfl, withdrawn, removed.apart, demand, bindings, memberships, ?_,
      fun e took => purging e (purged.symm ▸ took), fun lone beforeTick paced => ?_⟩
    · refine purges.trans ?_
      rw [routes, purged]
    · have count : joined s a = l :: s.joinedOf ((s.revokeList a).filter (l < ·)) := by
        rw [members]
        refine (congrArg s.joinedOf split).trans ((List.filter_append ..).trans ?_)
        exact (congrArg (· ++ _) alone).trans (joinedOf_cons_joined joinedNow)
      have bounded (n : Nat) (room : n ∈ beforeTick) : (s.joinedOf ((s.revokeList a).filter (l < ·))).length ≤ n := by
        have most := paced n room
        rw [count, List.length_cons] at most
        omega
      obtain ⟨v, done, ended, none, entries, idle, answered, unbinds, keeps⟩ := revokeHeld_completes onceRest progress
        (removed.going (unbound.going due)) ((removed.frame.trans unbound.frame).trans frame)
        (purges.trans (by rw [routes, lone, purged, List.nil_append])) removed.apart
        (fun m listed => memberships m (ne_of_mem_of_not_mem listed fresh)) beforeTick bounded
      refine ⟨v, done, ended, none, entries, idle, answered.trans (congrArg (· ++ _) replies), fun m => ?_⟩
      have named := mem_revokeList_from (m := m) bound
      split
      next boundToo =>
        by_cases lower : m < l
        · obtain ⟨binding, membership⟩ := keeps m fun listed => (named.mp listed).1 lower
          exact ⟨binding.trans ((bindings m).trans (if_pos ⟨lower, boundToo⟩)),
            membership.trans ((memberships m lower.ne).trans (before m lower boundToo))⟩
        · exact unbinds m (named.mpr ⟨lower, boundToo⟩)
      next free =>
        obtain ⟨binding, membership⟩ := keeps m fun listed => free (named.mp listed).2
        have other : m ≠ l := fun here => free (here ▸ bound)
        exact ⟨binding.trans ((bindings m).trans (if_neg fun first => free first.2)),
          membership.trans (memberships m other)⟩
  case tick =>
    intro h agency a n s ready named idle place more
    rw [members] at more ⊢
    have due : s.context.endDue = none := Ready.due ready
    obtain ⟨u, pre, post, p, run, unbound, split, taken, joinedNow⟩ :=
      revoke_waits (h := h) ready named idle place (List.getElem?_eq_getElem more)
    obtain ⟨begun, replies⟩ := noticed_begun unbound.noticed rfl
    obtain ⟨waits, unanswered, tick⟩ := waitForTick_waits begun
      (.revoke none ((s.joinedOf (s.revokeList a))[n + 1] :: post) a (s.revokeList a).length)
    obtain ⟨withdrawn, -⟩ := revoke_agencies (t := u.waitForTick
      (.revoke none ((s.joinedOf (s.revokeList a))[n + 1] :: post) a (s.revokeList a).length)) unbound.directory
    refine ⟨_, run, unanswered.trans replies, by rw [waits] <;> rfl, tick, withdrawn, fun l first => ?_, fun l left => ?_,
      fun l next inbound order => ?_⟩
    · rw [← taken] at first
      obtain ⟨listed, -⟩ := mem_joinedOf.mp first
      obtain ⟨binding, membership, -⟩ := unbound.legs l listed
      exact ⟨binding, membership⟩
    · have once : (s.joinedOf (s.revokeList a)).Nodup := revokeList_nodup.filter _
      rw [← List.take_append_drop (n + 1) (s.joinedOf (s.revokeList a))] at once
      obtain ⟨-, -, across⟩ := List.nodup_append.mp once
      have fixed := unbound.others l fun listed => by
        obtain ⟨-, member⟩ := mem_joinedOf.mp (List.mem_of_mem_drop left)
        refine across l ?_ l left rfl
        rw [← taken]
        exact mem_joinedOf.mpr ⟨listed, member⟩
      exact ⟨binding_eq_of_fixed fixed, membership_of_fixed fixed⟩
    · obtain rfl : _ = l := Option.some.inj ((List.getElem?_eq_getElem more).symm.trans next)
      exact revoke_goesOn waits tick (unbound.going due) (unbound.frame.trans idle) joinedNow inbound order

end Sys2Proof.Machine
